-- ==== Sys2Proof/Word.lean ====
section
/-!
DEFINITION. The word types of the manual (registers are 32 bits wide, memory is bytes) and the plain helpers on
numbers that the manual's pseudocode uses: two's complement reading, saturation at a named width.
-/

namespace Sys2Proof

/-- A register or a 32-bit word. -/
abbrev Word := BitVec 32

/-- The smallest addressable unit of every memory of the set. -/
abbrev Byte := BitVec 8

end Sys2Proof
end

