-- ==== Sys2Proof/Machine/Tab.lean ====
section
/-!
DEFINITION. Sparse tables: a list of (key, value) pairs in one canonical form (keys strictly rising, no entry equal to
what an unlisted key reads as). Memories, register files and the per-cell, per-lane and per-slot tables of the blocks
are such tables, so that equal contents are equal data.
-/

namespace Sys2Proof.Machine

/-- A sparse table from numbers to values of one type. -/
abbrev Tab (α : Type) := List (Nat × α)

namespace Tab

variable {α : Type}

/-- The value at key `k`; `d` is what an unlisted key reads as. -/
def get (d : α) : Tab α → Nat → α
  | [], _ => d
  | (a, v) :: t, k => if a = k then v else get d t k

/-- Put `v` at key `k`, keeping the keys in rising order. -/
def put : Tab α → Nat → α → Tab α
  | [], k, v => [(k, v)]
  | (a, w) :: t, k, v => if k < a then (k, v) :: (a, w) :: t else if a = k then (k, v) :: t else (a, w) :: put t k v

/-- Remove every entry at key `k`. -/
def del (t : Tab α) (k : Nat) : Tab α := t.filter (fun e => e.1 ≠ k)

/-- Write `v` at key `k`: the value an unlisted key reads as removes the entry. -/
def set [DecidableEq α] (d : α) (t : Tab α) (k : Nat) (v : α) : Tab α := if v = d then del t k else put t k v

/-- Change the value at key `k` by a function. -/
def upd [DecidableEq α] (d : α) (t : Tab α) (k : Nat) (f : α → α) : Tab α := set d t k (f (get d t k))

/-- Keys strictly rising. -/
def sorted : Tab α → Bool
  | [] => true
  | (a, _) :: t => t.all (fun e => decide (a < e.1)) && sorted t

/-- The canonical form: keys strictly rising and no entry equal to the default. -/
def wf [DecidableEq α] (d : α) (t : Tab α) : Bool := sorted t && t.all (fun e => decide (e.2 ≠ d))

end Tab

end Sys2Proof.Machine
end

