-- ==== Sys2Proof/Machine/Bits.lean ====
section
/-!
DEFINITION. Bit-field, sign and saturation helpers used by every block.
-/

namespace Sys2Proof.Machine

/-- Bits [lo+w-1:lo] of a number. -/
def bits (v lo w : Nat) : Nat := v / 2 ^ lo % 2 ^ w

/-- Bit `b` of a number. -/
def bit (v b : Nat) : Bool := v.testBit b

/-- A number with bit `b` set to `x`. -/
def setBit (v b : Nat) (x : Bool) : Nat := if v.testBit b = x then v else if x then v + 2 ^ b else v - 2 ^ b

/-- Two's complement reading of the low `w` bits (w > 0). -/
def toS (w v : Nat) : Int :=
  if 2 * (v % 2 ^ w) < 2 ^ w then ((v % 2 ^ w : Nat) : Int) else ((v % 2 ^ w : Nat) : Int) - ((2 ^ w : Nat) : Int)

/-- Two's complement encoding of an integer in `w` bits, wrapping. -/
def ofS (w : Nat) (x : Int) : Nat := (x % ((2 ^ w : Nat) : Int)).toNat

/-- Saturation of an integer at the range of a signed `w`-bit number. -/
def satS (w : Nat) (x : Int) : Int :=
  if x < -((2 ^ (w - 1) : Nat) : Int) then -((2 ^ (w - 1) : Nat) : Int)
  else if ((2 ^ (w - 1) : Nat) : Int) - 1 < x then ((2 ^ (w - 1) : Nat) : Int) - 1 else x

/-- Whether an integer lies outside the range of a signed `w`-bit number. -/
def overS (w : Nat) (x : Int) : Bool := decide (satS w x ≠ x)

/-- Saturation of a number at the range of an unsigned `w`-bit number. -/
def satU (w x : Nat) : Nat := if x < 2 ^ w then x else 2 ^ w - 1

/-- Rounding of `x / 2^n` to the nearest integer, halves away towards +infinity. -/
def rshR (x : Int) (n : Nat) : Int := if n = 0 then x else (x + 2 ^ (n - 1)) / 2 ^ n

/-- Clamp between two integers. -/
def clampI (lo hi x : Int) : Int := if x < lo then lo else if hi < x then hi else x

/-- The number of one bits among the low `w` bits. -/
def popCount : Nat → Nat → Nat
  | 0, _ => 0
  | w + 1, v => popCount w v + (if v.testBit w then 1 else 0)

/-- Element `i` of a list, with a default. -/
def nth {α : Type} (d : α) (l : List α) (i : Nat) : α := l.getD i d

/-- The numbers 0 … n-1 that satisfy a test, in rising order. -/
def below (n : Nat) (p : Nat → Bool) : List Nat := (List.range n).filter p

/-- Whether a number is a member of a list. -/
def has (l : List Nat) (x : Nat) : Bool := l.contains x

/-- A list with a number removed. -/
def without (l : List Nat) (x : Nat) : List Nat := l.filter (fun y => y ≠ x)

/-- Keep the newest `n` entries of a list whose newest entry comes last. -/
def keepLast {α : Type} (n : Nat) (l : List α) : List α := l.drop (l.length - n)

end Sys2Proof.Machine
end

