-- ==== Sys2Proof/Machine/Reg.lean ====
section
/-!
DEFINITION. Registers and their fields (R4, R5, R6): what a register table of the manual says of one register, and the
register file that holds the values.
-/

namespace Sys2Proof.Machine

/-- The three parts of the set (R1). -/
inductive Part where
  | gloesk | stanak | ihloon
  deriving DecidableEq, Repr

/-- The access classes of the register tables. -/
inductive Access where
  | ro | rw | wo | w1c | w1s | rc | st
  deriving DecidableEq, Repr

/-- What besides a plain write may change a field: a staged record (R53), a settings bundle, an owner-signed cell
settings record (R214), the station map (R191). -/
inductive Kind where
  | plain | staged | bundle | signed | map
  deriving DecidableEq, Repr

/-- One register of the map, or an array of `count` registers `stride` bytes apart. `rst` is the reset value; `rsts`
lists the reset values of an array whose entries differ. -/
structure Reg where
  part : Part
  addr : Nat
  stride : Nat
  count : Nat
  rst : Nat
  rsts : List Nat
  deriving DecidableEq, Repr

/-- A field: bits [lo+wid-1:lo] of a register. -/
structure Fld where
  reg : Reg
  lo : Nat
  wid : Nat
  acc : Access
  kind : Kind
  deriving DecidableEq, Repr

/-- The reset value of entry `i` of a register. -/
def Reg.reset (r : Reg) (i : Nat) : Word := BitVec.ofNat 32 (r.rsts.getD i r.rst)

/-- The address of entry `i` of a register. -/
def Reg.at (r : Reg) (i : Nat) : Nat := r.addr + r.stride * i

/-- Which entry of a register lies at an address. -/
def Reg.index (r : Reg) (a : Nat) : Option Nat :=
  if a = r.addr then some 0
  else if r.stride = 0 ∨ a < r.addr ∨ (a - r.addr) % r.stride ≠ 0 ∨ r.count ≤ (a - r.addr) / r.stride then none
  else some ((a - r.addr) / r.stride)

/-- The mask of a field. -/
def Fld.mask (f : Fld) : Word := BitVec.ofNat 32 ((2 ^ f.wid - 1) * 2 ^ f.lo)

/-- The value of a field within its register's word. -/
def Fld.ofWord (f : Fld) (w : Word) : Nat := w.toNat / 2 ^ f.lo % 2 ^ f.wid

/-- The register's word with the field set to the low bits of `v`. -/
def Fld.into (f : Fld) (w : Word) (v : Nat) : Word :=
  (w &&& ~~~ f.mask) ||| BitVec.ofNat 32 (v % 2 ^ f.wid * 2 ^ f.lo)

/-- The fields of the register at an address, each with its entry. -/
def fieldsAt (l : List Fld) (a : Nat) : List (Fld × Nat) := l.filterMap (fun f => (f.reg.index a).map (fun i => (f, i)))

/-- A register file: the registers whose value is not their reset value, by address. -/
abbrev RegFile := Tab Word

namespace RegFile

/-- The value of entry `i` of register `r`. -/
def reg (rf : RegFile) (r : Reg) (i : Nat) : Word := Tab.get (r.reset i) rf (r.at i)

/-- Write the value of entry `i` of register `r`. -/
def setReg (rf : RegFile) (r : Reg) (i : Nat) (w : Word) : RegFile := Tab.set (r.reset i) rf (r.at i) w

/-- The value of a field. -/
def fld (rf : RegFile) (f : Fld) (i : Nat) : Nat := f.ofWord (rf.reg f.reg i)

/-- Write a field and no other bit. -/
def setFld (rf : RegFile) (f : Fld) (v i : Nat) : RegFile := rf.setReg f.reg i (f.into (rf.reg f.reg i) v)

/-- Add to a counter field, which holds its maximum once it is reached (R6). -/
def addSat (rf : RegFile) (f : Fld) (n i : Nat) : RegFile := rf.setFld f (satU f.wid (rf.fld f i + n)) i

end RegFile

end Sys2Proof.Machine
end

