-- ==== Sys2Proof/Machine/StBlotter.lean ====
section
/-!
DEFINITION. State of the Gloesk's Blotter (R357-R378).
-/

namespace Sys2Proof.Machine

/-- Who holds or reports a source: nobody in particular, an arm, a cell, a hub (pair and plane), a hub port. -/
inductive Who where
  | none
  | arm (a : Nat)
  | cell (addr : Nat)
  | hub (pair : Nat) (plane : Nat)
  | port (pair : Nat) (plane : Nat) (port : Nat)
  | pair (h : Nat)
  deriving DecidableEq, Repr

/-- The hub pair behind a holder (R10, R11). -/
def Who.pairOf : Who → Option Nat
  | .none => Option.none
  | .arm _ => Option.none
  | .cell x => some (x / 256)
  | .hub p _ => some p
  | .port p _ _ => some p
  | .pair h => some h

/-- An edge of a source's cause that a block reports. -/
structure Edge where
  src : Nat
  rise : Bool
  who : Who
  deriving DecidableEq, Repr

/-- An entry of the event log (R373). -/
structure LogEntry where
  src : Nat
  rise : Bool
  forced : Bool
  coalesced : Bool
  who : Nat
  count : Nat
  ns : Nat
  sec : Nat
  deriving DecidableEq, Repr

/-- A Blotter action with its arm or cell and the input set named for it (R363). -/
structure BltAction where
  /-- 0 Block, 1 Trip, 3 Bypass, as the action mask numbers them -/
  act : Nat
  who : Who
  src : Nat
  set : Nat
  /-- Baseline time of the edge that called for it, 2^-32 ns, and whether that edge was forced -/
  time : Nat
  forced : Bool
  deriving DecidableEq, Repr

/-- A Blotter record as a BULK block carries it (R371): source number (0xFF for a cell that cannot be read), origin
Stanak, who reports, SET, CAUSE, FORCED, COUNT, strokes of the first and the last edge. -/
structure BltRecord where
  src : Nat
  hub : Bool
  who : Who
  set : Bool
  cause : Bool
  forced : Bool
  count : Nat
  first : Nat
  last : Nat
  deriving DecidableEq, Repr

/-- What the Gloesk holds of a reporter's source (R372). -/
structure RemoteRec where
  cause : Bool
  count : Nat
  deriving DecidableEq, Repr

/-- Persistence of a class B edge (R358). -/
structure Persist where
  src : Nat
  who : Who
  /-- time of the edge and whether it was forced -/
  time : Nat
  forced : Bool
  /-- boundaries left until the action applies -/
  left : Nat
  deriving DecidableEq, Repr

/-- Hidden state of the BLT block. -/
structure BlotterState where
  /-- who holds a source's condition -/
  holders : List (Nat × Who)
  /-- sources whose cause is held by the force bit -/
  forced : List Nat
  /-- for an event source with CAUSE 1, by holder: 1 + the boundaries still to come before its cause falls -/
  eventLeft : Tab Nat
  /-- persistence of class B edges -/
  persist : List Persist
  /-- persistence met and not yet acted on -/
  due : List Persist
  /-- unread log entries, oldest first -/
  log : List LogEntry
  /-- sources with events coalesced while the log was full -/
  coalesced : List Nat
  /-- Blotter bypass marks: cell address to source number + 1 (R359) -/
  marks : Tab Nat
  /-- Blotter blocks: arms blocked by the Blotter -/
  blocks : List Nat
  /-- actions named by this twin or its partner and not yet applied -/
  actions : List BltAction
  /-- remote records held, by source and reporter -/
  remote : List (Nat × Who × RemoteRec)
  /-- class A edges in the last 1 ms: their Baseline times, 2^-32 ns -/
  edgesA : List Nat
  /-- the minimum pulse of ALERT_Nn runs; a REL is held for it -/
  pulse : List Nat
  relHeld : List Nat
  deriving DecidableEq, Repr

/-- Reset of the Blotter: no cause, nothing blocked. -/
def BlotterState.reset : BlotterState :=
  { holders := [], forced := [], eventLeft := [], persist := [], due := [], log := [], coalesced := [], marks := [],
    blocks := [], actions := [], remote := [], edgesA := [], pulse := [], relHeld := [] }

/-- Hidden state of the Blotter of an Ihloon or a Stanak (R370). -/
structure LocalBlotter where
  /-- for an event source with CAUSE 1: 1 + the boundaries still to come before its cause falls -/
  eventLeft : Tab Nat
  /-- sources whose condition holds, whatever the force bit -/
  held : List Nat
  /-- port of a hub source's last edge, where the source belongs to a port (R361) -/
  port : Tab Nat
  deriving DecidableEq, Repr

def LocalBlotter.reset : LocalBlotter := { eventLeft := [], held := [], port := [] }

end Sys2Proof.Machine
end

