-- ==== Sys2Proof/Machine/StAq.lean ====
section
/-!
DEFINITION. State of the acquisition block of an Ihloon or of the Gloesk, and of the Gloesk's reference arbiters
(R218-R240).
-/

namespace Sys2Proof.Machine

/-- One result of the converter (R223, R227): of entry `entry`, or of the urgent source `entry`. -/
structure AqRes where
  entry : Nat
  /-- 14 bits, two's complement -/
  value : Nat
  sat : Bool
  slot : Nat
  stroke : Nat
  deriving DecidableEq, Repr

/-- Hidden state of an acquisition block. -/
structure AqState where
  /-- slots of the present stroke that have begun -/
  slot : Nat
  /-- the running entry; none: the rest of the stroke is idle (LAST = 0) -/
  entry : Option Nat
  /-- idle slots before its first conversion -/
  wait : Nat
  /-- conversions made; valid ones, their sum, the last valid one, an over-range among them, the slot of the last -/
  made : Nat
  good : Nat
  sum : Int
  last : Nat
  sat : Bool
  lastSlot : Nat
  /-- results on their way to their registers, oldest first -/
  coming : List AqRes
  urgComing : List AqRes
  /-- results written, newest last, as far as a report may need them (R224), the last 32 of each entry -/
  hist : List AqRes
  /-- pending urgent request: source, input, and on a cell the instant of its registration (R228) -/
  urgent : Option (Nat × Nat × Option Int)
  /-- the check conversion of this stroke has been made (R231) -/
  checked : Bool
  /-- cross-check filter y of R231 and the check conversions made -/
  filt : Int
  checks : Nat
  /-- AQ_CTRL.EN was written 1: RUN at the next boundary; the sequencer restarts there (R226) -/
  start : Bool
  /-- conversion stopped with the main clocks (R226) -/
  stopped : Bool
  deriving DecidableEq, Repr

def AqState.reset : AqState :=
  { slot := 0, entry := none, wait := 0, made := 0, good := 0, sum := 0, last := 0, sat := false, lastSlot := 0,
    coming := [], urgComing := [], hist := [], urgent := none, checked := false, filt := 6400 * 65536, checks := 0,
    start := false, stopped := false }

/-- A reference arbiter (R234-R237). -/
structure Arbiter where
  /-- the suspect cell and its reported drift in ppm -/
  cell : Nat
  d : Int
  /-- first input set examined, once one was -/
  first : Option Nat
  /-- the last 4,096 input sets, newest last: number, arm blocked, aggregate 2, and the cell's Vc with whether it counts,
  where it was eligible -/
  ring : List (Nat × Bool × Int × Option (Int × Bool))
  s0 : Int
  s1 : Int
  v1 : Int
  n0 : Nat
  n1 : Nat
  /-- index of the last sample taken -/
  sample : Option Nat
  deriving DecidableEq, Repr

/-- The arbiters: running ones by arm, and hold-outs decided and not yet in effect: (arm, cell, input set) (R237). -/
structure ArbiterState where
  run : List (Nat × Arbiter)
  holdOuts : List (Nat × Nat × Nat)
  deriving DecidableEq, Repr

def ArbiterState.reset : ArbiterState := { run := [], holdOuts := [] }

end Sys2Proof.Machine
end

