-- ==== Sys2Proof/Machine/StQuill.lean ====
section
/-!
DEFINITION. State of the Quill and Quill-S cores and of Ductus (R258-R305).
-/

namespace Sys2Proof.Machine

/-- A core: a Quill pair, or the Quill-S. -/
inductive CoreId where
  | q (n : Fin 16)
  | s
  deriving DecidableEq, Repr

/-- FLAGS (R260). -/
structure Flags where
  n : Bool
  z : Bool
  c : Bool
  v : Bool
  q : Bool
  aq : Bool
  deriving DecidableEq, Repr

def Flags.reset : Flags := ⟨false, false, false, false, false, false⟩

/-- A background move (R276, R277): MVIN when `inward`; Inkwell address, scratch address, bytes,
and the task whose tag it holds (none: abandoned, R280). -/
structure QuillMove where
  owner : Option Nat
  tag : Nat
  inward : Bool
  ink : Nat
  scr : Nat
  len : Nat
  deriving DecidableEq, Repr

/-- One core: a Quill pair, or the Quill-S. -/
structure Core where
  /-- w1-w31; w0 is never held (R259) -/
  w : Tab Word
  pc : Nat
  flags : Flags
  /-- acc0-acc7, 48 bits (R271) -/
  acc : Tab Int
  /-- instruction and data scratch of a Quill, SRAM of the Quill-S, by byte address (R261, R262) -/
  mem : Tab Byte
  xcause : Nat
  xpc : Nat
  xaddr : Nat
  xvec : Nat
  xstat : Nat
  ien : Nat
  ipend : Nat
  /-- CSR latches STROKEH and CYCLEH -/
  strokeH : Nat
  cycleH : Nat
  /-- ECCCNT, and the counters of QDBG_ECC -/
  ecc : Nat
  dbgCe : Nat
  dbgUe : Nat
  istat : Nat
  /-- tags 0-3 of the running task: 0 not in use, 1 + status complete and not yet waited for (R277); the background moves
  outstanding on this core -/
  tags : Tab Nat
  moves : List QuillMove
  /-- bytes of the instruction scratch as fetches still see them: MVIN since the last FENCE (R276) -/
  stale : Tab (Option Byte)
  halted : Bool
  /-- a halted core executes one instruction and halts again (R286) -/
  stepping : Bool
  fenced : Bool
  brkEn : Bool
  /-- QDBG_ACCnH as latched or written, by accumulator -/
  accH : Tab Nat
  /-- task dispatched or last run, and its effective dispatch (R286) -/
  task : Nat
  busy : Bool
  /-- an access to a hub window stalls the core: its transaction number -/
  stall : Option Nat
  /-- region cache: (key of the region, base, size, rights) (R321, R324) -/
  regions : List (Nat × Nat × Nat × Nat)
  deriving DecidableEq, Repr

def Core.reset : Core :=
  { w := [], pc := 0, flags := Flags.reset, acc := [], mem := [], xcause := 0, xpc := 0, xaddr := 0, xvec := 0x100,
    xstat := 0, ien := 0, ipend := 0, strokeH := 0, cycleH := 0, ecc := 0, dbgCe := 0, dbgUe := 0, istat := 0,
    tags := [], moves := [], stale := [], halted := false, stepping := false, fenced := false, brkEn := false, accH := [], task := 0, busy := false,
    stall := none, regions := [] }

/-- Hidden state of Ductus (R287-R304). -/
structure DuctusState where
  /-- READY tasks; within one effective priority the first in the list is the head -/
  ready : List Nat
  /-- wake strokes of tasks in WAIT_S -/
  wakeS : Tab Nat
  /-- tasks in WAIT_A: task, channel, remaining count -/
  wakeA : List (Nat × Nat × Int)
  /-- wait queues of the locks, in order of arrival -/
  queues : Tab (List Nat)
  /-- tasks whose wait for a lock has been reported as too long -/
  lockLate : List Nat
  /-- stroke in which a task entered WAIT_L -/
  lockFrom : Tab Nat
  /-- cores that run a task, the latest started last -/
  runs : List Nat
  /-- a pre-emption that waits for the core's instruction boundary; withdrawn cores are among them (R297, R302) -/
  preempt : List Nat
  /-- tasks that start afresh at their next dispatch (R289) -/
  fresh : List Nat
  /-- results that a woken task finds: task, register, value -/
  results : List (Nat × Nat × Nat)
  /-- tasks made READY by a tick: task and Baseline time, 2^-32 ns -/
  ticked : List (Nat × Nat)
  /-- register that receives the result of a wait or lock, by task -/
  dest : Tab Nat
  /-- tags and their status of tasks without a core -/
  tags : Tab (Tab Nat)
  deriving DecidableEq, Repr

def DuctusState.reset : DuctusState :=
  { ready := [], wakeS := [], wakeA := [], queues := [], lockLate := [], lockFrom := [], runs := [], preempt := [],
    fresh := [], results := [], ticked := [], dest := [], tags := [] }

end Sys2Proof.Machine
end

