-- ==== Sys2Proof/Machine/StCell.lean ====
section
/-!
DEFINITION. State of the Ihloon: words held, nib module, protection island, reservoir, keeper, firmware banks
(R182-R257).
-/

namespace Sys2Proof.Machine

/-- The states of the nib outputs (R193). -/
inductive NibState where
  | z | ip | ineg | b | y
  deriving DecidableEq, Repr

/-- The code of NIB_STAT.STATE. -/
def NibState.code : NibState → Nat
  | .z => 0 | .ip => 1 | .ineg => 2 | .b => 3 | .y => 4

/-- A stroke word held for its target (R182). -/
structure HeldWord where
  plane : Nat
  t : Nat
  word : Nat
  deriving DecidableEq, Repr

/-- What the cell reports of the word of one stroke (R168). -/
structure WordInfo where
  t : Nat
  hold : Bool
  pdiff : Bool
  eout : Bool
  deriving DecidableEq, Repr

/-- The nib module (R193-R202, R210). Instants are absolute, in 250 ps steps of cell time. -/
structure NibModule where
  /-- state and instant of the last edge planned (R198) -/
  cur : NibState
  last : Option Int
  /-- planned edges not yet executed, and outputs that turn on after their dead time: (instant, output) -/
  plan : List (Int × NibState)
  turnOn : List (Int × Nat)
  /-- levels of NIB0-NIB3, bits 0-3, and the instant each last rose -/
  levels : Nat
  rose : Tab Int
  /-- state as executed -/
  state : NibState
  /-- an enable was accepted: EN_ACT at the next boundary (R202) -/
  starting : Bool
  resuming : Bool
  /-- word chosen for a stroke and not planned while frozen -/
  waiting : Option (Nat × Nat)
  /-- EDGE and POL of the last executed word when it was CARRIER (R195) -/
  carrier : Option (Nat × Nat)
  /-- stroke whose accepted word the module starts: it strobes the island there (R208) -/
  strobe : Option Nat
  /-- strokes with a suppressed pulse, the latest three (R168, R198) -/
  supp : List Nat
  /-- stroke at whose boundary an accepted BYPASS word fires the bypass while the module is disabled (R213) -/
  bypassAt : Option Nat
  deriving DecidableEq, Repr

def NibModule.reset : NibModule :=
  { cur := .b, last := none, plan := [], turnOn := [], levels := 0, rose := [], state := .b, starting := false,
    resuming := false, waiting := none, carrier := none, strobe := none, supp := [], bypassAt := none }

/-- The protection island beside its registers (R203-R214). -/
structure IslandState where
  /-- trips that hold a local block latch; trips that have acted since their input became active -/
  tripLatch : List Nat
  tripDone : List Nat
  ovpLatch : Bool
  /-- a safe action is in force: none, block (false) or bypass (true) -/
  safe : Option Bool
  /-- local block of the reserve action with BO_BYP = 0 (R248) -/
  resvBlock : Bool
  /-- link silence is armed (R208) -/
  silence : Bool
  /-- BYP_N is driven low -/
  bypLow : Bool
  /-- a trip has acted since the last report -/
  tripd : Bool
  /-- levels of AUX0 and AUX1 -/
  aux0 : Nat
  aux1 : Nat
  /-- the island's power-on reset is released (R242) -/
  power : Bool
  deriving DecidableEq, Repr

def IslandState.reset : IslandState :=
  { tripLatch := [], tripDone := [], ovpLatch := false, safe := none, resvBlock := false, silence := false,
    bypLow := false, tripd := false, aux0 := 0, aux1 := 0, power := false }

/-- The keeper domain, which runs from VKEEP (R252). -/
structure Keeper where
  counter : Nat
  /-- tamper log, newest last, at most 16 entries (counter, cause); entries ever written -/
  tamper : List (Nat × Nat)
  tamperTotal : Nat
  bypass : Bool
  first : List Nat
  last : List Nat
  /-- records since the last RSV_LFRCLR -/
  records : Nat
  /-- the attestation counter was lost (R254, R430) -/
  counterLost : Bool
  deriving DecidableEq, Repr

def Keeper.reset : Keeper :=
  { counter := 0, tamper := [], tamperTotal := 0, bypass := false, first := [], last := [], records := 0, counterLost := false }

/-- The items of the keeper domain, each with its CRC (R252, R254). -/
inductive KeeperItem where
  | counter | tamper | bypass | first | last
  deriving DecidableEq, Repr

/-- Reservoir and bring-up (R241-R250). -/
structure ReservoirState where
  /-- energies of the last conversions in µJ, newest last: the last 1 ms (R246) -/
  energy : List Nat
  /-- consecutive conversions with E ≤ RESV, and below FLOOR -/
  low : Nat
  belowFloor : Nat
  /-- the last conversion gave more than FLOOR (R242) -/
  above : Bool
  /-- the reserve action has been taken in this power cycle of the main domain -/
  taken : Bool
  /-- the main domain runs (reset released, no brown-out); its clocks run -/
  main : Bool
  clocks : Bool
  booted : Bool
  /-- the attestation exchange of this stage 3 has completed -/
  attested : Bool
  /-- the island may set NIB_CTRL.EN itself (R250) -/
  auto : Bool
  deriving DecidableEq, Repr

def ReservoirState.reset : ReservoirState :=
  { energy := [], low := 0, belowFloor := 0, above := false, taken := false, main := false, clocks := false, booted := false,
    attested := false, auto := true }

/-- The flash banks and their loader (R255, R256). -/
structure FlashState where
  /-- bytes of bank 0 and, from 0x100000, of bank 1 -/
  mem : Tab Byte
  /-- blocks of the idle bank written since its erase, and the image length in blocks once block 0 has come -/
  written : List Nat
  length : Nat
  /-- a check of the idle image runs; SVN and ADV of the image found good (R425) -/
  verifying : Bool
  svn : Nat
  adv : Bool
  /-- settings records stored, newest first: SEQ and items (R426) -/
  settings : Option (Nat × List (Nat × Nat))
  deriving DecidableEq, Repr

def FlashState.reset : FlashState := { mem := [], written := [], length := 32256, verifying := false, svn := 0, adv := false, settings := none }

/-- A WAITS of the Quill-S (R274): its stroke, result register and pc; while `asleep` the core does not execute. -/
structure CellWait where
  target : Nat
  rd : Nat
  pc : Nat
  asleep : Bool
  deriving DecidableEq, Repr

/-- Hidden state of the cell controller. -/
structure CellState where
  words : List HeldWord
  info : Option WordInfo
  /-- claim, twin and plane of the last word executed (R168) -/
  lastAcc : Nat × Nat × Nat
  nib : NibModule
  isl : IslandState
  aq : AqState
  core : Core
  /-- the WAITS that the Quill-S has not completed (R274) -/
  waitsFor : Option CellWait
  rsv : ReservoirState
  keep : Keeper
  fw : FlashState
  /-- signed settings accepted and not yet in effect: offset and value (R214) -/
  signed : List (Nat × Nat)
  deriving DecidableEq, Repr

def CellState.reset : CellState :=
  { words := [], info := none, lastAcc := (0, 0, 0), nib := NibModule.reset, isl := IslandState.reset,
    aq := AqState.reset, core := Core.reset, waitsFor := none, rsv := ReservoirState.reset, keep := Keeper.reset,
    fw := FlashState.reset, signed := [] }

end Sys2Proof.Machine
end

