-- ==== Sys2Proof/Machine/StLoop.lean ====
section
/-!
DEFINITION. State of the Loop Engine, of Flourish and of the trace taps (R98-R141).
-/

namespace Sys2Proof.Machine

/-- An execution lane within the present tier (R99, R110). -/
structure LaneState where
  /-- the slot whose words run, and its next word -/
  slot : Option Nat
  pc : Nat
  /-- the lane's 48-bit accumulator -/
  acc : Int
  /-- words still to be skipped (R108) -/
  skip : Nat
  /-- INT words hold in this execution (R115) -/
  hold : Bool
  /-- the clamp state and first flag at the start of this execution -/
  wasClamped : Bool
  isFirst : Bool
  /-- slots of this lane and tier still to run -/
  rest : List Nat
  deriving DecidableEq, Repr

def LaneState.idle : LaneState :=
  { slot := none, pc := 0, acc := 0, skip := 0, hold := false, wasClamped := false, isFirst := false, rest := [] }

/-- A loop window (R99). -/
structure LoopWindow where
  /-- its input set -/
  k : Nat
  tier : Nat
  lanes : List LaneState
  /-- slots that have executed in this window -/
  ran : List Nat
  /-- slots that saturated and slots whose INT held in this window -/
  sat : List Nat
  held : List Nat
  /-- deliveries to destinations: DEST, value, valid as a Flourish input (R132) -/
  out : List (Nat × Int × Bool)
  deriving DecidableEq, Repr

/-- Hidden state of the Loop Engine. -/
structure LoopState where
  /-- LPE_CTRL.EN at the last stroke-cycle start -/
  enabled : Bool
  /-- program words of both banks: bank × 8192 + index -/
  prog : Tab (BitVec 64)
  /-- coefficients (18 bits) and their FIXED bits -/
  coef : Tab (BitVec 18)
  fixed : Tab Bool
  /-- locals and their initial values: slot × 16 + j -/
  locals : Tab Word
  initLocals : Tab Word
  /-- computed output, last output delivered while closed, delivered output, by slot -/
  yc : Tab Word
  lastY : Tab Word
  y : Tab Word
  /-- delivered outputs before the present window opened (R111) -/
  yBefore : Tab Word
  /-- group outputs now and before the present window -/
  grp : Tab Word
  grpBefore : Tab Word
  /-- slots whose next execution is the first after close or start -/
  first : List Nat
  /-- slots open at their last execution -/
  lastOpen : List Nat
  /-- slots that an uncorrectable error opened (R123) -/
  eccOpen : List Nat
  /-- groups that have had a winner (R117) -/
  won : List Nat
  /-- the operand buffer of input map entries -/
  buffer : Tab Word
  /-- arm aggregates for operand class 5: arm × 8 + item -/
  agg : Tab Word
  window : Option LoopWindow
  deriving DecidableEq, Repr

def LoopState.reset : LoopState :=
  { enabled := false, prog := [], coef := [], fixed := [], locals := [], initLocals := [], yc := [], lastY := [], y := [],
    yBefore := [], grp := [], grpBefore := [], first := [], lastOpen := [], eccOpen := [], won := [], buffer := [], agg := [], window := none }

/-- A trace entry captured and not yet written (R139). -/
structure TraceEntry where
  tap : Nat
  word : Nat
  deriving DecidableEq, Repr

/-- Hidden state of Flourish and the taps. -/
structure FlourishState where
  /-- written map of each table as a bit set -/
  written : Tab Nat
  sum : Tab Int
  count : Tab Nat
  /-- i(k - 1) plus 1, 0 while it is not defined (R134) -/
  prevIdx : Tab Nat
  /-- travel in the last window was backward -/
  prevBack : Bool
  /-- i(k) and phi(k) of the present window -/
  idx : Tab Nat
  phi : Tab Nat
  /-- consecutive windows inside the velocity window since the table froze -/
  good : Tab Nat
  /-- tables that became enabled or were cleared and freeze in the next window -/
  fresh : List Nat
  /-- the last commit saturated, was skipped (R130) -/
  lastSat : List Nat
  lastSkip : List Nat
  /-- tap executions counted since the start (R137) -/
  execs : Tab Nat
  /-- entries still to come after the trigger, plus 1 -/
  post : Tab Nat
  /-- taps that start at the next window, stop at the end of this one, have lost an entry -/
  starting : List Nat
  stopping : List Nat
  gap : List Nat
  pending : List TraceEntry
  deriving DecidableEq, Repr

def FlourishState.reset : FlourishState :=
  { written := [], sum := [], count := [], prevIdx := [], prevBack := false, idx := [], phi := [], good := [], fresh := [],
    lastSat := [], lastSkip := [], execs := [], post := [], starting := [], stopping := [], gap := [], pending := [] }

end Sys2Proof.Machine
end

