-- ==== Sys2Proof/Machine/StSvi.lean ====
section
/-!
DEFINITION. State of the measured-value inputs: duplicate tables, sample rings, GOOSE holdings and publications,
summaries and the agreed input set (R72-R97).
-/

namespace Sys2Proof.Machine

/-- One ASDU of an SV frame (R76). -/
structure SvAsdu where
  smpCnt : Nat
  smpSynch : Nat
  /-- channel values (INT32) and their 32-bit quality words -/
  vals : List (Int × Nat)
  /-- smpRate, smpMod and gmIdentity, when present -/
  smpRate : Option Nat
  smpMod : Option Nat
  gmIdentity : Option Nat
  deriving DecidableEq, Repr

/-- An SV frame as the MAC hands it on (R73-R77, R86). -/
structure SvFrame where
  srcMac : Nat
  /-- sequence number of the PRP trailer or HSR tag, when there is one -/
  tag : Option Nat
  /-- this node sent the frame into the ring, or its path identifier is unknown (R73) -/
  own : Bool
  unknownPath : Bool
  appid : Nat
  svidCrc : Nat
  confRev : Nat
  sim : Bool
  /-- IEC 62351-6 tag: 0 none, 1 valid, 2 invalid -/
  gmac : Nat
  /-- receive timestamp, 2^-16 ns since the epoch -/
  rx : Int
  asdus : List SvAsdu
  deriving DecidableEq, Repr

/-- A member of a GOOSE data set (R82). FLOAT32 is held by its bits. -/
inductive GooseVal where
  | bool (b : Bool)
  | dbpos (n : Nat)
  | int32 (i : Int)
  | float32 (w : Nat)
  | quality (q : Nat)
  | timestamp (t : Nat)
  deriving DecidableEq, Repr

/-- A GOOSE message (R82). -/
structure GooseMsg where
  srcMac : Nat
  tag : Option Nat
  own : Bool
  unknownPath : Bool
  appid : Nat
  refCrc : Nat
  dsCrc : Nat
  confRev : Nat
  stNum : Nat
  sqNum : Nat
  /-- timeAllowedToLive in ms -/
  ttl : Nat
  test : Bool
  sim : Bool
  ndsCom : Bool
  gmac : Nat
  /-- receive timestamp, 2^-16 ns since the epoch -/
  rx : Int
  members : List GooseVal
  deriving DecidableEq, Repr

/-- A sample in a stream's staging ring (R78, R79). -/
structure Sample where
  idx : Nat
  vals : List (Int × Nat)
  good : Bool
  questionable : Bool
  test : Bool
  /-- earliest known arrival, Baseline time in 2^-32 ns -/
  arrival : Nat
  deriving DecidableEq, Repr

/-- A GOOSE message held, with its earliest known arrival. -/
structure HeldGoose where
  msg : GooseMsg
  arrival : Nat
  deriving DecidableEq, Repr

/-- What a twin states of its SV and GOOSE holdings for a stroke (R92, R176): stream and index, subscription, sqNum and
stNum, of the items that differ from those last agreed. -/
structure SvSummary where
  sv : List (Nat × Nat)
  gs : List (Nat × Nat × Nat)
  deriving DecidableEq, Repr

/-- Key summary (R176): complete key sections by lane, and each encoder's position, fraction and validity. -/
structure KeySummary where
  bitmap : Nat
  enc : List (Int × Int × Bool)
  deriving DecidableEq, Repr

/-- Input summary (R176): complete remainders by lane, and the CRC of the values applied in the stroke before. -/
structure InSummary where
  bitmap : Nat
  valCrc : Nat
  deriving DecidableEq, Repr

/-- What the loops get of a stream in a stroke (R81). -/
structure SvInput where
  /-- 1 good, 2 substituted, 3 lost, as SVI_SUBn_STAT.STATE -/
  state : Nat
  vals : List Int
  lag : Nat
  questionable : Bool
  test : Bool
  deriving DecidableEq, Repr

/-- A publication's repeat state (R84). -/
structure PubState where
  /-- interval to the next repeat in ms; 0 before the first state -/
  interval : Nat
  first : Bool
  deriving DecidableEq, Repr

/-- A key of the process bus (R436). -/
structure GmacKey where
  appid : Nat
  publish : Bool
  keyId : Nat
  alg : Nat
  /-- activation and expiry in Baseline seconds -/
  start : Nat
  stop : Nat
  key : Nat
  deriving DecidableEq, Repr

/-- An item of the cross-feed (R90). -/
inductive Feed where
  | sv (sub : Nat) (asdu : SvAsdu)
  | goose (sub : Nat) (msg : GooseMsg)
  deriving DecidableEq, Repr

/-- What the key agreement of an input set gave: the lanes whose key section was agreed, the agreed key words of the cells
(value + 1, by cell address) and the agreed encoder values (position, fraction in 2^-15 counts). -/
structure KeySet where
  k : Nat
  map : Nat
  keys : Tab Nat
  enc : List (Option (Int × Int))
  deriving DecidableEq, Repr

/-- Hidden state of the SVI block. -/
structure SviState where
  /-- duplicate tables of pairs A and B: (source MAC, sequence), oldest first (R74) -/
  dupA : List (Nat × Nat)
  dupB : List (Nat × Nat)
  /-- next sequence number of the PRP trailers and HSR tags that each pair sends (R73) -/
  pairSeq : Tab Nat
  /-- sample rings by stream, newest last, at most 32 -/
  rings : Tab (List Sample)
  /-- streams and subscriptions whose simulated items have been seen in Simulation mode (R79) -/
  simSeen : List Nat
  simGoose : List Nat
  /-- the agreed newest good sample of each stream (n_agr of R81) -/
  agreedSv : List (Nat × Sample)
  heldGoose : List (Nat × HeldGoose)
  agreedGoose : List (Nat × HeldGoose)
  /-- the types of a subscription's default members, with their values as the settings gave them; the values in force lie in
  Inkwell (R83) -/
  gooseDefaults : Tab (List GooseVal)
  /-- the cutoff last reached: stroke and instant in Baseline ns -/
  cutoff : Option (Nat × Int)
  /-- own key and input summaries as sent for a stroke -/
  ownKey : Option (Nat × KeySummary)
  ownIn : Option (Nat × InSummary)
  /-- own SV summary frozen for a stroke, indices and sqNum in full -/
  frozen : Option (Nat × SvSummary)
  /-- the partner's summaries, by stroke -/
  peerKey : Option (Nat × KeySummary)
  peerSv : Option (Nat × SvSummary)
  peerIn : Option (Nat × InSummary)
  /-- the partner's CRC summary of a stroke whose remainders are not compared yet -/
  peerCrc : Option (Nat × List (Nat × Nat))
  /-- own CRC of applied values, and the stroke it stands for -/
  valCrc : Nat
  /-- stroke number + 1 whose report frame fills staging set lane × 16 + k mod 16 -/
  setStroke : Tab Nat
  /-- the last key agreements, newest last: the loops of an input set may run after the next set's key agreement -/
  keySets : List KeySet
  /-- input set last agreed: the agreed remainders of its cells (value + 1, by cell address), the lanes whose remainder was
  agreed, and its agreed encoder values -/
  inputSet : Nat
  remAgreed : Tab Nat
  remMap : Nat
  encAgreed : List (Option (Int × Int))
  /-- loop inputs of the streams -/
  inputs : List (Nat × SvInput)
  /-- GOOSE members as the loops read them, and their validity -/
  gooseIn : Tab (List GooseVal)
  gooseBad : List Nat
  pubs : List (Nat × PubState)
  /-- GMAC keys (R436) -/
  keys : List GmacKey
  /-- process-bus ports without a link -/
  linkDown : List Nat
  deriving DecidableEq, Repr

def SviState.reset : SviState :=
  { dupA := [], dupB := [], pairSeq := [], rings := [], simSeen := [], simGoose := [], agreedSv := [], heldGoose := [],
    agreedGoose := [], gooseDefaults := [], cutoff := none, ownKey := none, ownIn := none, frozen := none,
    peerKey := none, peerSv := none, peerIn := none, peerCrc := none, valCrc := 0, setStroke := [], keySets := [], remAgreed := [],
    inputSet := 0, remMap := 0, encAgreed := [none, none], inputs := [], gooseIn := [],
    gooseBad := [], pubs := [], keys := [], linkDown := [] }

end Sys2Proof.Machine
end

