-- ==== Sys2Proof/Machine/StTwin.lean ====
section
/-!
DEFINITION. State of twin operation: heartbeats, claims seen, digests, handover, join (R326-R356), and of stroke
dispatch on the Gloesk (R165-R167, R186).
-/

namespace Sys2Proof.Machine

/-- How a message came over a cell link (R170-R172): its start and end characters right, and the stroke over which its tag was
made under the link's key; none where it was made over no stroke under it. -/
structure LinkMsg where
  startOk : Bool
  endOk : Bool
  madeAt : Option Nat
  deriving DecidableEq, Repr

/-- A heartbeat body (R176). -/
structure Heart where
  claim : Nat
  twin : Nat
  role : Nat
  pref : Bool
  stroke : Nat
  seq : Nat
  deriving DecidableEq, Repr

/-- An ECHO body (R176). -/
structure Echo where
  claim : Nat
  twin : Nat
  locked : Bool
  u0 : Bool
  u1 : Bool
  stroke : Nat
  wdrop : Nat
  deriving DecidableEq, Repr

/-- An output digest (R333). -/
structure Digest where
  wcrc : Nat
  scrc : Nat
  susp : Bool
  noPeer : Bool
  valm : Bool
  deriving DecidableEq, Repr

/-- A handover that runs (R345). -/
structure Handover where
  /-- first input set s -/
  start : Nat
  /-- this twin is the incoming twin -/
  incoming : Bool
  /-- claim c of the outgoing twin and c' of the incoming one -/
  oldClaim : Nat
  newClaim : Nat
  /-- consecutive input sets with ok -/
  okRun : Nat
  /-- the outgoing twin becomes OUT_OF_STEP at the end (R335) -/
  outAfter : Bool
  /-- hub lanes whose ECHO showed a valid word frame of the incoming twin -/
  seen : List Nat
  deriving DecidableEq, Repr

/-- A handover that has been ordered and has not begun (R335, R344). -/
structure HoPlan where
  /-- first input set -/
  start : Nat
  incoming : Bool
  outAfter : Bool
  deriving DecidableEq, Repr

/-- A join this twin takes part in (R351). -/
structure Join where
  /-- this twin is the joiner; otherwise it is the source -/
  joiner : Bool
  /-- s0, and s1 when it has been named -/
  copyFrom : Nat
  switchAt : Option Nat
  /-- consecutive equal digests in SHADOW -/
  equal : Nat
  /-- Baseline ns at the start of COPY -/
  since : Nat
  /-- last input set whose end marker the joiner has -/
  marked : Option Nat
  /-- the source's objects all sent -/
  copied : Bool
  /-- blocks the source has still to send, and those sent: object, offset, words as sent (R351) -/
  todo : List (Nat × Nat)
  blocks : List (Nat × Nat × List Nat)
  deriving DecidableEq, Repr

/-- What a twin knows of its partner for a join (R349): the bundle digests and the Quill image digests are equal, UPD_OK
of the partner, the partner joins itself. -/
structure PeerView where
  bundleEq : Bool
  imageEq : Bool
  updOk : Bool
  joining : Bool
  deriving DecidableEq, Repr

def PeerView.reset : PeerView := { bundleEq := false, imageEq := false, updOk := false, joining := false }

/-- Hidden state of the TWN block. -/
structure TwinState where
  /-- level of the TWIN_PREF strap, which no command changes (R327) -/
  strap : Bool
  /-- twin number each hub lane has stated, plus 1 (R326) -/
  hubSays : Tab Nat
  /-- the partner is declared failed (R338) -/
  failed : Bool
  /-- SEQ of the next heartbeat sent, and last counted SEQ plus 1 by path, 0 after a silence (R337) -/
  seq : Nat
  lastH1 : Nat
  lastH2 : Nat
  /-- heartbeats counted and not yet checked: (path, stroke) -/
  counted : List (Nat × Nat)
  /-- consecutive checks without a counted heartbeat by path -/
  silH1 : Nat
  silH2 : Nat
  /-- stroke of the last partner heartbeat on either path (R186) -/
  heard : Option Nat
  /-- strokes observed with the hub lanes up, since the part reset (R331) -/
  observed : Nat
  /-- input set from which this twin is provisional (R339) -/
  provFrom : Option Nat
  /-- consecutive input sets in which something ranked above this twin (R342) -/
  outranked : Nat
  /-- last ECHO by hub lane, with the stroke in which it was sent -/
  echoes : List (Nat × Nat × Echo)
  /-- strokes without this twin's word frame, and without any forwarding, by pair (R343, R360) -/
  pathBad : Tab Nat
  pairBad : Tab Nat
  handover : Option Handover
  /-- a handover ordered and not begun -/
  plan : Option HoPlan
  /-- a refused drill is retried (R344) -/
  drillDue : Bool
  /-- Baseline ns from which the drill interval counts (R347) -/
  drillFrom : Nat
  join : Option Join
  /-- a join was requested and waits for its preconditions -/
  joinReq : Bool
  /-- own digests not yet compared, and the partner's that came first, by input set -/
  digests : List (Nat × Digest)
  peerDigests : List (Nat × Digest)
  /-- the partner's role as its heartbeats and the common outcomes of R335 and R345 give it -/
  peerRole : Nat
  /-- the partner's last digest showed it suspect (R333) -/
  peerSusp : Bool
  /-- the source holds tj and swc frozen (R351) -/
  wearHold : Bool
  /-- a suspicion has risen since a join of this twin last switched to SHADOW (R352) -/
  newSusp : Bool
  /-- R327: both twins reported the same preference; R326: a number conflict; R355: parts differ -/
  prefClash : Bool
  numClash : Bool
  partClash : Bool
  /-- applied-value CRCs differed in the input set (R93) -/
  valm : Bool
  /-- own NOPEER in the present input set -/
  noPeer : Bool
  /-- what this twin knows of its partner for a join (R349) -/
  peerView : PeerView
  /-- Baseline time of the first cross-fed item received (R349) -/
  feedSince : Option Nat
  /-- first input set whose words this twin sends, and the last one once it has stopped (R340, R345) -/
  sendFrom : Nat
  sendTo : Option Nat
  /-- words of input sets before this one still carry the claim given (R345) -/
  oldClaim : Option (Nat × Nat)
  deriving DecidableEq, Repr

def TwinState.reset : TwinState :=
  { strap := false, hubSays := [], failed := false, seq := 0, lastH1 := 0, lastH2 := 0, counted := [], silH1 := 0, silH2 := 0,
    heard := none, observed := 0, provFrom := none, outranked := 0, echoes := [], pathBad := [], pairBad := [],
    handover := none, plan := none, drillDue := false, drillFrom := 0, join := none, joinReq := false,
    digests := [], peerDigests := [], peerRole := 3, peerSusp := false, wearHold := false, newSusp := false, prefClash := false, numClash := false,
    partClash := false, valm := false, noPeer := false, peerView := PeerView.reset, feedSince := none, sendFrom := 0, sendTo := none, oldClaim := none }

/-- The state a word gives a cell (R146, R165). -/
structure CellWord where
  state : Nat
  pol : Nat
  edge : Nat
  deriving DecidableEq, Repr

/-- Hidden state of stroke dispatch on the Gloesk. -/
structure DispatchState where
  /-- states handed by selection for the words of target `target`, by cell address -/
  handed : List (Nat × CellWord)
  target : Nat
  /-- contents of the words built for each target: (target, cell address, word), the last four sets (R315) -/
  built : List (Nat × List (Nat × CellWord))
  /-- first input set of a stroke cycle that started within the last 16 strokes, and the stop within them (R186) -/
  first : Option Nat
  stop : Option Nat
  deriving DecidableEq, Repr

def DispatchState.reset : DispatchState := { handed := [], target := 0, built := [], first := none, stop := none }

end Sys2Proof.Machine
end

