-- ==== Sys2Proof/Machine/StRank.lean ====
section
/-!
DEFINITION. State of the Rank Engine: per-cell state of the arm units, per-arm state and the orders (R142-R164).
-/

namespace Sys2Proof.Machine

/-- What an arm unit holds of one cell (R161), and its standing as Security set it (R429). -/
structure CellRank where
  gain : Nat
  ofs : Int
  tj : Nat
  swc : Nat
  /-- the word content of the last target stroke -/
  prev : CellWord
  /-- target stroke and step of the last commanded edge; none: more than TMIN ago -/
  edge : Option (Nat × Nat)
  stale : Nat
  held : Bool
  vc : Int
  /-- a report has come since the arm map assigned the cell or the stroke cycle started (R145) -/
  seen : Bool
  /-- BYP, FLT, UNL, NEN of the last report, bits 0-3 -/
  flags : Nat
  elig : Bool
  deriving DecidableEq, Repr

/-- A cell no setting and no report has touched (R164). -/
def CellRank.reset : CellRank :=
  { gain := 16384, ofs := 0, tj := 0, swc := 0, prev := ⟨0, 0, 0⟩, edge := none, stale := 0, held := false, vc := 0,
    seen := false, flags := 0, elig := false }

/-- The ranking of an arm for an input set. -/
structure Ranking where
  k : Nat
  /-- eligible cells, most preferred first, their corrected voltages, and the states given to the other cells (R145, R148) -/
  order : List Nat
  vcs : List Int
  given : List (Nat × Nat)
  /-- i of R147 in mA, whether its source was LOST, the direction and the health band (R147, R152) -/
  i : Int
  lost : Bool
  charging : Bool
  band : Nat
  /-- Pmax for the selection of the input set (R151) -/
  pmax : Int
  /-- sum of the voltages of the cells inserted at SB(k) (R160) -/
  inserted : Int
  deriving DecidableEq, Repr

def Ranking.empty : Ranking :=
  { k := 0, order := [], vcs := [], given := [], i := 0, lost := false, charging := true, band := 0, pmax := 0, inserted := 0 }

/-- An arm unit's own state. -/
structure ArmUnit where
  /-- i of R147 in mA, and whether its source was LOST -/
  i : Int
  lost : Bool
  /-- the newest order is being sorted and not yet written -/
  sorting : Bool
  /-- rankings of the last input sets, newest last -/
  ranks : List Ranking
  /-- order as last written (R148) -/
  written : List Nat
  trim : Option Nat
  trimAge : Nat
  /-- CLIP, SHORT and PINCLIP (bits 0-2), and cells pinned, of the last selection -/
  sel : Nat
  pins : Nat
  deriving DecidableEq, Repr

def ArmUnit.reset : ArmUnit :=
  { i := 0, lost := false, sorting := false, ranks := [], written := [], trim := none, trimAge := 0,
    sel := 0, pins := 0 }

/-- Hidden state of the RNK block. -/
structure RankState where
  /-- RNK_CTRL.EN at the last stroke-cycle start -/
  enabled : Bool
  /-- input set last ranked -/
  k : Nat
  cells : Tab CellRank
  arms : Tab ArmUnit
  /-- SV inputs of the last input sets, newest last (R147) -/
  past : List (Nat × List (Nat × SvInput))
  /-- states commanded for the last targets, newest last (R160) -/
  hist : List (Nat × List (Nat × CellWord))
  /-- standing of a cell on both twins: 0 not attested, 1 attested, 2 stranger (R429) -/
  standing : Tab Nat
  deriving DecidableEq, Repr

def RankState.reset : RankState :=
  { enabled := false, k := 0, cells := [], arms := [], past := [], hist := [], standing := [] }

end Sys2Proof.Machine
end

