-- ==== Sys2Proof/Machine/StRuling.lean ====
section
/-!
DEFINITION. State of the Ruling, its encoders and its gearing, and the staging of records that eight blocks share
(R47-R71, R53).
-/

namespace Sys2Proof.Machine

/-- A committed record: target stroke, the staged writes in order (each the address of a register and the value written;
commands that join the shadow set are the writes that give them), and whether the exchange of R53 item 5 has taken
place. For a record with a start, the verdict that travels with it (R186). -/
structure StagedRec where
  target : Nat
  writes : List (Nat × Nat)
  exchanged : Bool
  verdict : Bool
  deriving DecidableEq, Repr

/-- The staging of one block (R53). -/
structure Staged where
  shadow : List (Nat × Nat)
  /-- committed records that wait for their targets -/
  pending : List StagedRec
  /-- the partner's records, as received -/
  partner : List StagedRec
  deriving DecidableEq, Repr

def Staged.reset : Staged := { shadow := [], pending := [], partner := [] }

/-- The blocks that stage. SVI stages only its TRIG bits, and commits them itself (R97). -/
inductive Blk where
  | rul | lpe | rnk | stk | twn | blt | aq | ink | svi
  deriving DecidableEq, Repr

/-- A block's number in the tables. -/
def Blk.idx : Blk → Nat
  | .rul => 0 | .lpe => 1 | .rnk => 2 | .stk => 3 | .twn => 4 | .blt => 5 | .aq => 6 | .ink => 7 | .svi => 8

/-- An encoder before the input changes of the present fabric clock (R61). -/
structure EncMark where
  time : Nat
  a : Bool
  b : Bool
  r : Int
  p : Int
  up : Bool
  times : List Nat
  last : Option Nat
  deriving DecidableEq, Repr

/-- An encoder (R60-R65). -/
structure EncState where
  a : Bool
  b : Bool
  z : Bool
  r : Int
  p : Int
  /-- the state before the changes of the last fabric clock in which an input changed -/
  mark : Option EncMark
  /-- Baseline times of the last two applied counts in the present direction, newest first (2^-32 ns) -/
  times : List Nat
  /-- Baseline time of the last raw count -/
  last : Option Nat
  /-- an illegal transition or a zeroing in this stroke (R95) -/
  bad : Bool
  deriving DecidableEq, Repr

def EncState.reset : EncState :=
  { a := false, b := false, z := false, r := 0, p := 0, mark := none, times := [], last := none, bad := false }

/-- What SB(k) latches: each encoder's position, fraction in 2^-15 count and validity (R65, R95), and the IDX that each compare
channel delivers to Flourish (R70, R128). -/
structure SbLatch where
  stroke : Nat
  enc : List (Int × Int × Bool)
  idx : List Nat
  deriving DecidableEq, Repr

/-- A segment table, armed or running (R57, R58). -/
structure SegTable where
  bank : Nat
  /-- entries -/
  count : Nat
  /-- start stroke Ks -/
  start : Nat
  /-- running entry, and the stroke, angle and velocity (times n_clk) at which it began -/
  idx : Nat
  j0 : Nat
  theta0 : Int
  p0 : Int
  m0 : Int
  /-- the running segment was clamped -/
  clamped : Bool
  deriving DecidableEq, Repr

/-- The record of stroke k (R48). -/
structure RulRecord where
  stroke : Nat
  /-- accumulator at SB(k), angle and fraction -/
  theta : Nat
  vel : Int
  /-- accumulator at SB(k+1) -/
  thetaNext : Nat
  deriving DecidableEq, Repr

/-- The gear engine (R67, R68). -/
structure GearState where
  /-- the target, in angle units, and its remainder in 1/(DEN·2^15) units -/
  g : Int
  rem : Int
  /-- targets of the last strokes, newest first, at most 65 -/
  hist : List Int
  /-- last agreed position in 2^-15 counts -/
  c : Option Int
  /-- ff held, over M -/
  ffNum : Int
  ffDen : Int
  /-- the velocity computed for the next boundary -/
  vel : Option Int
  /-- the agreed p equalled APOS when the arm took effect: the change fires in the next stroke (R68) -/
  due : Bool
  deriving DecidableEq, Repr

def GearState.reset : GearState := ⟨0, 0, [], none, 0, 1, none, false⟩

/-- Hidden state of the RUL block. -/
structure RulingState where
  /-- the accumulator, unwrapped: bits [63:0] are its value modulo 2^64 (R47) -/
  acc : Int
  /-- velocity in effect -/
  vel : Int
  /-- the Loop Engine's write of RUL_GRIDV waiting for the next boundary (R55) -/
  grid : Option Int
  record : RulRecord
  /-- the records in the 16 staging slots, newest first (R48, R314) -/
  records : List RulRecord
  seg : Tab Word
  armed : Option SegTable
  table : Option SegTable
  /-- the gear engine on each encoder -/
  gear0 : GearState
  gear1 : GearState
  enc0 : EncState
  enc1 : EncState
  /-- sampling instants for Folio: stroke, channel, Baseline time (2^-32 ns), signed count (R70) -/
  folHits : List (Nat × Nat × Nat × Int)
  /-- the latches of the last 16 strokes, newest first -/
  latches : List SbLatch
  /-- zeroings not yet met by gearing: stroke of the next latch, encoder, position before it (R63) -/
  zeroed : List (Nat × Nat × Int)
  deriving DecidableEq, Repr

def RulingState.reset : RulingState :=
  { acc := 0, vel := 0, grid := none, record := ⟨0, 0, 0, 0⟩, records := [], seg := [], armed := none, table := none,
    gear0 := GearState.reset, gear1 := GearState.reset, enc0 := EncState.reset, enc1 := EncState.reset, folHits := [],
    latches := [], zeroed := [] }

end Sys2Proof.Machine
end

