-- ==== Sys2Proof/Machine/StJoin.lean ====
section
/-!
DEFINITION. The state objects that a join copies from the source to the joiner (R350).
-/

namespace Sys2Proof.Machine

/-- One STATE frame as the joiner takes it (R350): an object, with the registers that belong to it as (address, word), or a
marker. -/
inductive StateObj where
  /-- the staged fields of the blocks, and their staging by block number -/
  | staged (regs : List (Nat × Nat)) (l : Tab Staged)
  | ruling (regs : List (Nat × Nat)) (r : RulingState)
  | loop (regs : List (Nat × Nat)) (l : LoopState)
  /-- written map of table `f`, and bytes from byte `ofs` of its points -/
  | flrTable (f written ofs : Nat) (bytes : List Nat)
  /-- sums, counts, frozen states, re-arm counts, last indices -/
  | flrSums (regs : List (Nat × Nat)) (s : FlourishState)
  | arm (a : Nat) (regs : List (Nat × Nat)) (u : ArmUnit) (cells : List (Nat × CellRank))
  | direct (ofs : Nat) (bytes : List Nat)
  | goose (held agreed : List (Nat × HeldGoose)) (pubs : List (Nat × PubState))
  | arbiter (a : Nat) (b : Option Arbiter) (regs : List (Nat × Nat)) (holdOuts : List (Nat × Nat × Nat))
  | partition (p ofs : Nat) (bytes : List Nat)
  /-- standing by cell address, and the cells held out -/
  | standing (marks : List (Nat × Nat)) (heldOut : List Nat)
  /-- Blotter bypass marks and Blotter blocks -/
  | blotter (marks : Tab Nat) (blocks : List Nat)
  /-- markers: end of the writes of input set `k`, switch at `k`, copy starts at `k`, join abandoned -/
  | endOfSet (k : Nat)
  | switchAt (k : Nat)
  | copyFrom (k : Nat)
  | abandoned
  deriving DecidableEq, Repr

end Sys2Proof.Machine
end

