-- ==== Sys2Proof/Machine/Sent.lean ====
section
/-!
DEFINITION. What a part sends out: frames, messages, interrupts, pulses and signals at its pins. Each part keeps the
list of what it has sent, newest last (log entry 8). The model has no receiver for it: the outside world answers with
commands of its own.
-/

namespace Sys2Proof.Machine

/-- The kinds of things a part sends. The comment gives the arguments in order. -/
inductive SentKind where
  /-- MSI-X message: vector (R452) -/
  | msix
  /-- PTP Sync of a master port: port, Baseline time in 2^-32 ns (R33) -/
  | ptpSync
  /-- PTP Announce: port, clockClass, UTC word (R35) -/
  | ptpAnnounce
  /-- Pdelay_Resp sent one-step: port, sequence, residence in 2^-16 ns (R30) -/
  | ptpPdelayResp
  /-- Pdelay_Req: port, sequence (R30) -/
  | ptpPdelayReq
  /-- PTP event frame forwarded on an HSR pair: egress port, type, correctionField (two's complement, 64 bits) (R34) -/
  | ptpForward
  /-- A process-bus frame: port, kind, arguments (R73, R84) -/
  | pbFrame
  /-- An ink frame on a lane: lane, TYPE, arguments (R175) -/
  | ink
  /-- A cell-link message: link, start character K28.n, payload, tag (R170) -/
  | cell
  /-- An instruction-visible or register read response: requester, words -/
  | readData
  /-- A level or pulse at a ball: ball number, level -/
  | pin
  /-- Levels of ENCO_A, ENCO_B and ENCO_Z: encoder, levels (R64) -/
  | enco
  /-- A PCIe completion or memory write of the endpoint: kind, arguments -/
  | pcie
  /-- A flash transaction: kind, address, length -/
  | flash
  /-- A training or calibration pattern on a lane: lane, kind -/
  | pattern
  /-- A signature, evidence or challenge: kind, arguments -/
  | secure
  deriving DecidableEq, Repr

/-- One thing sent. -/
structure Sent where
  kind : SentKind
  args : List Nat
  deriving DecidableEq, Repr

end Sys2Proof.Machine
end

