-- ==== Sys2Proof/Machine/StLanes.lean ====
section
/-!
DEFINITION. State of the serial lanes and cell links beside their registers (R396-R419).
-/

namespace Sys2Proof.Machine

/-- A transmitter and receiver of the set: lane n of the Gloesk, uplink n of the Stanak, cell port c of the Stanak, link n
of the Ihloon. -/
inductive LaneEnd where
  | gl (n : Fin 68)
  | up (n : Fin 2)
  | port (c : Fin 192)
  | lk (n : Fin 2)
  deriving DecidableEq, Repr

/-- Adaptation of one receiver (R406): the parameter stepped next (0 CTLE, 1-3 DFE taps), the step on trial with the value
before it, and the figure of merit before it. -/
structure Adapt where
  next : Nat
  trial : Option (Nat × Nat)
  fom : Nat
  deriving DecidableEq, Repr

def Adapt.reset : Adapt := { next := 0, trial := none, fom := 0 }

/-- What a lane receiver keeps between codewords (R398, R399, R404). -/
structure LineRx where
  /-- number in its superframe of the codeword that comes next, once known -/
  cw : Option Nat
  /-- bits of the block begun, in line order -/
  part : List Bool
  /-- blocks of the running frame still to come, those that have come, and the ones in which its sections end -/
  left : Nat
  pos : Nat
  ends : List Nat
  /-- a section of the running frame has failed -/
  dead : Bool
  /-- no frame boundary is known since a header was discarded, or since lock: blocks are tested until one is a header or fill -/
  lost : Bool
  /-- consecutive pilots that mismatch -/
  miss : Nat
  deriving DecidableEq, Repr

def LineRx.reset : LineRx := { cw := none, part := [], left := 0, pos := 0, ends := [], dead := false, lost := true, miss := 0 }

/-- Hidden state of the lane receivers and transmitters of a part, by lane. -/
structure LaneExt where
  /-- the receivers' places in their streams -/
  line : Tab LineRx
  /-- consecutive uncorrectable codewords, and those of the present second -/
  ucwRun : Tab Nat
  ucwSec : Tab Nat
  /-- consecutive codewords that decoded, up to 32 (R404) -/
  okRun : Tab Nat
  /-- sections that failed GCM, or tags that failed, in the present second (R435) -/
  failSec : Tab Nat
  /-- stroke of the last valid frame, plus 1 -/
  lastFrame : Tab Nat
  adapt : Tab Adapt
  /-- Baseline ns of the last calibration window, plus 1; of the last grant to a transmitter of a hub, by lane × 32 + its
  number in HUB_CAL, plus 1 -/
  lastWin : Tab Nat
  granted : Tab Nat
  /-- cell ports silent for 4 strokes (R411), on the Stanak -/
  silent : List Nat
  /-- messages and frames that wait for the end of a transmit window or of the report or word window (R173, R187, R413) -/
  waiting : List Sent
  /-- the report window is open: from the stroke boundary to the report (R173), on the Ihloon -/
  held : Bool
  /-- frames of the present stroke by lane × 256 + TYPE (R174) -/
  fseq : Tab Nat
  /-- Ligature frames spread over the lanes so far (R402) -/
  turn : Nat
  deriving DecidableEq, Repr

def LaneExt.reset : LaneExt :=
  { line := [], ucwRun := [], ucwSec := [], okRun := [], failSec := [], lastFrame := [], adapt := [], lastWin := [], granted := [], silent := [],
    waiting := [], held := false, fseq := [], turn := 0 }

end Sys2Proof.Machine
end

