-- ==== Sys2Proof/Machine/StPower.lean ====
section
/-!
DEFINITION. State of power, boot and the image engine of the Gloesk (R454-R474).
-/

namespace Sys2Proof.Machine

/-- Where a part stands between reset and running (R466-R469). -/
inductive BootPhase where
  /-- held in reset by the thermal trip -/
  | held
  /-- reset, the boot ROM not yet released -/
  | reset
  /-- the boot ROM reads and verifies -/
  | rom
  /-- an image has been booted -/
  | runs
  /-- no image passes: only the endpoint, HST and PWR are served -/
  | stuck
  deriving DecidableEq, Repr

/-- Hidden state of the PWR block. -/
structure PowerState where
  /-- energy of a domain in mJ (R459) -/
  energy : Tab Nat
  /-- power samples of the last milliseconds, newest first: total and floor in 10 mW -/
  samples : List (Nat × Nat)
  /-- a step of BSHED, of TSHED has been made in the present STEP interval (R460, R464) -/
  bStepped : Bool
  tStepped : Bool
  phase : BootPhase
  /-- the second flash port is tried (R468) -/
  second : Bool
  /-- Quill 0 executes the boot run outside Ductus (R469) -/
  bootRun : Bool
  /-- REFCLK was lost: the part is fail-silent (R456) -/
  silent : Bool
  /-- words of the QDATA FIFO, oldest first (R473) -/
  fifo : List Word
  /-- mode and length of the flash command that runs -/
  flash : Option (Nat × Nat)
  /-- cell loads: those that run with their next block, and those queued (R471) -/
  loads : List (Nat × Nat)
  queued : List Nat
  /-- lanes whose hub has attested and shown no words forwarded since: it waits for its image (R470) -/
  hubLoads : List Nat
  /-- offset of the next block of the hub image stream (R470) -/
  imgOfs : Nat
  deriving DecidableEq, Repr

def PowerState.reset : PowerState :=
  { energy := [], samples := [], bStepped := false, tStepped := false, phase := .reset, second := false, bootRun := false,
    silent := false, fifo := [], flash := none, loads := [], queued := [], hubLoads := [], imgOfs := 0 }

/-- A section of a Gloesk image (R467): mask of Quill pairs, offset in the scratch space, bytes. -/
structure ImageSection where
  mask : Nat
  ofs : Nat
  bytes : List Nat
  deriving DecidableEq, Repr

end Sys2Proof.Machine
end

