-- ==== Sys2Proof/Machine/StMap.lean ====
section
/-!
DEFINITION. The station map and the arm map of the active settings (R10, R13, R42).
-/

namespace Sys2Proof.Machine

/-- The station map: pairs, populated ports, asymmetries, arms. -/
structure StationMap where
  /-- listed hub pairs (R10) -/
  pairs : List Nat
  /-- per hub lane, a mask of its populated cell ports -/
  population : Tab Nat
  /-- per hub lane, the asymmetry in 10 ps (R42) -/
  laneAsym : Tab Int
  /-- per cell port, key lane × 256 + port, the asymmetry in 10 ps (R42) -/
  portAsym : Tab Int
  /-- the arm of each cell address; 15 is unassigned (R13) -/
  arms : Tab Nat
  deriving DecidableEq, Repr

/-- No map: nothing is listed and no cell is assigned until a settings bundle takes effect (log entry 7). -/
def StationMap.reset : StationMap := { pairs := [], population := [], laneAsym := [], portAsym := [], arms := [] }

end Sys2Proof.Machine
end

