-- ==== Sys2Proof/Machine/StSec.lean ====
section
/-!
DEFINITION. State of security: life cycle and key slots, signed objects, link keys, debug sessions, and the Gloesk's
positions (R420-R440).
-/

namespace Sys2Proof.Machine

/-- An owner key slot in OTP (R420, R422): filled, usage bits, revoked. -/
structure KeySlot where
  filled : Bool
  usage : Nat
  revoked : Bool
  deriving DecidableEq, Repr

/-- What a part finds when it checks a signed object (R423, R424). The results of the cryptographic checks are facts of
the object; SLOT, SEQ, SVN, TARGET, STATION and EXPIRY are its header's fields, `typ` its TYPE. -/
structure Envelope where
  /-- MAGIC, TYPE, LEN and the reserved fields are right -/
  formOk : Bool
  typ : Nat
  slot : Nat
  adv : Bool
  svn : Nat
  seq : Nat
  target : Nat
  station : Nat
  expiry : Nat
  ecdsaOk : Bool
  mldsaOk : Bool
  digestOk : Bool
  deriving DecidableEq, Repr

/-- The contents of a settings bundle (R426): what a verified bundle sets when it takes effect (R353). -/
structure Settings where
  /-- register offset and word -/
  items : List (Nat × Nat)
  /-- the station map and the arm map, when the bundle carries them -/
  map : Option StationMap
  /-- fingerprints bound to positions (R430) -/
  bindings : List (Nat × Nat)
  /-- gain and offset of cells (R164) -/
  cells : List (Nat × Nat × Int)
  /-- program words, coefficients with their FIXED bit 31, initial locals (R122, R124) -/
  program : List (Nat × Nat)
  coefs : List (Nat × Nat)
  locals : List (Nat × Nat)
  /-- default values of GOOSE subscriptions (R82) -/
  defaults : List (Nat × List GooseVal)
  /-- GOOSE subscriptions whose data set names a nested structure (R82) -/
  nested : List Nat
  /-- largest dead time plus minimum pulse among an arm's cell settings, by arm (R144) -/
  cellMin : List (Nat × Nat)
  /-- smallest LNK_CMD.HOLD among the cells of the station map; none: it holds no cell (R341) -/
  minHold : Option Nat
  deriving DecidableEq, Repr

/-- The body of an object that the bundle loader takes (R427): settings (TYPE 4), re-binding entries (TYPE 6: position,
fingerprint, counter), keys (TYPE 7) with whether every key unwraps (R437). -/
inductive Payload where
  | settings (b : Settings)
  | rebind (entries : List (Nat × Nat × Nat))
  | keys (entries : List GmacKey) (unwraps : Bool)
  deriving DecidableEq, Repr

/-- An object as the loader holds it: envelope, digest, body. -/
structure SignedObject where
  env : Envelope
  digest : Nat
  body : Payload
  deriving DecidableEq, Repr

/-- What a key-management object does (R422). -/
inductive KeyOp where
  | fill (slot usage : Nat)
  | revoke (slot : Nat)
  | retire
  deriving DecidableEq, Repr

/-- The body of an object streamed over the management channel (R426, R438, R422): a cell settings record, a debug token
with NONCE and PERM, a key-management object. -/
inductive Delivery where
  | settings (items : List (Nat × Nat))
  | token (nonce perm : Nat)
  | keys (op : KeyOp)
  deriving DecidableEq, Repr

/-- What every part holds for security. -/
structure PartSec where
  /-- 0 BLANK, 1 OWNED, 2 RETIRED (R420) -/
  lcs : Nat
  slots : List KeySlot
  /-- SVN counter, 0-64; SVN of a running image with ADV that waits for its confirmation (R425) -/
  svn : Nat
  trial : Option Nat
  /-- the PUF passes its helper-data check (R421) -/
  pufOk : Bool
  /-- the entropy source has failed its health test (R420) -/
  entropyBad : Bool
  /-- last accepted SEQ by TYPE -/
  seqs : Tab Nat
  /-- station identifier of the applied map (R424); none: no map has been applied -/
  station : Option Nat
  /-- links that hold keys (R428) -/
  keyed : List Nat
  /-- epoch in force by link, and the switch named: link, epoch, stroke (R434) -/
  epochs : Tab Nat
  switches : List (Nat × Nat × Nat)
  /-- links whose new master waits for its switch stroke (R434) -/
  remaster : List Nat
  /-- permissions and EXPIRY of the open debug session (R438) -/
  session : Option (Nat × Nat)
  /-- the nonce last generated (R438), and how many the DRBG has been asked for -/
  nonce : Nat
  drawn : Nat
  /-- attestation counter of a Stanak or a Gloesk (R428) -/
  counter : Nat
  /-- tamper log of a Stanak or a Gloesk, newest last: counter, cause (R432) -/
  tamper : List (Nat × Nat)
  deriving DecidableEq, Repr

/-- A part as the owner has provisioned it: LCS OWNED with one key slot that has every usage (log entry 20). -/
def PartSec.reset : PartSec :=
  { lcs := 1, slots := [⟨true, 31, false⟩, ⟨false, 0, false⟩, ⟨false, 0, false⟩, ⟨false, 0, false⟩], svn := 0,
    trial := none, pufOk := true, entropyBad := false, seqs := [], station := none, keyed := [], epochs := [], switches := [],
    remaster := [], session := none, nonce := 0, drawn := 0, counter := 0, tamper := [] }

/-- A position of the station (R430). Codes of `stand`: 0 none, 1 pending, 2 bound, 3 stranger. -/
structure Position where
  bound : Nat
  counter : Nat
  stand : Nat
  cause : Nat
  evCounter : Nat
  evFp : Nat
  deriving DecidableEq, Repr

def Position.reset : Position := { bound := 0, counter := 0, stand := 0, cause := 0, evCounter := 0, evFp := 0 }

/-- Evidence as a verifier reads it (R428). -/
structure Evidence where
  /-- signatures and production certificate verify -/
  genuine : Bool
  fp : Nat
  counter : Nat
  /-- KLOST covers the attestation counter -/
  counterLost : Bool
  deriving DecidableEq, Repr

/-- A standing decided and not yet in effect: position, standing, Baseline time from which an input set takes it
(R429). -/
structure StandingDue where
  pos : Nat
  stand : Nat
  cause : Nat
  after : Nat
  deriving DecidableEq, Repr

/-- The Gloesk's own part of security. -/
structure GloeskSec where
  /-- positions by the code of SEC_POSADDR (R439) -/
  positions : Tab Position
  due : List StandingDue
  /-- fingerprint attested on a link of a cell, by plane × 8192 + address (R12) -/
  ids : Tab Nat
  /-- a load into a bundle slot that runs: slot, LCODE, code of R424, object (R427) -/
  load : Option (Nat × Nat × Nat × SignedObject)
  /-- verified objects by bundle slot -/
  objects : List (Nat × SignedObject)
  /-- bundle slots named by pending commits, with their digests (R353) -/
  pend : List (Nat × Nat)
  /-- digest of the active settings bundle -/
  active : Option Nat
  deriving DecidableEq, Repr

def GloeskSec.reset : GloeskSec :=
  { positions := [], due := [], ids := [], load := none, objects := [], pend := [], active := none }

end Sys2Proof.Machine
end

