-- ==== Sys2Proof/Machine/StTime.lean ====
section
/-!
DEFINITION. State of Baseline time, of the PTP servo and of the followers (R26-R44).
Baseline time is held in units of 2^-32 ns (R27). Time differences that the manual gives in ns, 2^-8 ns, 2^-16 ns or
10 ps are held in fine units of 1/13107200 ns, in which each of those is a whole number.
-/

namespace Sys2Proof.Machine

/-- One Announce as the BMCA compares it (R33, R39). -/
structure Announce where
  priority1 : Nat
  clockClass : Nat
  accuracy : Nat
  variance : Nat
  priority2 : Nat
  identity : Nat
  steps : Nat
  sender : Nat
  /-- grandmasterTimeInaccuracy plus networkTimeInaccuracy in ns (C37.238 TLV) -/
  inaccuracy : Nat
  deriving DecidableEq, Repr

/-- A two-step Sync that waits for its Follow_Up (R30). -/
structure PendingSync where
  seq : Nat
  /-- receive time at the medium, fine units -/
  rx : Int
  /-- correction of the Sync, fine units -/
  corr : Int
  /-- minus the logSyncInterval of the message, 0-4 -/
  negLog : Nat
  deriving DecidableEq, Repr

/-- A peer-delay measurement in progress (R30). -/
structure PendingPdelay where
  seq : Nat
  t1 : Int
  t4 : Int
  /-- t3 - t2 known so far -/
  turn : Int
  deriving DecidableEq, Repr

/-- The hidden state of the PTP block. -/
structure TimeState where
  /-- Baseline time since the PTP epoch in 2^-32 ns (R26, R27) -/
  bl : Nat
  /-- the present stroke number, modulo 2^48 (R28) -/
  stroke : Nat
  /-- the rate in effect, in 2^-40; PTP_RATE.ADJ takes effect at the next stroke boundary (R36, R47) -/
  rate : Int
  /-- integral term of the servo: fine units times 2^31 (R36) -/
  integ : Int
  /-- 2^-negLog s is the Sync interval of the last accepted Sync -/
  negLog : Nat
  /-- the last 64 rate values, newest last (R38) -/
  rates : List Int
  /-- consecutive Syncs within the lock threshold, above 250 ns, and within every condition of R39 -/
  good : Nat
  bad : Nat
  clean : Nat
  /-- grandmaster as last announced -/
  gmIdentity : Nat
  gmClass : Nat
  gmInaccuracy : Nat
  /-- Announce last received on each port -/
  announces : List (Nat × Announce)
  /-- two-step Syncs waiting, by port -/
  syncs : List (Nat × PendingSync)
  /-- peer-delay measurements in progress, by port -/
  pdelays : List (Nat × PendingPdelay)
  /-- sequence numbers of sent Sync, Announce and Pdelay_Req, by port -/
  seqs : Tab Nat
  /-- offset measured on a PASSIVE port, fine units, by port (R33) -/
  passive : Tab Int
  /-- PASSIVE ports that received a valid Sync since the last Sync on the SLAVE port (R38) -/
  passiveLive : List Nat
  /-- consecutive twin exchanges beyond 10 ns (R40) -/
  twinBad : Nat
  /-- PTP_HOLDSPEC seconds have passed in the present HOLDOVER (R38) -/
  holdExc : Bool
  /-- the offset last measured on the SLAVE port, fine units (R36) -/
  lastOfs : Int
  /-- ports that lost the SLAVE role for want of Syncs and have had none since (R33) -/
  deaf : List Nat
  /-- the frequency of the recovered TL0 clock, in 2^-40 (R40) -/
  tlRate : Int
  /-- the correction of a following twin still to be slewed, 2^-32 ns (R27, R40) -/
  slew : Int
  /-- this twin leads Baseline time, and takes the lead at the next boundary (R40) -/
  leads : Bool
  takeLead : Bool
  deriving DecidableEq, Repr

/-- Reset of the PTP block: everything at zero; a part alone leads its own time. -/
def TimeState.reset : TimeState :=
  { bl := 0, stroke := 0, rate := 0, integ := 0, negLog := 0, rates := [], good := 0, bad := 0, clean := 0,
    gmIdentity := 0, gmClass := 255, gmInaccuracy := 0, announces := [], syncs := [], pdelays := [], seqs := [],
    passive := [], passiveLive := [], twinBad := 0, holdExc := false, lastOfs := 0, deaf := [], tlRate := 0, slew := 0,
    leads := true, takeLead := false }

/-- The time discipline of a hub or a cell (R41). -/
structure Follower where
  locked : Bool
  /-- consecutive exchanges inside the lock limit and beyond the unlock limit -/
  inCnt : Nat
  outCnt : Nat
  /-- phase error still to be slewed, fine units -/
  phase : Int
  /-- phase correction applied since reset, fine units -/
  applied : Int
  /-- the followed side: uplink U0, U1 of a hub, plane P (0), Q (1) of a cell -/
  side : Nat
  /-- offsets last measured over the two sides -/
  ofs0 : Int
  ofs1 : Int
  /-- an exchange was completed on the side -/
  has0 : Bool
  has1 : Bool
  /-- sequence number of the last marker sent downstream -/
  seq : Nat
  deriving DecidableEq, Repr

/-- An unlocked follower. Before a hub has accepted a claim it follows its uplink U0 (DESIGN CHOICE, log entry 206). -/
def Follower.reset : Follower :=
  { locked := false, inCnt := 0, outCnt := 0, phase := 0, applied := 0, side := 0, ofs0 := 0, ofs1 := 0,
    has0 := false, has1 := false, seq := 0 }

end Sys2Proof.Machine
end

