-- ==== Sys2Proof/Syntax.lean ====
section
/-!
DEFINITION. The commands of the block: one constructor per row of the table of operations and events, with its operands.
What a frame, a message, a pin or a converter brings from outside the block is an operand.
-/

namespace Sys2Proof

open Sys2Proof.Machine

/-- A command. -/
inductive Instr where
  /-- STROKE_BOUNDARY (R28) -/
  | strokeBoundary (p : Part)
  /-- FABRIC_CLOCK (R47) -/
  | fabricClock
  /-- SYNC (R36) -/
  | sync (port : Fin 4) (twoStep : Bool) (seq : Nat) (stamp origin corr : Int) (negLog : Fin 5)
  /-- FOLLOW_UP (R30) -/
  | followUp (port : Fin 4) (seq : Nat) (origin corr : Int)
  /-- ANNOUNCE (R39) -/
  | announce (port : Fin 4) (a : Announce) (utc : Nat)
  /-- PDELAY_REQ (R30) -/
  | pdelayReq (port : Fin 4) (seq : Nat) (rx tx : Int)
  /-- PDELAY_RESP (R30) -/
  | pdelayResp (port : Fin 4) (seq : Nat) (kind : Fin 3) (rx turn : Int)
  /-- PTP_DISCARD (R31) -/
  | ptpDiscard (kind : Fin 6)
  /-- TRANSPARENT_FORWARD (R34) -/
  | transparentForward (port : Fin 4) (isSync : Bool) (rx tx corr : Int)
  /-- SYNC_TIMEOUT (R38) -/
  | syncTimeout
  /-- HOLDSPEC_EXPIRY (R38) -/
  | holdspecExpiry
  /-- MASTER_SYNC_TRANSMIT (R33) -/
  | masterSyncTransmit (port : Fin 4)
  /-- ANNOUNCE_TRANSMIT (R35) -/
  | announceTransmit (port : Fin 4)
  /-- STEP_REQ (R36) -/
  | stepReq
  /-- PTP_PERIOD_WRITE (R29) -/
  | ptpPeriodWrite (v : Word)
  /-- PTP_RATE_WRITE (R36) -/
  | ptpRateWrite (v : Word)
  /-- PTP_TIME0_READ (R45) -/
  | ptpTime0Read (who : Fin 17)
  /-- PTP_STROKE0_READ (R45) -/
  | ptpStroke0Read (who : Fin 17)
  /-- TWIN_TIME_EXCHANGE (R40) -/
  | twinTimeExchange (t1 t2 t3 t4 freq : Int)
  /-- TIME_MARKER (R41) -/
  | timeMarker (p : Part) (link : Fin 192) (t1 : Int)
  /-- TIME_FRAME_RECEIVED (R41) -/
  | timeFrameReceived (p : Part) (lane : Fin 65) (twin : Fin 2) (claim : Fin 65536) (reply : Bool) (seq : Fin 256) (t1 t2 t3 t4 : Int)
  /-- TIME_MESSAGE (R171) -/
  | timeMessage (p : Part) (link : Fin 192) (m : LinkMsg) (reply : Bool) (seq : Fin 256) (t1 t2 t3 t4 : Int) (hubLocked : Bool)
  /-- RUL_ANGLE_WRITE (R50) -/
  | rulAngleWrite (v : Word)
  /-- RUL_ANGLE_READ (R71) -/
  | rulAngleRead (who : Fin 17)
  /-- RUL_ENC_POS_READ (R71) -/
  | rulEncPosRead (who : Fin 17) (n : Fin 2)
  /-- RECORD_COMMIT (R53) -/
  | recordCommit (b : Blk) (lo : Word)
  /-- RECORD_CANCEL (R53) -/
  | recordCancel (b : Blk)
  /-- RECORD_RECEIVED (R53) -/
  | recordReceived (b : Blk) (target : Nat) (writes : List (Nat × Nat)) (verdict : Bool)
  /-- SEGMENT_ARM (R58) -/
  | segmentArm
  /-- SEGMENT_ABORT (R59) -/
  | segmentAbort
  /-- GEAR_ARM (R68) -/
  | gearArm
  /-- GEAR_CANCEL (R71) -/
  | gearCancel
  /-- ENCODER_COUNT (R62) -/
  | encoderCount (n : Fin 2) (a b : Bool) (held : Nat)
  /-- ENCODER_INDEX (R63) -/
  | encoderIndex (n : Fin 2) (z : Bool) (held : Nat)
  /-- IDX_ZERO (R63) -/
  | idxZero (n : Fin 2)
  /-- ENCODER_MODE_WRITE (R60) -/
  | encoderModeWrite (n : Fin 2) (mode : Fin 4)
  /-- SV_FRAME (R76) -/
  | svFrame (port : Fin 4) (f : SvFrame)
  /-- GOOSE_FRAME (R82) -/
  | gooseFrame (port : Fin 4) (m : GooseMsg)
  /-- PB_OTHER_FRAME (R75) -/
  | pbOtherFrame (port : Fin 4) (kind srcMac : Nat) (tag : Option Nat) (own fcsBad : Bool)
  /-- SUPERVISION_FRAME_SEND (R73) -/
  | supervisionFrameSend (pair : Fin 2)
  /-- DUPLICATE_FORGET (R74) -/
  | duplicateForget (pair : Fin 2)
  /-- PORT_LINK_DOWN (R72) -/
  | portLinkDown (port : Fin 4)
  /-- XFEED (R90) -/
  | xfeed (item : Feed) (sim : Bool) (rx : Int) (arrival : Nat)
  /-- REPORT_FRAME (R87) -/
  | reportFrame (lane : Fin 64) (k : Nat) (twin : Fin 2) (claim : Fin 65536) (keyOk remOk : Bool) (overrun : Fin 3) (keys rems : List Nat)
  /-- KEYSUM_SEND (R92) -/
  | keysumSend (k : Nat)
  /-- KEYSUM (R92) -/
  | keysum (k : Nat) (b : KeySummary)
  /-- KEY_AGREEMENT (R93) -/
  | keyAgreement (k : Nat) (ce : Nat) (ue : List Nat)
  /-- SV_CUTOFF (R91) -/
  | svCutoff (k : Nat)
  /-- SV_FREEZE (R91) -/
  | svFreeze (k : Nat)
  /-- SVSUM (R92) -/
  | svsum (k : Nat) (b : SvSummary)
  /-- INSUM_SEND (R92) -/
  | insumSend (k : Nat)
  /-- INSUM (R92) -/
  | insum (k : Nat) (b : InSummary)
  /-- CRCSUM (R93) -/
  | crcsum (k : Nat) (crcs : List (Nat × Nat))
  /-- INPUT_AGREEMENT (R93) -/
  | inputAgreement (k : Nat) (ce : Nat) (ue : List Nat) (flrCe : Nat) (pts : List (Nat × Nat))
  /-- GOOSE_STALE (R83) -/
  | gooseStale (n : Fin 128)
  /-- GOOSE_TRIG (R84) -/
  | gooseTrig (n : Fin 32)
  /-- GOOSE_REPEAT (R84) -/
  | gooseRepeat (n : Fin 32)
  /-- LOOP_TIER_BARRIER (R99) -/
  | loopTierBarrier
  /-- LOOP_WRITEBACK (R99) -/
  | loopWriteback (k : Nat)
  /-- LOOP_NOP (R103) -/
  | loopNop (lane : Fin 8)
  /-- LOOP_MOV (R103) -/
  | loopMov (lane : Fin 8)
  /-- LOOP_ADD (R103) -/
  | loopAdd (lane : Fin 8)
  /-- LOOP_SUB (R103) -/
  | loopSub (lane : Fin 8)
  /-- LOOP_MULC (R103) -/
  | loopMulc (lane : Fin 8)
  /-- LOOP_MULV (R103) -/
  | loopMulv (lane : Fin 8)
  /-- LOOP_MAC0 (R103) -/
  | loopMac0 (lane : Fin 8)
  /-- LOOP_MAC (R103) -/
  | loopMac (lane : Fin 8)
  /-- LOOP_INT (R115) -/
  | loopInt (lane : Fin 8)
  /-- LOOP_MAX (R103) -/
  | loopMax (lane : Fin 8)
  /-- LOOP_MIN (R103) -/
  | loopMin (lane : Fin 8)
  /-- LOOP_LIM (R103) -/
  | loopLim (lane : Fin 8)
  /-- LOOP_ABS (R103) -/
  | loopAbs (lane : Fin 8)
  /-- LOOP_NEG (R103) -/
  | loopNeg (lane : Fin 8)
  /-- LOOP_ASH (R103) -/
  | loopAsh (lane : Fin 8)
  /-- LOOP_TRIG (R103) -/
  | loopTrig (lane : Fin 8)
  /-- LOOP_LDC (R103) -/
  | loopLdc (lane : Fin 8)
  /-- LOOP_SKP (R108) -/
  | loopSkp (lane : Fin 8)
  /-- LOOP_OUT (R114) -/
  | loopOut (lane : Fin 8)
  /-- LOOP_WR (R103) -/
  | loopWr (lane : Fin 8)
  /-- FRD (R129) -/
  | frd (lane : Fin 8)
  /-- FRDI (R129) -/
  | frdi (lane : Fin 8)
  /-- FST (R130) -/
  | fst (lane : Fin 8)
  /-- TRC (R137) -/
  | trc (lane : Fin 8)
  /-- LOOP_OPEN (R120) -/
  | loopOpen (slot : Fin 64)
  /-- LOOP_CLOSE (R120) -/
  | loopClose (slot : Fin 64)
  /-- COEF_WRITE (R121) -/
  | coefWrite (v : BitVec 18)
  /-- PARAM_WRITE (R120) -/
  | paramWrite (p : Fin 64) (v : Word)
  /-- LPE_XDATA_WRITE (R124) -/
  | lpeXdataWrite (v : Word)
  /-- LPE_XDATA0_READ (R124) -/
  | lpeXdata0Read (who : Fin 17)
  /-- FLOURISH_CLR (R135) -/
  | flourishClr (t : Fin 64)
  /-- TAP_START (R139) -/
  | tapStart (t : Fin 64)
  /-- TAP_TRIG (R139) -/
  | tapTrig (t : Fin 64)
  /-- TAP_ENABLE (R140) -/
  | tapEnable (t : Fin 64) (v : Word)
  /-- TRACE_ENTRY_DEADLINE (R139) -/
  | traceEntryDeadline (t : Fin 64)
  /-- RANK_COMPLETE (R148) -/
  | rankComplete (a : Fin 12)
  /-- HOLD_OUT (R162) -/
  | holdOut (x : Fin 8192)
  /-- CELL_RETURN (R162) -/
  | cellReturn (x : Fin 8192)
  /-- RNK_CXDATA0_READ (R164) -/
  | rnkCxdata0Read (who : Fin 17)
  /-- RNK_CXDATA0_WRITE (R164) -/
  | rnkCxdata0Write (v : Word)
  /-- WORD_FRAME_START (R166) -/
  | wordFrameStart (k : Nat)
  /-- DIGEST (R335) -/
  | digest (k : Nat) (d : Digest)
  /-- CELL_REPORT (R178) -/
  | cellReport (c : Fin 192) (r : BitVec 192) (m : LinkMsg) (late : Bool)
  /-- REPORT_FRAME_SEND (R178) -/
  | reportFrameSend (k : Nat)
  /-- ECHO (R176) -/
  | echo (lane : Fin 64) (k : Nat) (twin : Fin 2) (claim : Fin 65536) (e : Echo)
  /-- WORD_FRAME (R179) -/
  | wordFrame (u : Fin 2) (t : Nat) (claim : Fin 65536) (twin : Fin 2) (gcmOk : Bool) (ws : List (BitVec 96))
  /-- STROKE_WORD (R182) -/
  | strokeWord (plane : Fin 2) (w : BitVec 96) (m : LinkMsg) (late : Bool)
  /-- ARMING_DEADLINE (R182) -/
  | armingDeadline
  /-- SAFE_ACTION (R185) -/
  | safeAction
  /-- CELL_REPORT_SEND (R173) -/
  | cellReportSend
  /-- MGMT_READ_REQUEST (R172) -/
  | mgmtReadRequest (p : Fin 2) (m : LinkMsg) (tid : Fin 256) (addr : BitVec 16) (cnt : Fin 16)
  /-- MGMT_WRITE_REQUEST (R172) -/
  | mgmtWriteRequest (p : Fin 2) (m : LinkMsg) (tick : Fin 16777216) (tid : Fin 256) (addr : BitVec 16) (ws : List Word) (obj : Option (Envelope × Delivery))
  /-- MGMT_READ_RESPONSE (R172) -/
  | mgmtReadResponse (engine : Option (Fin 8192)) (port : Fin 192) (tid : Fin 256) (m : LinkMsg) (ws : List Word)
  /-- MGMT_WRITE_ACK (R172) -/
  | mgmtWriteAck (port : Fin 192) (tid : Fin 256) (m : LinkMsg)
  /-- MGMT_ERROR (R189) -/
  | mgmtError (engine : Option (Fin 8192)) (port : Fin 192) (tid : Fin 256) (m : LinkMsg) (code : Fin 256) (block : Option (Fin 65536))
  /-- IMAGE_BLOCK (R255) -/
  | imageBlock (p : Fin 2) (m : LinkMsg) (tid : Fin 256) (idx : BitVec 16) (cnt : Fin 16) (data : BitVec 256)
  /-- HUB_MGMT_REQUEST (R188) -/
  | hubMgmtRequest (u : Fin 2) (op : Fin 16) (tid count : Fin 256) (target : Fin 2) (port : Fin 256) (addr : BitVec 24) (ws : List Word) (map : Bool)
  /-- CELL_MGMT_TIMEOUT (R189) -/
  | cellMgmtTimeout (port : Fin 192)
  /-- CLR_SAFE (R185) -/
  | clrSafe
  /-- STK_START (R186) -/
  | stkStart
  /-- STK_STOP (R186) -/
  | stkStop
  /-- NIB_DISABLE (R201) -/
  | nibDisable (tick : Fin 16777216)
  /-- NIB_ENABLE (R202) -/
  | nibEnable
  /-- NIB_EDGE (R196) -/
  | nibEdge
  /-- TRIP (R204) -/
  | trip (n : Fin 4) (tick : Fin 16777216)
  /-- BLANKING_END (R205) -/
  | blankingEnd (ch : Fin 4) (tick : Fin 16777216)
  /-- LATCH_CLEAR (R206) -/
  | latchClear (b : Fin 5)
  /-- ILOCK_CLEAR (R206) -/
  | ilockClear
  /-- OVERVOLTAGE (R207) -/
  | overvoltage (tick : Fin 16777216)
  /-- OVP_RELEASE (R207) -/
  | ovpRelease
  /-- LINK_SILENCE (R208) -/
  | linkSilence (tick : Fin 16777216)
  /-- FREEZE (R210) -/
  | freeze (tick : Fin 16777216) (clockStop : Bool)
  /-- FREEZE_RESUME (R210) -/
  | freezeResume
  /-- INTERLOCK (R212) -/
  | interlock (tick : Fin 16777216)
  /-- BYPASS_PULSE_END (R213) -/
  | bypassPulseEnd
  /-- REARM (R213) -/
  | rearm
  /-- SIGNED_SETTINGS_APPLY (R214) -/
  | signedSettingsApply
  /-- CORE_RESET (R214) -/
  | coreReset (tick : Fin 16777216)
  /-- TIMER_PULSE_END (R216) -/
  | timerPulseEnd (ch : Fin 4)
  /-- OSC_CHECK (R362) -/
  | oscCheck (good : Bool)
  /-- AQ_SLOT (R222) -/
  | aqSlot (cell : Bool) (ins : List Int)
  /-- AQ_RESULT (R223) -/
  | aqResult (cell : Bool)
  /-- URGENT_REQUEST (R227) -/
  | urgentRequest (cell : Bool) (input : Fin 32) (tick : Fin 16777216)
  /-- URGENT_RESULT (R227) -/
  | urgentResult (cell : Bool)
  /-- AQ_ENABLE (R226) -/
  | aqEnable (cell en : Bool)
  /-- SLICE_CALIBRATED (R229) -/
  | sliceCalibrated (cell beyond : Bool)
  /-- DRIFT_CLEAR (R232) -/
  | driftClear (cell hard : Bool)
  /-- REF_SELECT (R233) -/
  | refSelect (cell : Bool)
  /-- XOFF (R233) -/
  | xoff (cell : Bool)
  /-- AQ_RES0_READ (R223) -/
  | aqRes0Read (cell : Bool) (who : Fin 17)
  /-- AQ_URES0_READ (R239) -/
  | aqUres0Read (cell : Bool) (who : Fin 17)
  /-- ARBITER_START (R234) -/
  | arbiterStart (x : Fin 8192) (d : BitVec 24)
  /-- ARBITER_TIMEOUT (R236) -/
  | arbiterTimeout (a : Fin 12)
  /-- ARBITER_HOLD_OUT (R237) -/
  | arbiterHoldOut (a : Fin 12)
  /-- HOLDUP_CONVERSION (R244) -/
  | holdupConversion (code : Fin 4096) (tick : Fin 16777216)
  /-- LEDGER_PLAN (R246) -/
  | ledgerPlan (tick : Fin 16777216)
  /-- BROWN_OUT (R249) -/
  | brownOut (tick : Fin 16777216) (supply : Bool)
  /-- VDD_IO_LOSS (R249) -/
  | vddIoLoss
  /-- ISLAND_RESET_RELEASE (R242) -/
  | islandResetRelease
  /-- MAIN_RESET_RELEASE (R242) -/
  | mainResetRelease (lost : List KeeperItem)
  /-- LFR_CLEAR (R257) -/
  | lfrClear
  /-- LFRF0_READ (R257) -/
  | lfrf0Read (who : Fin 17) (first : Bool)
  /-- FW_ERASE (R255) -/
  | fwErase
  /-- ERASE_COMPLETE (R255) -/
  | eraseComplete
  /-- FW_VERIFY (R255) -/
  | fwVerify
  /-- FW_ACTIVATE (R256) -/
  | fwActivate (tick : Fin 16777216)
  /-- FW_CONFIRM (R256) -/
  | fwConfirm
  /-- TRIAL_TIMEOUT (R256) -/
  | trialTimeout (tick : Fin 16777216)
  /-- ADD (R267) -/
  | qAdd (u : CoreId) (rd ra rb : Fin 32) (fe : Fin 3)
  /-- SUB (R267) -/
  | qSub (u : CoreId) (rd ra rb : Fin 32) (fe : Fin 3)
  /-- ADDC (R267) -/
  | qAddc (u : CoreId) (rd ra rb : Fin 32) (fe : Fin 3)
  /-- SUBC (R267) -/
  | qSubc (u : CoreId) (rd ra rb : Fin 32) (fe : Fin 3)
  /-- AND (R267) -/
  | qAnd (u : CoreId) (rd ra rb : Fin 32) (fe : Fin 3)
  /-- OR (R267) -/
  | qOr (u : CoreId) (rd ra rb : Fin 32) (fe : Fin 3)
  /-- XOR (R267) -/
  | qXor (u : CoreId) (rd ra rb : Fin 32) (fe : Fin 3)
  /-- SHL (R267) -/
  | qShl (u : CoreId) (rd ra rb : Fin 32) (fe : Fin 3)
  /-- SHR (R267) -/
  | qShr (u : CoreId) (rd ra rb : Fin 32) (fe : Fin 3)
  /-- SHA (R267) -/
  | qSha (u : CoreId) (rd ra rb : Fin 32) (fe : Fin 3)
  /-- SHLI (R267) -/
  | qShli (u : CoreId) (rd ra sh : Fin 32) (fe : Fin 3)
  /-- SHRI (R267) -/
  | qShri (u : CoreId) (rd ra sh : Fin 32) (fe : Fin 3)
  /-- SHAI (R267) -/
  | qShai (u : CoreId) (rd ra sh : Fin 32) (fe : Fin 3)
  /-- SLT (R267) -/
  | qSlt (u : CoreId) (rd ra rb : Fin 32) (fe : Fin 3)
  /-- SLTU (R267) -/
  | qSltu (u : CoreId) (rd ra rb : Fin 32) (fe : Fin 3)
  /-- MIN (R267) -/
  | qMin (u : CoreId) (rd ra rb : Fin 32) (fe : Fin 3)
  /-- MAX (R267) -/
  | qMax (u : CoreId) (rd ra rb : Fin 32) (fe : Fin 3)
  /-- MUL (R267) -/
  | qMul (u : CoreId) (rd ra rb : Fin 32) (fe : Fin 3)
  /-- MULH (R267) -/
  | qMulh (u : CoreId) (rd ra rb : Fin 32) (fe : Fin 3)
  /-- MULHU (R267) -/
  | qMulhu (u : CoreId) (rd ra rb : Fin 32) (fe : Fin 3)
  /-- DIV (R267) -/
  | qDiv (u : CoreId) (rd ra rb : Fin 32) (fe : Fin 3)
  /-- DIVU (R267) -/
  | qDivu (u : CoreId) (rd ra rb : Fin 32) (fe : Fin 3)
  /-- REM (R267) -/
  | qRem (u : CoreId) (rd ra rb : Fin 32) (fe : Fin 3)
  /-- REMU (R267) -/
  | qRemu (u : CoreId) (rd ra rb : Fin 32) (fe : Fin 3)
  /-- ADDS (R267) -/
  | qAdds (u : CoreId) (rd ra rb : Fin 32) (fe : Fin 3)
  /-- SUBS (R267) -/
  | qSubs (u : CoreId) (rd ra rb : Fin 32) (fe : Fin 3)
  /-- ABSS (R267) -/
  | qAbss (u : CoreId) (rd ra : Fin 32) (fe : Fin 3)
  /-- NEGS (R267) -/
  | qNegs (u : CoreId) (rd ra : Fin 32) (fe : Fin 3)
  /-- ADDS14 (R267) -/
  | qAdds14 (u : CoreId) (rd ra rb : Fin 32) (fe : Fin 3)
  /-- SUBS14 (R267) -/
  | qSubs14 (u : CoreId) (rd ra rb : Fin 32) (fe : Fin 3)
  /-- MULS14 (R267) -/
  | qMuls14 (u : CoreId) (rd ra rb : Fin 32) (fe : Fin 3)
  /-- SAT14 (R267) -/
  | qSat14 (u : CoreId) (rd ra : Fin 32) (fe : Fin 3)
  /-- SATS (R267) -/
  | qSats (u : CoreId) (rd ra rb : Fin 32) (fe : Fin 3)
  /-- CLZ (R267) -/
  | qClz (u : CoreId) (rd ra : Fin 32) (fe : Fin 3)
  /-- ADDI (R268) -/
  | qAddi (u : CoreId) (rd ra : Fin 32) (imm : BitVec 16) (fe : Fin 3)
  /-- ANDI (R268) -/
  | qAndi (u : CoreId) (rd ra : Fin 32) (imm : BitVec 16) (fe : Fin 3)
  /-- ORI (R268) -/
  | qOri (u : CoreId) (rd ra : Fin 32) (imm : BitVec 16) (fe : Fin 3)
  /-- XORI (R268) -/
  | qXori (u : CoreId) (rd ra : Fin 32) (imm : BitVec 16) (fe : Fin 3)
  /-- LUI (R268) -/
  | qLui (u : CoreId) (rd : Fin 32) (imm : BitVec 16) (fe : Fin 3)
  /-- SLTI (R268) -/
  | qSlti (u : CoreId) (rd ra : Fin 32) (imm : BitVec 16) (fe : Fin 3)
  /-- LDW (R270) -/
  | qLdw (u : CoreId) (rd ra : Fin 32) (imm : BitVec 16) (fe : Fin 3) (de : Fin 3)
  /-- LDH (R270) -/
  | qLdh (u : CoreId) (rd ra : Fin 32) (imm : BitVec 16) (fe : Fin 3) (de : Fin 3)
  /-- LDHU (R270) -/
  | qLdhu (u : CoreId) (rd ra : Fin 32) (imm : BitVec 16) (fe : Fin 3) (de : Fin 3)
  /-- LDB (R270) -/
  | qLdb (u : CoreId) (rd ra : Fin 32) (imm : BitVec 16) (fe : Fin 3) (de : Fin 3)
  /-- LDBU (R270) -/
  | qLdbu (u : CoreId) (rd ra : Fin 32) (imm : BitVec 16) (fe : Fin 3) (de : Fin 3)
  /-- STW (R270) -/
  | qStw (u : CoreId) (rd ra : Fin 32) (imm : BitVec 16) (fe : Fin 3) (tick : Fin 16777216)
  /-- STH (R270) -/
  | qSth (u : CoreId) (rd ra : Fin 32) (imm : BitVec 16) (fe : Fin 3) (tick : Fin 16777216)
  /-- STB (R270) -/
  | qStb (u : CoreId) (rd ra : Fin 32) (imm : BitVec 16) (fe : Fin 3) (tick : Fin 16777216)
  /-- BEQ (R270) -/
  | qBeq (u : CoreId) (ra rb : Fin 32) (ofs : BitVec 16) (fe : Fin 3)
  /-- BNE (R270) -/
  | qBne (u : CoreId) (ra rb : Fin 32) (ofs : BitVec 16) (fe : Fin 3)
  /-- BLT (R270) -/
  | qBlt (u : CoreId) (ra rb : Fin 32) (ofs : BitVec 16) (fe : Fin 3)
  /-- BGE (R270) -/
  | qBge (u : CoreId) (ra rb : Fin 32) (ofs : BitVec 16) (fe : Fin 3)
  /-- BLTU (R270) -/
  | qBltu (u : CoreId) (ra rb : Fin 32) (ofs : BitVec 16) (fe : Fin 3)
  /-- BGEU (R270) -/
  | qBgeu (u : CoreId) (ra rb : Fin 32) (ofs : BitVec 16) (fe : Fin 3)
  /-- BFL (R270) -/
  | qBfl (u : CoreId) (cond : Fin 9) (ofs : BitVec 16) (fe : Fin 3)
  /-- JAL (R266) -/
  | qJal (u : CoreId) (rd : Fin 32) (ofs : BitVec 21) (fe : Fin 3)
  /-- JALR (R266) -/
  | qJalr (u : CoreId) (rd ra : Fin 32) (imm : BitVec 16) (fe : Fin 3)
  /-- MACZ (R271) -/
  | qMacz (u : CoreId) (acc : Fin 8) (ra rb : Fin 32) (fe : Fin 3)
  /-- MAC (R271) -/
  | qMac (u : CoreId) (acc : Fin 8) (ra rb : Fin 32) (fe : Fin 3)
  /-- MSU (R271) -/
  | qMsu (u : CoreId) (acc : Fin 8) (ra rb : Fin 32) (fe : Fin 3)
  /-- MACV (R271) -/
  | qMacv (u : CoreId) (acc : Fin 8) (ra rb : Fin 32) (fe : Fin 3)
  /-- ACCW (R271) -/
  | qAccw (u : CoreId) (acc : Fin 8) (ra rb : Fin 32) (fe : Fin 3)
  /-- ACCADD (R271) -/
  | qAccadd (u : CoreId) (acc : Fin 8) (ra : Fin 32) (sh : Fin 17) (fe : Fin 3)
  /-- ACCRR (R271) -/
  | qAccrr (u : CoreId) (rd : Fin 32) (acc : Fin 8) (sh : Fin 48) (fe : Fin 3)
  /-- ACCRD (R271) -/
  | qAccrd (u : CoreId) (rd : Fin 32) (acc : Fin 8) (sh : Fin 48) (fe : Fin 3)
  /-- ACCR14 (R271) -/
  | qAccr14 (u : CoreId) (rd : Fin 32) (acc : Fin 8) (sh : Fin 48) (fe : Fin 3)
  /-- ACCLO (R271) -/
  | qAcclo (u : CoreId) (rd : Fin 32) (acc : Fin 8) (fe : Fin 3)
  /-- ACCHI (R271) -/
  | qAcchi (u : CoreId) (rd : Fin 32) (acc : Fin 8) (fe : Fin 3)
  /-- VADD (R272) -/
  | qVadd (u : CoreId) (rd ra rb : Fin 32) (fe : Fin 3)
  /-- VSUB (R272) -/
  | qVsub (u : CoreId) (rd ra rb : Fin 32) (fe : Fin 3)
  /-- VMUL (R272) -/
  | qVmul (u : CoreId) (rd ra rb : Fin 32) (fe : Fin 3)
  /-- VMIN (R272) -/
  | qVmin (u : CoreId) (rd ra rb : Fin 32) (fe : Fin 3)
  /-- VMAX (R272) -/
  | qVmax (u : CoreId) (rd ra rb : Fin 32) (fe : Fin 3)
  /-- VABS (R272) -/
  | qVabs (u : CoreId) (rd ra : Fin 32) (fe : Fin 3)
  /-- VNEG (R272) -/
  | qVneg (u : CoreId) (rd ra : Fin 32) (fe : Fin 3)
  /-- VPACK (R272) -/
  | qVpack (u : CoreId) (rd ra rb : Fin 32) (fe : Fin 3)
  /-- VSUM (R272) -/
  | qVsum (u : CoreId) (rd ra : Fin 32) (fe : Fin 3)
  /-- VDOT (R272) -/
  | qVdot (u : CoreId) (rd ra rb : Fin 32) (fe : Fin 3)
  /-- CSRR (R273) -/
  | qCsrr (u : CoreId) (rd : Fin 32) (csr : BitVec 12) (fe : Fin 3)
  /-- CSRW (R273) -/
  | qCsrw (u : CoreId) (ra : Fin 32) (csr : BitVec 12) (fe : Fin 3)
  /-- CSRS (R273) -/
  | qCsrs (u : CoreId) (rd ra : Fin 32) (csr : BitVec 12) (fe : Fin 3)
  /-- CSRC (R273) -/
  | qCsrc (u : CoreId) (rd ra : Fin 32) (csr : BitVec 12) (fe : Fin 3)
  /-- WAITS (R274) -/
  | qWaits (u : CoreId) (rd ra : Fin 32) (imm : BitVec 12) (fe : Fin 3) (ce : Fin 3)
  /-- WAITA (R274) -/
  | qWaita (u : CoreId) (rd ra : Fin 32) (imm : BitVec 12) (fe : Fin 3) (ce : Fin 3)
  /-- POST (R275) -/
  | qPost (u : CoreId) (rd ra : Fin 32) (fe : Fin 3)
  /-- LOCK (R275) -/
  | qLock (u : CoreId) (rd ra : Fin 32) (fe : Fin 3) (ce : Fin 3)
  /-- TRYLK (R275) -/
  | qTrylk (u : CoreId) (rd ra : Fin 32) (fe : Fin 3)
  /-- UNLOCK (R275) -/
  | qUnlock (u : CoreId) (ra : Fin 32) (fe : Fin 3)
  /-- YIELD (R273) -/
  | qYield (u : CoreId) (fe : Fin 3) (ce : Fin 3)
  /-- EXIT (R273) -/
  | qExit (u : CoreId) (fe : Fin 3)
  /-- FENCE (R273) -/
  | qFence (u : CoreId) (fe : Fin 3)
  /-- TRAP (R273) -/
  | qTrap (u : CoreId) (imm : BitVec 12) (fe : Fin 3)
  /-- BRK (R279) -/
  | qBrk (u : CoreId) (fe : Fin 3)
  /-- XRET (R281) -/
  | qXret (u : CoreId) (fe : Fin 3)
  /-- MVIN (R276) -/
  | qMvin (u : CoreId) (rd ra rb : Fin 32) (tag : Fin 4) (fe : Fin 3)
  /-- MVOUT (R276) -/
  | qMvout (u : CoreId) (rd ra rb : Fin 32) (tag : Fin 4) (fe : Fin 3)
  /-- MVWAIT (R277) -/
  | qMvwait (u : CoreId) (rd : Fin 32) (tag : Fin 4) (fe : Fin 3)
  /-- INKLW (R276) -/
  | qInklw (u : CoreId) (rd ra : Fin 32) (fe : Fin 3) (de : Fin 3)
  /-- INKSW (R276) -/
  | qInksw (u : CoreId) (rd ra : Fin 32) (fe : Fin 3)
  /-- MOVE_COMPLETE (R277) -/
  | moveComplete (q : Fin 16) (mv : Nat) (status : Fin 3) (done : Nat)
  /-- QUILL_S_INTERRUPT (R281) -/
  | quillSInterrupt (n : Fin 8)
  /-- LOCKSTEP_MISMATCH (R282) -/
  | lockstepMismatch (q : Fin 16)
  /-- DEBUG_HALT (R286) -/
  | debugHalt (u : CoreId) (tick : Fin 16777216)
  /-- DEBUG_RESUME (R286) -/
  | debugResume (u : CoreId)
  /-- DEBUG_STEP (R286) -/
  | debugStep (u : CoreId) (tick : Fin 16777216)
  /-- QDBG_ACC_READ (R286) -/
  | qdbgAccRead (q : Fin 16) (n : Fin 8)
  /-- TASK_POST_CMD (R303) -/
  | taskPostCmd (t : Fin 256)
  /-- TASK_KILL (R303) -/
  | taskKill (t : Fin 256)
  /-- TASK_DISABLE (R303) -/
  | taskDisable (t : Fin 256)
  /-- TASK_ENABLE (R304) -/
  | taskEnable (t : Fin 256)
  /-- PREEMPTION (R297) -/
  | preemption (q : Fin 16) (ce : Fin 3)
  /-- BUDGET_EXCEEDED (R300) -/
  | budgetExceeded (t : Fin 256)
  /-- LOCK_WAIT_TIMEOUT (R295) -/
  | lockWaitTimeout (t : Fin 256)
  /-- CORE_ENABLE_WRITE (R302) -/
  | coreEnableWrite (v : BitVec 16)
  /-- CORE_RETURN (R302) -/
  | coreReturn (v : BitVec 16)
  /-- SELF_TEST_COMPLETE (R302) -/
  | selfTestComplete (q : Fin 16) (good : Bool)
  /-- SCRUB_STEP (R310) -/
  | scrubStep (singles doubles : List Nat)
  /-- SPARE_REQ (R311) -/
  | spareReq (rbank : Fin 64)
  /-- SPARE_COPY_COMPLETE (R311) -/
  | spareCopyComplete
  /-- LAYOUT_LOCK (R318) -/
  | layoutLock
  /-- RESIZE_QUEUE (R319) -/
  | resizeQueue (part : Fin 16) (size : BitVec 11)
  /-- RINV (R324) -/
  | rinv (all : Bool) (rgn : BitVec 20)
  /-- HEARTBEAT_SEND (R337) -/
  | heartbeatSend
  /-- HEART (R337) -/
  | heart (path : Fin 2) (lane : Fin 64) (hubTwin : Fin 2) (hubClaim : Fin 65536) (tagOk : Bool) (b : Heart)
  /-- HUB_HEART_RELAY (R337) -/
  | hubHeartRelay (u : Fin 2) (b : Heart)
  /-- HANDOVER_CMD (R344) -/
  | handoverCmd
  /-- HANDOVER_DEADLINE (R345) -/
  | handoverDeadline (k : Nat)
  /-- DRILL (R347) -/
  | drill
  /-- REVERT (R348) -/
  | revert
  /-- JOIN_REQUEST (R349) -/
  | joinRequest (view : PeerView)
  /-- STATE_FRAME (R351) -/
  | stateFrame (o : StateObj)
  /-- JOIN_TIMEOUT (R352) -/
  | joinTimeout
  /-- BUNDLE_COMMIT (R353) -/
  | bundleCommit (slot : Fin 4) (lo : Word)
  /-- CAUSE_RISE (R358) -/
  | causeRise (p : Part) (n : Fin 512) (who : Who)
  /-- CAUSE_FALL (R373) -/
  | causeFall (p : Part) (n : Fin 512) (who : Who)
  /-- EVENT_CAUSE_EXPIRY (R358) -/
  | eventCauseExpiry (p : Part) (n : Fin 512)
  /-- PERSISTENCE_MET (R358) -/
  | persistenceMet (n : Fin 512)
  /-- ACTION_NOTICE (R363) -/
  | actionNotice (a : BltAction)
  /-- ALERT_PULSE_END (R366) -/
  | alertPulseEnd (n : Fin 4)
  /-- ALERT_REL (R366) -/
  | alertRel (n : Fin 4)
  /-- ALERT_PIN_FAULT (R366) -/
  | alertPinFault (n : Fin 4)
  /-- BLT_REL_WRITE (R367) -/
  | bltRelWrite (arms : BitVec 12) (trip : Bool)
  /-- BLT_CREL (R367) -/
  | bltCrel (x : Fin 8192)
  /-- SOURCE_CLEAR (R368) -/
  | sourceClear (p : Part) (n : Fin 512)
  /-- SOURCE_FORCE (R369) -/
  | sourceForce (p : Part) (n : Fin 512) (x : Bool)
  /-- HUB_BLOTTER_READ (R371) -/
  | hubBlotterRead (cell : Option (Fin 192)) (rs : List BltRecord)
  /-- BLOTTER_READ_RETRY (R371) -/
  | blotterReadRetry (c : Fin 192)
  /-- BLOTTER_BLOCK (R372) -/
  | blotterBlock (rs : List BltRecord)
  /-- CHANGED_BITMAP_READ (R370) -/
  | changedBitmapRead (cell : Bool) (w : Fin 4)
  /-- LOG_POP (R373) -/
  | logPop
  /-- LOG0_READ (R373) -/
  | log0Read (who : Fin 17)
  /-- SOURCE_FIRST_READ (R378) -/
  | sourceFirstRead (who : Fin 17) (n : Fin 512) (last : Bool)
  /-- CBDATA_READ (R378) -/
  | cbdataRead (who : Fin 17)
  /-- INCIDENT_CLEAR (R375) -/
  | incidentClear
  /-- FOLIO_ARM (R387) -/
  | folioArm (n : Fin 8)
  /-- FOLIO_TRIG (R388) -/
  | folioTrig (n : Fin 8)
  /-- FOLIO_FREE (R394) -/
  | folioFree (n : Fin 8)
  /-- FOLIO_ABORT (R394) -/
  | folioAbort (n : Fin 8)
  /-- TRIGIN_EDGE (R389) -/
  | triginEdge (p : Fin 2) (rise : Bool) (tenths : Nat)
  /-- FINALISATION_COMPLETE (R391) -/
  | finalisationComplete (n : Fin 8)
  /-- STREAM_UNIT (R393) -/
  | streamUnit
  /-- SRRPTR_WRITE (R393) -/
  | srrptrWrite (v : Word)
  /-- FOL_TTS0_READ (R395) -/
  | folTts0Read (who : Fin 17) (p : Fin 2)
  /-- TX_SETTLE_DONE (R403) -/
  | txSettleDone (e : LaneEnd)
  /-- TRAIN_END (R403) -/
  | trainEnd (e : LaneEnd)
  /-- SIGNAL_DETECT (R404) -/
  | signalDetect (e : LaneEnd)
  /-- CDR_LOCK (R404) -/
  | cdrLock (e : LaneEnd)
  /-- PILOT_LOCK (R404) -/
  | pilotLock (e : LaneEnd) (seen : List (Fin 4))
  /-- LANE_UP (R404) -/
  | laneUp (e : LaneEnd) (devid step : Nat)
  /-- CODEWORD (R400) -/
  | codeword (e : LaneEnd) (line : List (Fin 4)) (tags : List (Bool × Bool))
  /-- LOSS_OF_SIGNAL (R410) -/
  | lossOfSignal (e : LaneEnd)
  /-- SIGNAL_RETURN (R410) -/
  | signalReturn (e : LaneEnd)
  /-- HOLD_TIMEOUT (R410) -/
  | holdTimeout (e : LaneEnd)
  /-- FOM_REFRESH (R405) -/
  | fomRefresh (e : LaneEnd) (mu : List Int) (sd : List Nat)
  /-- CAL_REQUEST (R408) -/
  | calRequest (n : Fin 68)
  /-- CAL_WINDOW_START (R408) -/
  | calWindowStart (e : LaneEnd)
  /-- CAL_WINDOW_END (R408) -/
  | calWindowEnd (e : LaneEnd)
  /-- HUB_CAL_POLL (R409) -/
  | hubCalPoll (lane : Fin 64) (gneed : Fin 65536) (uneed : Fin 4)
  /-- HUB_CAL_GRANT (R409) -/
  | hubCalGrant (port : Fin 32)
  /-- UCW_SECOND (R416) -/
  | ucwSecond (n : Fin 68)
  /-- CELL_LINK_UP (R411) -/
  | cellLinkUp (e : LaneEnd) (fom : Fin 64)
  /-- CELL_LINK_DOWN (R411) -/
  | cellLinkDown (e : LaneEnd) (viol disp disc : Nat) (silent : Bool)
  /-- IHLOON_TX_WINDOW (R413) -/
  | ihloonTxWindow
  /-- IHLOON_TX_WINDOW_END (R413) -/
  | ihloonTxWindowEnd
  /-- ATTEST_CHALLENGE (R428) -/
  | attestChallenge (p : Part) (link : Fin 2) (certOk : Bool)
  /-- ATTEST_EVIDENCE (R428) -/
  | attestEvidence (hub : Bool) (pos : Fin 8192) (plane : Fin 2) (ev : Evidence) (other : Bool)
  /-- ATTEST_RETRY (R428) -/
  | attestRetry (hub : Bool) (pos : Fin 8192)
  /-- EVIDENCE_RECORD (R429) -/
  | evidenceRecord (pos : Fin 8192) (plane : Fin 2) (ev : Evidence) (verdict : Fin 4) (sentAt : Nat)
  /-- BUNDLE_LOAD (R427) -/
  | bundleLoad (slot : Fin 4) (ecdsa mldsa digest : Bool) (hash : Nat) (body : Payload)
  /-- LOAD_COMPLETE (R427) -/
  | loadComplete
  /-- PROVISIONING_WRITE (R422) -/
  | provisioningWrite (p : Part) (usage : Fin 256)
  /-- EPOCH_TIMER (R434) -/
  | epochTimer (hub : Bool)
  /-- DEBUG_TOKEN (R438) -/
  | debugToken (p : Part) (e : Envelope) (nonce perm : Nat)
  /-- DEBUG_CLOSE (R438) -/
  | debugClose (p : Part)
  /-- DEBUG_EXPIRY (R438) -/
  | debugExpiry (p : Part)
  /-- DBGCHAL_READ (R439) -/
  | dbgchalRead (p : Part) (who : Fin 17)
  /-- POSDATA_READ (R439) -/
  | posdataRead (who : Fin 17)
  /-- ENTROPY_FAILURE (R420) -/
  | entropyFailure (p : Part)
  /-- ENDPOINT_RESET (R442) -/
  | endpointReset (perst : Bool)
  /-- PCIE_LINK_DOWN (R442) -/
  | pcieLinkDown
  /-- REGISTER_WRITE (R444) -/
  | registerWrite (a : BitVec 24) (v : Word) (be : Fin 16) (hit : Word)
  /-- HUB_WINDOW_READ (R446) -/
  | hubWindowRead (n : Fin 64) (ofs : BitVec 17) (count : Fin 1024) (shapeOk : Bool)
  /-- HUB_WINDOW_WRITE (R446) -/
  | hubWindowWrite (n : Fin 64) (ofs : BitVec 17) (ws : List Word) (shapeOk : Bool)
  /-- HUB_WINDOW_RESPONSE (R447) -/
  | hubWindowResponse (n : Fin 64) (twin : Fin 2) (claim : Fin 65536) (tid code : Fin 256) (ws : List Word)
  /-- HUB_WINDOW_TIMEOUT (R447) -/
  | hubWindowTimeout (n : Fin 64)
  /-- HERR_CLEAR (R453) -/
  | herrClear
  /-- DATA_PORT_WRITE (R449) -/
  | dataPortWrite (x : Fin 1024) (ws : List (Word × Fin 16))
  /-- DATA_PORT_READ (R449) -/
  | dataPortRead (x : Fin 1024) (n : Fin 1025) (find : Fin 3)
  /-- DATA_PORT_ADV (R449) -/
  | dataPortAdv
  /-- DATA_PORT_TIMEOUT (R450) -/
  | dataPortTimeout (isRead : Bool) (x : Fin 1024) (n : Fin 1025)
  /-- DPSTAT_READ (R449) -/
  | dpstatRead (who : Fin 17)
  /-- DOORBELL (R452) -/
  | doorbell (v : Word)
  /-- MSIX_UNMASK (R452) -/
  | msixUnmask (v : Fin 8)
  /-- PART_RESET (R465) -/
  | partReset (cause : Fin 3)
  /-- REBOOT (R465) -/
  | reboot
  /-- BOOT_RELEASE (R466) -/
  | bootRelease
  /-- IMAGE_VERIFIED (R466) -/
  | imageVerified (e : Envelope) (entry : BitVec 16) (sections : List ImageSection)
  /-- RAIL_FAULT (R456) -/
  | railFault (hub bad : Bool)
  /-- REFCLK_FAULT (R456) -/
  | refclkFault
  /-- PLANNER_TICK (R459) -/
  | plannerTick (power floor : Nat) (energy : List (Nat × Nat))
  /-- SHED_STEP (R460) -/
  | shedStep (thermal : Bool)
  /-- THERMAL_SAMPLE (R462) -/
  | thermalSample (hub : Bool) (tj : Int) (sensor : Fin 16)
  /-- THERMAL_TRIP (R464) -/
  | thermalTrip
  /-- QGATE_WRITE (R461) -/
  | qgateWrite (v : BitVec 16)
  /-- DXDATA_READ (R473) -/
  | dxdataRead (who : Fin 17)
  /-- FLASH_COMMAND (R468) -/
  | flashCommand (port : Fin 2) (op : BitVec 8) (mode : Fin 4) (len : Fin 512)
  /-- FLASH_COMMAND_DONE (R468) -/
  | flashCommandDone (data : List Word)
  /-- HUB_RESET (R470) -/
  | hubReset
  /-- IMAGE_FRAME (R471) -/
  | imageFrame (u : Fin 2) (cell : Bool) (port : Fin 192) (ofs : Nat) (data : List Nat) (last : Bool)
  /-- HUB_IMAGE_VERIFY (R470) -/
  | hubImageVerify (e : Envelope)
  /-- HUB_FAIL_WAIT (R470) -/
  | hubFailWait
  /-- CELL_LOAD_QUEUE (R471) -/
  | cellLoadQueue (x : Fin 8192)
  /-- HUB_RESTART (R472) -/
  | hubRestart
  /-- PDELAY_REQ_TRANSMIT (R30) -/
  | pdelayReqTransmit (port : Fin 4) (tx : Int)
  /-- TRIP_INPUT_RELEASE (R203) -/
  | tripInputRelease (n : Fin 4)
  /-- PCIE_LINK_UP (R442) -/
  | pcieLinkUp (width speed : Fin 16)
  /-- PORT_LINK_UP (R72) -/
  | portLinkUp (port : Fin 4) (speed : Fin 3)
  /-- SECURE_BOOT_DONE (R250) -/
  | secureBootDone (ok : Bool)
  /-- FW_VERIFY_DONE (R255) -/
  | fwVerifyDone (e : Envelope)
  /-- REGISTER_READ_CLEAR (R451) -/
  | registerReadClear (who : Fin 17) (a : BitVec 24) (hit : Option Nat)
  /-- SYNTHESISER_DRIFT (R408) -/
  | synthesiserDrift (e : LaneEnd)
  deriving DecidableEq, Repr

end Sys2Proof
end

