-- ==== Sys2Proof/Decode.lean ====
section
/-!
DEFINITION. Words of commands. The table of operations and events gives its rows no bits, so no word spells a command. The
encodings of the Quill's instructions are those of the scratch, in Machine/Quill.lean.
-/

namespace Sys2Proof

/-- The command that a word spells by the table's bits: none, since the table gives no row any. -/
def decodeTableWord (_nbits _w : Nat) : Option Instr := none

end Sys2Proof
end

