-- ==== Sys2Proof/Config.lean ====
section
/-!
DEFINITION. The free values: what the manual leaves open and the machine still produces. Every one is an opaque constant
without a body, applied to a plain counter of the state or to the operands it depends on, so that no proof can rest on
what it is and a claim holds whatever it is.
-/

namespace Sys2Proof.Config

/-- The rounding of an exact quotient `num / den` to a unit, where the manual states no rounding: true rounds up.
(log entry 3) -/
opaque roundUp : Int → Int → Bool

/-- A value the manual does not state, fresh for each value of the counter. (log entry 4) -/
opaque freeNat : Nat → Nat

/-- A memory word whose uncorrectable error hides its content: what the reader receives where the manual names no
value. (log entry 4) -/
opaque freeWord : Nat → Word

/-- The error of word TRIG in units of 2^-30, which R98 bounds at 2^-28 of full scale, for sine (true) or cosine of an
angle. (log entry 5) -/
opaque trigError : Bool → Nat → Int

/-- A cryptographic function of the manual's chapter on security, by its number and its input words. (log entry 6) -/
opaque crypto : Nat → List Nat → Nat

/-- The identity fingerprint of a part, a number of 128 bits (R421): 0 the Gloesk, 1 the Stanak, 2 the Ihloon.
(log entry 6) -/
opaque fingerprint : Nat → BitVec 128

/-- The 64 bytes of a Ruling record in its staging slot (R48, R314): the manual names the content (stroke, accumulator at its
boundary, velocity, accumulator at the next boundary) and not the layout (log entry 207). -/
opaque rulingLine : Nat → Nat → Int → Nat → BitVec 512

/-- Where the default of member `m` of GOOSE subscription `n` lies in Inkwell's SV partition (R83, R317): the manual says that the
partition holds it and not at which offset (log entry 208). -/
opaque gooseDefaultOfs : Nat → Nat → Nat

/-- Where the next frame of a receive ring lies in its 64 KB, by ring and by the counter of the free values (R314): the manual
does not give the ring's layout (log entry 208). -/
opaque ringSlot : Nat → Nat → Nat

/-- Length in bytes and bytes of the first flash directory entry of a TYPE (R467, R470): what the flash device holds (log entry
212). -/
opaque flashLength : Nat → Nat
opaque flashByte : Nat → Nat → Nat

end Sys2Proof.Config
end

