-- ==== Sys2Proof/Machine/RegMap.lean ====
section
/-!
DEFINITION. The register map of the three parts, register by register and field by field, as the register tables of
the manual give them: the PTP tables (R45, R46), RUL (R71), SVI (R97), LPE (R124), FLR (R141), RNK (R164), STK (R190),
HUB (R191, R418, R474), LNK (R192, R419), NIB (R216), PRT (R217), AQ (R239, R240), RSV (R257), DUC (R305), INK (R325),
TWN (R356), BLT (R378, R379), FOL (R395), LAN (R417), SEC (R439, R440), HST (R453) and PWR (R473).
A register is named as the manual names it; the Ihloon's and the Stanak's own copies of a block carry the letter C
or H before the block's name. A field is named by its register and its own name.
-/

namespace Sys2Proof.Machine.R

def gloeskSources0 : List Nat := [0x3, 0x41, 0x3, 0x41, 0x5, 0x3, 0x3, 0x5, 0x3, 0x83, 0x83, 0x5, 0x0, 0x0, 0x0, 0x0, 0x3, 0x3, 0x5, 0x0, 0x5, 0x3, 0x0, 0x0, 0x3, 0x3, 0x5, 0x3, 0x3, 0x3, 0x3, 0x0]
def gloeskSources1 : List Nat := [0x5, 0x5, 0x3, 0x5, 0x3, 0x0, 0x0, 0x0, 0x3, 0x3, 0x131, 0x3, 0x5, 0x3, 0x5, 0x0, 0x3, 0x3, 0x3, 0x3, 0x5, 0x3, 0x0, 0x0, 0x3, 0x3, 0x3, 0x0, 0x0, 0x0, 0x0, 0x0]
def gloeskSources2 : List Nat := [0x3, 0x3, 0x3, 0x3, 0x3, 0x3, 0x3, 0x43, 0x3, 0x3, 0x3, 0x0, 0x0, 0x0, 0x0, 0x0, 0x3, 0x3, 0x3, 0x5, 0x5, 0x3, 0x0, 0x0, 0x5, 0x5, 0x11, 0x0, 0x0, 0x0, 0x0, 0x0]
def gloeskSources3 : List Nat := [0x0, 0x0, 0x0, 0x0, 0x0, 0x0, 0x0, 0x0, 0x5, 0x3, 0x0, 0x0, 0x0, 0x0, 0x0, 0x0, 0x0, 0x0, 0x0, 0x0, 0x0, 0x0, 0x0, 0x0, 0x0, 0x0, 0x0, 0x0, 0x0, 0x0, 0x0, 0x0]
def gloeskSources4 : List Nat := [0x0, 0x0, 0x0, 0x0, 0x0, 0x0, 0x0, 0x0, 0x0, 0x0, 0x0, 0x0, 0x0, 0x0, 0x0, 0x0, 0x0, 0x0, 0x0, 0x0, 0x0, 0x0, 0x0, 0x0, 0x0, 0x0, 0x0, 0x0, 0x0, 0x0, 0x0, 0x0]
def gloeskSources5 : List Nat := [0x0, 0x0, 0x0, 0x0, 0x0, 0x0, 0x0, 0x0, 0x0, 0x0, 0x0, 0x0, 0x0, 0x0, 0x0, 0x0, 0x0, 0x0, 0x0, 0x0, 0x0, 0x0, 0x0, 0x0, 0x0, 0x0, 0x0, 0x0, 0x0, 0x0, 0x0, 0x0]
def gloeskSources6 : List Nat := [0x0, 0x0, 0x0, 0x0, 0x0, 0x0, 0x0, 0x0, 0x0, 0x0, 0x0, 0x0, 0x0, 0x0, 0x0, 0x0, 0x0, 0x0, 0x0, 0x0, 0x0, 0x0, 0x0, 0x0, 0x0, 0x0, 0x0, 0x0, 0x0, 0x0, 0x0, 0x0]
def gloeskSources7 : List Nat := [0x0, 0x0, 0x0, 0x0, 0x0, 0x0, 0x0, 0x0, 0x0, 0x0, 0x0, 0x0, 0x0, 0x0, 0x0, 0x0, 0x0, 0x0, 0x0, 0x0, 0x0, 0x0, 0x0, 0x0, 0x0, 0x0, 0x0, 0x0, 0x0, 0x0, 0x0, 0x0]
def gloeskSources8 : List Nat := [0x3, 0x3, 0x3, 0x5, 0x3, 0x3, 0x3, 0x5, 0x5, 0x5, 0x5, 0x3, 0x3, 0x3, 0x3, 0x0, 0x0, 0x0, 0x0, 0x0, 0x0, 0x0, 0x0, 0x0, 0x0, 0x0, 0x0, 0x0, 0x0, 0x0, 0x0, 0x0]
def gloeskSources9 : List Nat := [0x0, 0x0, 0x0, 0x0, 0x0, 0x0, 0x0, 0x0, 0x0, 0x0, 0x0, 0x0, 0x0, 0x0, 0x0, 0x0, 0x0, 0x0, 0x0, 0x0, 0x0, 0x0, 0x0, 0x0, 0x0, 0x0, 0x0, 0x0, 0x0, 0x0, 0x0, 0x0]
def gloeskSources10 : List Nat := [0x0, 0x0, 0x0, 0x0, 0x0, 0x0, 0x0, 0x0, 0x0, 0x0, 0x0, 0x0, 0x0, 0x0, 0x0, 0x0, 0x0, 0x0, 0x0, 0x0, 0x0, 0x0, 0x0, 0x0, 0x0, 0x0, 0x0, 0x0, 0x0, 0x0, 0x0, 0x0]
def gloeskSources11 : List Nat := [0x0, 0x0, 0x0, 0x0, 0x0, 0x0, 0x0, 0x0, 0x0, 0x0, 0x0, 0x0, 0x0, 0x0, 0x0, 0x0, 0x0, 0x0, 0x0, 0x0, 0x0, 0x0, 0x0, 0x0, 0x0, 0x0, 0x0, 0x0, 0x0, 0x0, 0x0, 0x0]
def gloeskSources12 : List Nat := [0x1, 0x1, 0x1, 0x1, 0x81, 0x81, 0x81, 0x1, 0x3, 0x1, 0x5, 0x3, 0x5, 0x3, 0x3, 0x3, 0x81, 0x3, 0x3, 0x5, 0x5, 0x3, 0x3, 0x3, 0x3, 0x83]
/-- The reset configuration of the Gloesk sources 0-511 (R360, R361, R362, R378). -/
def gloeskSources : List Nat := gloeskSources0 ++ gloeskSources1 ++ gloeskSources2 ++ gloeskSources3 ++ gloeskSources4 ++ gloeskSources5 ++ gloeskSources6 ++ gloeskSources7 ++ gloeskSources8 ++ gloeskSources9 ++ gloeskSources10 ++ gloeskSources11 ++ gloeskSources12

def stanakSources0 : List Nat := [0x3, 0x3, 0x3, 0x5, 0x3, 0x3, 0x3, 0x5, 0x5, 0x5, 0x5, 0x3, 0x3, 0x3, 0x3]
/-- The reset configuration of the Stanak sources (R361, R379). -/
def stanakSources : List Nat := stanakSources0

def ihloonSources0 : List Nat := [0x1, 0x1, 0x1, 0x1, 0x1, 0x1, 0x1, 0x1, 0x3, 0x1, 0x5, 0x3, 0x5, 0x3, 0x3, 0x3, 0x1, 0x3, 0x3, 0x5, 0x5, 0x3, 0x3, 0x3, 0x3, 0x3]
/-- The reset configuration of the Ihloon sources (R362, R379). -/
def ihloonSources : List Nat := ihloonSources0

def PTP_CTRL : Reg := ⟨.gloesk, 0x50000, 0, 1, 0x0, []⟩
def PTP_STATUS : Reg := ⟨.gloesk, 0x50004, 0, 1, 0x70, []⟩
def PTP_TIME0 : Reg := ⟨.gloesk, 0x50010, 0, 1, 0x0, []⟩
def PTP_TIME1 : Reg := ⟨.gloesk, 0x50014, 0, 1, 0x0, []⟩
def PTP_TIME2 : Reg := ⟨.gloesk, 0x50018, 0, 1, 0x0, []⟩
def PTP_TIME3 : Reg := ⟨.gloesk, 0x5001C, 0, 1, 0x0, []⟩
def PTP_PERIOD : Reg := ⟨.gloesk, 0x50020, 0, 1, 0x3E8, []⟩
def PTP_STROKE0 : Reg := ⟨.gloesk, 0x50024, 0, 1, 0x0, []⟩
def PTP_STROKE1 : Reg := ⟨.gloesk, 0x50028, 0, 1, 0x0, []⟩
def PTP_RATE : Reg := ⟨.gloesk, 0x50030, 0, 1, 0x0, []⟩
def PTP_OFFSET : Reg := ⟨.gloesk, 0x50034, 0, 1, 0x0, []⟩
def PTP_SERVO : Reg := ⟨.gloesk, 0x50038, 0, 1, 0x64640603, []⟩
def PTP_GMWIN : Reg := ⟨.gloesk, 0x5003C, 0, 1, 0x1903001E, []⟩
def PTP_HOLDSPEC : Reg := ⟨.gloesk, 0x50040, 0, 1, 0xB4, []⟩
def PTP_TWIN : Reg := ⟨.gloesk, 0x50044, 0, 1, 0x0, []⟩
def PTP_DISC : Reg := ⟨.gloesk, 0x50048, 0, 1, 0x43, []⟩
def PTP_ERRCNT : Reg := ⟨.gloesk, 0x5004C, 0, 1, 0x0, []⟩
def PTP_UTC : Reg := ⟨.gloesk, 0x50050, 0, 1, 0x0, []⟩
def PTP_P_CFG : Reg := ⟨.gloesk, 0x50100, 32, 4, 0x10018, []⟩
def PTP_P_ICORR : Reg := ⟨.gloesk, 0x50104, 32, 4, 0x0, []⟩
def PTP_P_ECORR : Reg := ⟨.gloesk, 0x50108, 32, 4, 0x0, []⟩
def PTP_P_PDELAY : Reg := ⟨.gloesk, 0x5010C, 32, 4, 0x0, []⟩
def PTP_P_STATE : Reg := ⟨.gloesk, 0x50110, 32, 4, 0x3, []⟩
def RUL_CTRL : Reg := ⟨.gloesk, 0x60000, 0, 1, 0x0, []⟩
def RUL_STATUS : Reg := ⟨.gloesk, 0x60004, 0, 1, 0x0, []⟩
def RUL_SW_STROKE0 : Reg := ⟨.gloesk, 0x60008, 0, 1, 0x0, []⟩
def RUL_SW_STROKE1 : Reg := ⟨.gloesk, 0x6000C, 0, 1, 0x0, []⟩
def RUL_ANGLE : Reg := ⟨.gloesk, 0x60010, 0, 1, 0x0, []⟩
def RUL_FRAC : Reg := ⟨.gloesk, 0x60014, 0, 1, 0x0, []⟩
def RUL_VEL : Reg := ⟨.gloesk, 0x60018, 0, 1, 0x0, []⟩
def RUL_HOSTV : Reg := ⟨.gloesk, 0x6001C, 0, 1, 0x0, []⟩
def RUL_VMIN : Reg := ⟨.gloesk, 0x60020, 0, 1, 0x80000000, []⟩
def RUL_VMAX : Reg := ⟨.gloesk, 0x60024, 0, 1, 0x7FFFFFFF, []⟩
def RUL_NUDGE : Reg := ⟨.gloesk, 0x60028, 0, 1, 0x1000000, []⟩
def RUL_GRIDV : Reg := ⟨.gloesk, 0x6002C, 0, 1, 0x0, []⟩
def RUL_ERRCNT : Reg := ⟨.gloesk, 0x60030, 0, 1, 0x0, []⟩
def RUL_GEAR_CFG : Reg := ⟨.gloesk, 0x60040, 0, 1, 0x23, []⟩
def RUL_GEAR_NUM : Reg := ⟨.gloesk, 0x60044, 0, 1, 0x1, []⟩
def RUL_GEAR_DEN : Reg := ⟨.gloesk, 0x60048, 0, 1, 0x1, []⟩
def RUL_GEAR_OFS : Reg := ⟨.gloesk, 0x6004C, 0, 1, 0x0, []⟩
def RUL_GEAR_ANUM : Reg := ⟨.gloesk, 0x60050, 0, 1, 0x1, []⟩
def RUL_GEAR_ADEN : Reg := ⟨.gloesk, 0x60054, 0, 1, 0x1, []⟩
def RUL_GEAR_APOS : Reg := ⟨.gloesk, 0x60058, 0, 1, 0x0, []⟩
def RUL_GEAR_ARM : Reg := ⟨.gloesk, 0x6005C, 0, 1, 0x0, []⟩
def RUL_GEAR_TERR : Reg := ⟨.gloesk, 0x60060, 0, 1, 0x0, []⟩
def RUL_ENC_CFG : Reg := ⟨.gloesk, 0x60080, 32, 2, 0x400, []⟩
def RUL_ENC_POS : Reg := ⟨.gloesk, 0x60084, 32, 2, 0x0, []⟩
def RUL_ENC_RAW : Reg := ⟨.gloesk, 0x60088, 32, 2, 0x0, []⟩
def RUL_ENC_IDXPOS : Reg := ⟨.gloesk, 0x6008C, 32, 2, 0x0, []⟩
def RUL_ENC_STAT : Reg := ⟨.gloesk, 0x60090, 32, 2, 0x0, []⟩
def RUL_ENC_ERRCNT : Reg := ⟨.gloesk, 0x60094, 32, 2, 0x0, []⟩
def RUL_SEG_CTRL : Reg := ⟨.gloesk, 0x60100, 0, 1, 0x0, []⟩
def RUL_SEG_START0 : Reg := ⟨.gloesk, 0x60104, 0, 1, 0x0, []⟩
def RUL_SEG_START1 : Reg := ⟨.gloesk, 0x60108, 0, 1, 0x0, []⟩
def RUL_CMP_CFG : Reg := ⟨.gloesk, 0x60200, 16, 16, 0x0, []⟩
def RUL_CMP_VAL : Reg := ⟨.gloesk, 0x60204, 16, 16, 0x0, []⟩
def RUL_CMP_SPACE : Reg := ⟨.gloesk, 0x60208, 16, 16, 0x1, []⟩
def RUL_CMP_IDX : Reg := ⟨.gloesk, 0x6020C, 16, 16, 0x0, []⟩
def SVI_CTRL : Reg := ⟨.gloesk, 0x70000, 0, 1, 0x200, []⟩
def SVI_STATUS : Reg := ⟨.gloesk, 0x70004, 0, 1, 0x0, []⟩
def SVI_PAIR : Reg := ⟨.gloesk, 0x70008, 0, 1, 0x142800, []⟩
def SVI_CUTOFF : Reg := ⟨.gloesk, 0x7000C, 0, 1, 0x190, []⟩
def SVI_SKEW : Reg := ⟨.gloesk, 0x70010, 0, 1, 0x14, []⟩
def SVI_P_RX : Reg := ⟨.gloesk, 0x70040, 16, 4, 0x0, []⟩
def SVI_P_DUP : Reg := ⟨.gloesk, 0x70044, 16, 4, 0x0, []⟩
def SVI_P_DROP : Reg := ⟨.gloesk, 0x70048, 16, 4, 0x0, []⟩
def SVI_P_TAGF : Reg := ⟨.gloesk, 0x7004C, 16, 4, 0x0, []⟩
def SVI_AGREE0 : Reg := ⟨.gloesk, 0x70080, 0, 1, 0x0, []⟩
def SVI_AGREE1 : Reg := ⟨.gloesk, 0x70084, 0, 1, 0x0, []⟩
def SVI_DDTAB : Reg := ⟨.gloesk, 0x70088, 0, 1, 0x0, []⟩
def SVI_SUB_CFG : Reg := ⟨.gloesk, 0x71000, 32, 256, 0xF40800, []⟩
def SVI_SUB_ID : Reg := ⟨.gloesk, 0x71004, 32, 256, 0x4000, []⟩
def SVI_SUB_SVID_CRC : Reg := ⟨.gloesk, 0x71008, 32, 256, 0x0, []⟩
def SVI_SUB_CONFREV : Reg := ⟨.gloesk, 0x7100C, 32, 256, 0x0, []⟩
def SVI_SUB_LAT : Reg := ⟨.gloesk, 0x71010, 32, 256, 0x3E8, []⟩
def SVI_SUB_STAT : Reg := ⟨.gloesk, 0x71014, 32, 256, 0x0, []⟩
def SVI_SUB_NEWEST : Reg := ⟨.gloesk, 0x71018, 32, 256, 0x0, []⟩
def SVI_SUB_CNT : Reg := ⟨.gloesk, 0x7101C, 32, 256, 0x0, []⟩
def SVI_GS_CFG : Reg := ⟨.gloesk, 0x73000, 32, 128, 0xF000, []⟩
def SVI_GS_APPID : Reg := ⟨.gloesk, 0x73004, 32, 128, 0x0, []⟩
def SVI_GS_REF_CRC : Reg := ⟨.gloesk, 0x73008, 32, 128, 0x0, []⟩
def SVI_GS_DS_CRC : Reg := ⟨.gloesk, 0x7300C, 32, 128, 0x0, []⟩
def SVI_GS_CONFREV : Reg := ⟨.gloesk, 0x73010, 32, 128, 0x0, []⟩
def SVI_GS_STAT : Reg := ⟨.gloesk, 0x73014, 32, 128, 0x0, []⟩
def SVI_GS_STNUM : Reg := ⟨.gloesk, 0x73018, 32, 128, 0x0, []⟩
def SVI_GS_CNT : Reg := ⟨.gloesk, 0x7301C, 32, 128, 0x0, []⟩
def SVI_GP_CFG : Reg := ⟨.gloesk, 0x74000, 32, 32, 0x3E800F0, []⟩
def SVI_GP_TIM : Reg := ⟨.gloesk, 0x74004, 32, 32, 0x201, []⟩
def SVI_GP_TMPL : Reg := ⟨.gloesk, 0x74008, 32, 32, 0x0, []⟩
def SVI_GP_STNUM : Reg := ⟨.gloesk, 0x7400C, 32, 32, 0x0, []⟩
def SVI_GP_SQNUM : Reg := ⟨.gloesk, 0x74010, 32, 32, 0x0, []⟩
def SVI_GP_TRIG : Reg := ⟨.gloesk, 0x74014, 32, 32, 0x0, []⟩
def SVI_GP_TXCNT : Reg := ⟨.gloesk, 0x7401C, 32, 32, 0x0, []⟩
def LPE_CTRL : Reg := ⟨.gloesk, 0x80000, 0, 1, 0x0, []⟩
def LPE_STATUS : Reg := ⟨.gloesk, 0x80004, 0, 1, 0x0, []⟩
def LPE_WIN : Reg := ⟨.gloesk, 0x80008, 0, 1, 0x0, []⟩
def LPE_SW_STROKE0 : Reg := ⟨.gloesk, 0x80010, 0, 1, 0x0, []⟩
def LPE_SW_STROKE1 : Reg := ⟨.gloesk, 0x80014, 0, 1, 0x0, []⟩
def LPE_OPCMD : Reg := ⟨.gloesk, 0x80018, 0, 1, 0x0, []⟩
def LPE_CWIDX : Reg := ⟨.gloesk, 0x8001C, 0, 1, 0x0, []⟩
def LPE_CWVAL : Reg := ⟨.gloesk, 0x80020, 0, 1, 0x0, []⟩
def LPE_QCNT : Reg := ⟨.gloesk, 0x80024, 0, 1, 0x0, []⟩
def LPE_SATMAP0 : Reg := ⟨.gloesk, 0x80030, 0, 1, 0x0, []⟩
def LPE_SATMAP1 : Reg := ⟨.gloesk, 0x80034, 0, 1, 0x0, []⟩
def LPE_OSAT0 : Reg := ⟨.gloesk, 0x80038, 0, 1, 0x0, []⟩
def LPE_OSAT1 : Reg := ⟨.gloesk, 0x8003C, 0, 1, 0x0, []⟩
def LPE_OPEN0 : Reg := ⟨.gloesk, 0x80040, 0, 1, 0x0, []⟩
def LPE_OPEN1 : Reg := ⟨.gloesk, 0x80044, 0, 1, 0x0, []⟩
def LPE_ACTIVE0 : Reg := ⟨.gloesk, 0x80048, 0, 1, 0x0, []⟩
def LPE_ACTIVE1 : Reg := ⟨.gloesk, 0x8004C, 0, 1, 0x0, []⟩
def LPE_CREJCNT : Reg := ⟨.gloesk, 0x80050, 0, 1, 0x0, []⟩
def LPE_ERRCNT : Reg := ⟨.gloesk, 0x80054, 0, 1, 0x0, []⟩
def LPE_XADDR : Reg := ⟨.gloesk, 0x80060, 0, 1, 0x0, []⟩
def LPE_XDATA0 : Reg := ⟨.gloesk, 0x80064, 0, 1, 0x0, []⟩
def LPE_XDATA1 : Reg := ⟨.gloesk, 0x80068, 0, 1, 0x0, []⟩
def LPE_PARAM : Reg := ⟨.gloesk, 0x80100, 4, 64, 0x0, []⟩
def LPE_QRES : Reg := ⟨.gloesk, 0x80200, 4, 32, 0x0, []⟩
def LPE_AREF : Reg := ⟨.gloesk, 0x80280, 4, 12, 0x0, []⟩
def LPE_SLOT_CFG0 : Reg := ⟨.gloesk, 0x81000, 32, 64, 0x0, []⟩
def LPE_SLOT_CFG1 : Reg := ⟨.gloesk, 0x81004, 32, 64, 0x0, []⟩
def LPE_SLOT_CFG2 : Reg := ⟨.gloesk, 0x81008, 32, 64, 0x0, []⟩
def LPE_SLOT_YMIN : Reg := ⟨.gloesk, 0x8100C, 32, 64, 0x80000000, []⟩
def LPE_SLOT_YMAX : Reg := ⟨.gloesk, 0x81010, 32, 64, 0x7FFFFFFF, []⟩
def LPE_SLOT_PRESET : Reg := ⟨.gloesk, 0x81014, 32, 64, 0x0, []⟩
def LPE_SLOT_COEF : Reg := ⟨.gloesk, 0x81018, 32, 64, 0x0, []⟩
def LPE_SLOT_STAT : Reg := ⟨.gloesk, 0x8101C, 32, 64, 0x0, []⟩
def LPE_GRP_CFG : Reg := ⟨.gloesk, 0x82000, 16, 16, 0x0, []⟩
def LPE_GRP_MASK0 : Reg := ⟨.gloesk, 0x82004, 16, 16, 0x0, []⟩
def LPE_GRP_MASK1 : Reg := ⟨.gloesk, 0x82008, 16, 16, 0x0, []⟩
def LPE_GRP_STAT : Reg := ⟨.gloesk, 0x8200C, 16, 16, 0x0, []⟩
def LPE_IMAP : Reg := ⟨.gloesk, 0x84000, 4, 1024, 0x0, []⟩
def FLR_CTRL : Reg := ⟨.gloesk, 0x88000, 0, 1, 0x0, []⟩
def FLR_STATUS : Reg := ⟨.gloesk, 0x88004, 0, 1, 0x0, []⟩
def FLR_ERRCNT : Reg := ⟨.gloesk, 0x88008, 0, 1, 0x0, []⟩
def FLR_FROZEN0 : Reg := ⟨.gloesk, 0x88010, 0, 1, 0x0, []⟩
def FLR_FROZEN1 : Reg := ⟨.gloesk, 0x88014, 0, 1, 0x0, []⟩
def FLR_T_CFG : Reg := ⟨.gloesk, 0x89000, 64, 64, 0x400000, []⟩
def FLR_T_GAIN : Reg := ⟨.gloesk, 0x89004, 64, 64, 0x0, []⟩
def FLR_T_FORGET : Reg := ⟨.gloesk, 0x89008, 64, 64, 0x10000, []⟩
def FLR_T_LEAD : Reg := ⟨.gloesk, 0x8900C, 64, 64, 0xA0000, []⟩
def FLR_T_FMIN : Reg := ⟨.gloesk, 0x89010, 64, 64, 0x80000000, []⟩
def FLR_T_FMAX : Reg := ⟨.gloesk, 0x89014, 64, 64, 0x7FFFFFFF, []⟩
def FLR_T_BASE : Reg := ⟨.gloesk, 0x89018, 64, 64, 0x0, []⟩
def FLR_T_STAT : Reg := ⟨.gloesk, 0x8901C, 64, 64, 0x0, []⟩
def FLR_T_CNT0 : Reg := ⟨.gloesk, 0x89020, 64, 64, 0x0, []⟩
def FLR_T_CNT1 : Reg := ⟨.gloesk, 0x89024, 64, 64, 0x0, []⟩
def FLR_TAP_CFG : Reg := ⟨.gloesk, 0x8A000, 32, 64, 0x0, []⟩
def FLR_TAP_BASE : Reg := ⟨.gloesk, 0x8A004, 32, 64, 0x0, []⟩
def FLR_TAP_SIZE : Reg := ⟨.gloesk, 0x8A008, 32, 64, 0x0, []⟩
def FLR_TAP_POST : Reg := ⟨.gloesk, 0x8A00C, 32, 64, 0x0, []⟩
def FLR_TAP_WPTR : Reg := ⟨.gloesk, 0x8A010, 32, 64, 0x0, []⟩
def FLR_TAP_STAT : Reg := ⟨.gloesk, 0x8A014, 32, 64, 0x0, []⟩
def FLR_TAP_CTRL : Reg := ⟨.gloesk, 0x8A018, 32, 64, 0x0, []⟩
def RNK_CTRL : Reg := ⟨.gloesk, 0x90000, 0, 1, 0x40, []⟩
def RNK_STATUS : Reg := ⟨.gloesk, 0x90004, 0, 1, 0x0, []⟩
def RNK_ERRCNT : Reg := ⟨.gloesk, 0x90008, 0, 1, 0x0, []⟩
def RNK_SW_STROKE0 : Reg := ⟨.gloesk, 0x90010, 0, 1, 0x0, []⟩
def RNK_SW_STROKE1 : Reg := ⟨.gloesk, 0x90014, 0, 1, 0x0, []⟩
def RNK_HOCMD : Reg := ⟨.gloesk, 0x90018, 0, 1, 0x0, []⟩
def RNK_QCNT : Reg := ⟨.gloesk, 0x9001C, 0, 1, 0x0, []⟩
def RNK_BLK : Reg := ⟨.gloesk, 0x90020, 0, 1, 0xFFF, []⟩
def RNK_CXADDR : Reg := ⟨.gloesk, 0x90030, 0, 1, 0x0, []⟩
def RNK_CXDATA0 : Reg := ⟨.gloesk, 0x90034, 0, 1, 0x4000, []⟩
def RNK_CXDATA1 : Reg := ⟨.gloesk, 0x90038, 0, 1, 0x0, []⟩
def RNK_ARM_CFG : Reg := ⟨.gloesk, 0x90100, 64, 12, 0x0, []⟩
def RNK_ARM_CAP : Reg := ⟨.gloesk, 0x90104, 64, 12, 0x0, []⟩
def RNK_ARM_RED : Reg := ⟨.gloesk, 0x90108, 64, 12, 0x400000, []⟩
def RNK_ARM_VNOM : Reg := ⟨.gloesk, 0x9010C, 64, 12, 0x0, []⟩
def RNK_ARM_TMIN : Reg := ⟨.gloesk, 0x90110, 64, 12, 0x28, []⟩
def RNK_ARM_ISRC : Reg := ⟨.gloesk, 0x90114, 64, 12, 0xA0000, []⟩
def RNK_ARM_TJ0 : Reg := ⟨.gloesk, 0x90118, 64, 12, 0x0, []⟩
def RNK_ARM_TJ1 : Reg := ⟨.gloesk, 0x9011C, 64, 12, 0x0, []⟩
def RNK_ARM_WGT : Reg := ⟨.gloesk, 0x90120, 64, 12, 0x0, []⟩
def RNK_ARM_HYST : Reg := ⟨.gloesk, 0x90124, 64, 12, 0x40100000, []⟩
def RNK_ARM_CTRL : Reg := ⟨.gloesk, 0x90128, 64, 12, 0x1, []⟩
def RNK_ARM_STAT : Reg := ⟨.gloesk, 0x9012C, 64, 12, 0x80, []⟩
def RNK_ARM_CNT : Reg := ⟨.gloesk, 0x90130, 64, 12, 0x0, []⟩
def RNK_ARM_LEVEL : Reg := ⟨.gloesk, 0x90134, 64, 12, 0x0, []⟩
def RNK_ARM_RES : Reg := ⟨.gloesk, 0x90138, 64, 12, 0x0, []⟩
def RNK_ARM_EDGE : Reg := ⟨.gloesk, 0x9013C, 64, 12, 0x0, []⟩
def STK_CTRL : Reg := ⟨.gloesk, 0xA0000, 0, 1, 0x30, []⟩
def STK_STATUS : Reg := ⟨.gloesk, 0xA0004, 0, 1, 0x0, []⟩
def STK_WOFS : Reg := ⟨.gloesk, 0xA0008, 0, 1, 0x2BC, []⟩
def STK_SW_STROKE0 : Reg := ⟨.gloesk, 0xA0010, 0, 1, 0x0, []⟩
def STK_SW_STROKE1 : Reg := ⟨.gloesk, 0xA0014, 0, 1, 0x0, []⟩
def STK_ERRCNT : Reg := ⟨.gloesk, 0xA0020, 0, 1, 0x0, []⟩
def STK_SDROP0 : Reg := ⟨.gloesk, 0xA0024, 0, 1, 0x0, []⟩
def STK_SDROP1 : Reg := ⟨.gloesk, 0xA0028, 0, 1, 0x0, []⟩
def STK_DBASE : Reg := ⟨.gloesk, 0xA0030, 0, 1, 0x0, []⟩
def STK_FIBRE : Reg := ⟨.gloesk, 0xA0034, 0, 1, 0x64, []⟩
def STK_CHAIN : Reg := ⟨.gloesk, 0xA0038, 0, 1, 0x0, []⟩
def HUB_ID : Reg := ⟨.stanak, 0x0, 0, 1, 0xA24192, []⟩
def HUB_FCTRL : Reg := ⟨.stanak, 0x1000, 0, 1, 0x0, []⟩
def HUB_RWIN : Reg := ⟨.stanak, 0x1004, 0, 1, 0x2BC, []⟩
def HUB_WWIN : Reg := ⟨.stanak, 0x1008, 0, 1, 0xC80118, []⟩
def HUB_SLOT0 : Reg := ⟨.stanak, 0x1010, 0, 1, 0x0, []⟩
def HUB_SLOT1 : Reg := ⟨.stanak, 0x1014, 0, 1, 0x0, []⟩
def HUB_SLOT2 : Reg := ⟨.stanak, 0x1018, 0, 1, 0x0, []⟩
def HUB_SLOT3 : Reg := ⟨.stanak, 0x101C, 0, 1, 0x0, []⟩
def HUB_SLOT4 : Reg := ⟨.stanak, 0x1020, 0, 1, 0x0, []⟩
def HUB_SLOT5 : Reg := ⟨.stanak, 0x1024, 0, 1, 0x0, []⟩
def HUB_STAT : Reg := ⟨.stanak, 0x1030, 0, 1, 0x0, []⟩
def HUB_ERRCNT0 : Reg := ⟨.stanak, 0x1034, 0, 1, 0x0, []⟩
def HUB_ERRCNT1 : Reg := ⟨.stanak, 0x1038, 0, 1, 0x0, []⟩
def HUB_PERR : Reg := ⟨.stanak, 0x1100, 4, 192, 0x0, []⟩
def LNK_ID : Reg := ⟨.ihloon, 0x1000, 0, 1, 0xA11400, []⟩
def LNK_CMD : Reg := ⟨.ihloon, 0x1004, 0, 1, 0x8, []⟩
def LNK_ACC : Reg := ⟨.ihloon, 0x1008, 0, 1, 0x0, []⟩
def LNK_HSTAT : Reg := ⟨.ihloon, 0x100C, 0, 1, 0x0, []⟩
def LNK_CNT0 : Reg := ⟨.ihloon, 0x1010, 0, 1, 0x0, []⟩
def LNK_CNT1 : Reg := ⟨.ihloon, 0x1014, 0, 1, 0x0, []⟩
def LNK_CNT2 : Reg := ⟨.ihloon, 0x1018, 0, 1, 0x0, []⟩
def NIB_CTRL : Reg := ⟨.ihloon, 0x3000, 0, 1, 0x0, []⟩
def NIB_STAT : Reg := ⟨.ihloon, 0x3004, 0, 1, 0x3, []⟩
def NIB_DT : Reg := ⟨.ihloon, 0x3008, 0, 1, 0x190, []⟩
def NIB_MINP : Reg := ⟨.ihloon, 0x300C, 0, 1, 0x190, []⟩
def NIB_CNT0 : Reg := ⟨.ihloon, 0x3010, 0, 1, 0x0, []⟩
def NIB_CNT1 : Reg := ⟨.ihloon, 0x3014, 0, 1, 0x0, []⟩
def NIB_LAST : Reg := ⟨.ihloon, 0x3018, 0, 1, 0x0, []⟩
def NIB_AUX : Reg := ⟨.ihloon, 0x301C, 0, 1, 0x0, []⟩
def NIB_TMR_CFG : Reg := ⟨.ihloon, 0x3040, 16, 4, 0x0, []⟩
def NIB_TMR_LEN : Reg := ⟨.ihloon, 0x3044, 16, 4, 0x0, []⟩
def NIB_TMR_STAT : Reg := ⟨.ihloon, 0x3048, 16, 4, 0x0, []⟩
def PRT_CFG : Reg := ⟨.ihloon, 0x4000, 0, 1, 0x0, []⟩
def PRT_STAT : Reg := ⟨.ihloon, 0x4004, 0, 1, 0x0, []⟩
def PRT_TRIP : Reg := ⟨.ihloon, 0x4010, 4, 4, 0x25, []⟩
def PRT_TTS : Reg := ⟨.ihloon, 0x4020, 4, 4, 0x0, []⟩
def PRT_OVP : Reg := ⟨.ihloon, 0x4030, 0, 1, 0x14FF, []⟩
def PRT_SIL : Reg := ⟨.ihloon, 0x4034, 0, 1, 0xC, []⟩
def PRT_BYP : Reg := ⟨.ihloon, 0x4038, 0, 1, 0x64, []⟩
def PRT_ERRCNT : Reg := ⟨.ihloon, 0x403C, 0, 1, 0x0, []⟩
def PRT_CNT : Reg := ⟨.ihloon, 0x4040, 0, 1, 0x0, []⟩
def AQ_CTRL : Reg := ⟨.gloesk, 0xF0000, 0, 1, 0x0, []⟩
def CAQ_CTRL : Reg := ⟨.ihloon, 0x2000, 0, 1, 0x0, []⟩
def AQ_STAT : Reg := ⟨.gloesk, 0xF0004, 0, 1, 0x0, []⟩
def CAQ_STAT : Reg := ⟨.ihloon, 0x2004, 0, 1, 0x0, []⟩
def AQ_CFG : Reg := ⟨.gloesk, 0xF0008, 0, 1, 0xC28, []⟩
def CAQ_CFG : Reg := ⟨.ihloon, 0x2008, 0, 1, 0xC28, []⟩
def AQ_SEQCTL : Reg := ⟨.gloesk, 0xF000C, 0, 1, 0x100, []⟩
def CAQ_SEQCTL : Reg := ⟨.ihloon, 0x200C, 0, 1, 0x100, []⟩
def AQ_MAP : Reg := ⟨.gloesk, 0xF0010, 0, 1, 0x0, []⟩
def CAQ_MAP : Reg := ⟨.ihloon, 0x2010, 0, 1, 0x0, []⟩
def AQ_URG : Reg := ⟨.gloesk, 0xF0014, 0, 1, 0x0, []⟩
def AQ_TURG : Reg := ⟨.gloesk, 0xF0018, 0, 1, 0x0, []⟩
def CAQ_URG : Reg := ⟨.ihloon, 0x2014, 0, 1, 0x0, []⟩
def CAQ_TURG : Reg := ⟨.ihloon, 0x2018, 0, 1, 0x0, []⟩
def AQ_URES0 : Reg := ⟨.gloesk, 0xF001C, 0, 1, 0x0, []⟩
def AQ_URES1 : Reg := ⟨.gloesk, 0xF0020, 0, 1, 0x0, []⟩
def CAQ_URES0 : Reg := ⟨.ihloon, 0x201C, 0, 1, 0x0, []⟩
def CAQ_URES1 : Reg := ⟨.ihloon, 0x2020, 0, 1, 0x0, []⟩
def AQ_CNT : Reg := ⟨.gloesk, 0xF0024, 0, 1, 0x0, []⟩
def AQ_CNT1 : Reg := ⟨.gloesk, 0xF0028, 0, 1, 0x0, []⟩
def CAQ_CNT : Reg := ⟨.ihloon, 0x2024, 0, 1, 0x0, []⟩
def CAQ_CNT1 : Reg := ⟨.ihloon, 0x2028, 0, 1, 0x0, []⟩
def AQ_XCHK : Reg := ⟨.gloesk, 0xF0030, 0, 1, 0x0, []⟩
def AQ_XLIM : Reg := ⟨.gloesk, 0xF0034, 0, 1, 0x271007D0, []⟩
def AQ_REFCTL : Reg := ⟨.gloesk, 0xF0038, 0, 1, 0x0, []⟩
def CAQ_XCHK : Reg := ⟨.ihloon, 0x2030, 0, 1, 0x0, []⟩
def CAQ_XLIM : Reg := ⟨.ihloon, 0x2034, 0, 1, 0x271007D0, []⟩
def CAQ_REFCTL : Reg := ⟨.ihloon, 0x2038, 0, 1, 0x0, []⟩
def AQ_CAL : Reg := ⟨.gloesk, 0xF003C, 0, 1, 0x0, []⟩
def CAQ_CAL : Reg := ⟨.ihloon, 0x203C, 0, 1, 0x0, []⟩
def AQ_SEQ : Reg := ⟨.gloesk, 0xF0100, 4, 32, 0x0, []⟩
def CAQ_SEQ : Reg := ⟨.ihloon, 0x2100, 4, 32, 0x0, []⟩
def AQ_RES : Reg := ⟨.gloesk, 0xF0180, 4, 32, 0x0, []⟩
def CAQ_RES : Reg := ⟨.ihloon, 0x2180, 4, 32, 0x0, []⟩
def AQ_GCTRL : Reg := ⟨.gloesk, 0xF0200, 0, 1, 0x0, []⟩
def AQ_STATUS : Reg := ⟨.gloesk, 0xF0204, 0, 1, 0x0, []⟩
def AQ_SW_STROKE0 : Reg := ⟨.gloesk, 0xF0208, 0, 1, 0x0, []⟩
def AQ_SW_STROKE1 : Reg := ⟨.gloesk, 0xF020C, 0, 1, 0x0, []⟩
def AQ_ARBCMD : Reg := ⟨.gloesk, 0xF0210, 0, 1, 0x0, []⟩
def AQ_ARBD : Reg := ⟨.gloesk, 0xF0214, 0, 1, 0x0, []⟩
def AQ_ARB_CFG : Reg := ⟨.gloesk, 0xF0400, 32, 12, 0x0, []⟩
def AQ_ARB_KV : Reg := ⟨.gloesk, 0xF0404, 32, 12, 0x0, []⟩
def AQ_ARB_LIM : Reg := ⟨.gloesk, 0xF0408, 32, 12, 0x1A0010, []⟩
def AQ_ARB_STAT : Reg := ⟨.gloesk, 0xF040C, 32, 12, 0x0, []⟩
def AQ_ARB_N0 : Reg := ⟨.gloesk, 0xF0410, 32, 12, 0x0, []⟩
def AQ_ARB_N1 : Reg := ⟨.gloesk, 0xF0414, 32, 12, 0x0, []⟩
def AQ_ARB_U : Reg := ⟨.gloesk, 0xF0418, 32, 12, 0x0, []⟩
def AQ_ARB_CNT : Reg := ⟨.gloesk, 0xF041C, 32, 12, 0x0, []⟩
def RSV_CFG : Reg := ⟨.ihloon, 0x5000, 0, 1, 0x43, []⟩
def RSV_CAP : Reg := ⟨.ihloon, 0x5004, 0, 1, 0x3E8, []⟩
def RSV_SNS : Reg := ⟨.ihloon, 0x5008, 0, 1, 0x2EE00280, []⟩
def RSV_BYPE : Reg := ⟨.ihloon, 0x500C, 0, 1, 0x2710, []⟩
def RSV_HYST : Reg := ⟨.ihloon, 0x5010, 0, 1, 0x1388, []⟩
def RSV_THR : Reg := ⟨.ihloon, 0x5020, 4, 5, 0x2710, [0x2710, 0x4e20, 0x9c40, 0x186a0, 0x249f0]⟩
def RSV_COST : Reg := ⟨.ihloon, 0x5040, 4, 5, 0x384, [0x384, 0x96, 0x9c4, 0x64, 0xfa]⟩
def RSV_LEVEL : Reg := ⟨.ihloon, 0x5060, 0, 1, 0x0, []⟩
def RSV_NET : Reg := ⟨.ihloon, 0x5064, 0, 1, 0x0, []⟩
def RSV_STAT : Reg := ⟨.ihloon, 0x5068, 0, 1, 0x0, []⟩
def RSV_CNT : Reg := ⟨.ihloon, 0x506C, 0, 1, 0x0, []⟩
def RSV_KCTR : Reg := ⟨.ihloon, 0x5080, 0, 1, 0x0, []⟩
def RSV_KLOGP : Reg := ⟨.ihloon, 0x5084, 0, 1, 0x0, []⟩
def RSV_FWCTL : Reg := ⟨.ihloon, 0x50A0, 0, 1, 0xB00, []⟩
def RSV_FWSTAT : Reg := ⟨.ihloon, 0x50A4, 0, 1, 0x0, []⟩
def RSV_KLOG_LO : Reg := ⟨.ihloon, 0x5180, 8, 16, 0x0, []⟩
def RSV_KLOG_HI : Reg := ⟨.ihloon, 0x5184, 8, 16, 0x0, []⟩
def RSV_LFRF0 : Reg := ⟨.ihloon, 0x5100, 0, 1, 0x0, []⟩
def RSV_LFRF1 : Reg := ⟨.ihloon, 0x5104, 0, 1, 0x0, []⟩
def RSV_LFRF2 : Reg := ⟨.ihloon, 0x5108, 0, 1, 0x0, []⟩
def RSV_LFRF3 : Reg := ⟨.ihloon, 0x510C, 0, 1, 0x0, []⟩
def RSV_LFRF4 : Reg := ⟨.ihloon, 0x5110, 0, 1, 0x0, []⟩
def RSV_LFRF5 : Reg := ⟨.ihloon, 0x5114, 0, 1, 0x0, []⟩
def RSV_LFRF6 : Reg := ⟨.ihloon, 0x5118, 0, 1, 0x0, []⟩
def RSV_LFRF7 : Reg := ⟨.ihloon, 0x511C, 0, 1, 0x0, []⟩
def RSV_LFRL0 : Reg := ⟨.ihloon, 0x5120, 0, 1, 0x0, []⟩
def RSV_LFRL1 : Reg := ⟨.ihloon, 0x5124, 0, 1, 0x0, []⟩
def RSV_LFRL2 : Reg := ⟨.ihloon, 0x5128, 0, 1, 0x0, []⟩
def RSV_LFRL3 : Reg := ⟨.ihloon, 0x512C, 0, 1, 0x0, []⟩
def RSV_LFRL4 : Reg := ⟨.ihloon, 0x5130, 0, 1, 0x0, []⟩
def RSV_LFRL5 : Reg := ⟨.ihloon, 0x5134, 0, 1, 0x0, []⟩
def RSV_LFRL6 : Reg := ⟨.ihloon, 0x5138, 0, 1, 0x0, []⟩
def RSV_LFRL7 : Reg := ⟨.ihloon, 0x513C, 0, 1, 0x0, []⟩
def RSV_LFRCLR : Reg := ⟨.ihloon, 0x5140, 0, 1, 0x0, []⟩
def DUC_CTRL : Reg := ⟨.gloesk, 0x30000, 0, 1, 0x0, []⟩
def DUC_STATUS : Reg := ⟨.gloesk, 0x30004, 0, 1, 0x0, []⟩
def DUC_CTXBASE : Reg := ⟨.gloesk, 0x30008, 0, 1, 0x0, []⟩
def DUC_CORE : Reg := ⟨.gloesk, 0x30010, 0, 1, 0xFFFF, []⟩
def DUC_CORESTAT : Reg := ⟨.gloesk, 0x30014, 0, 1, 0x0, []⟩
def DUC_CORERET : Reg := ⟨.gloesk, 0x30018, 0, 1, 0x0, []⟩
def DUC_TCMD : Reg := ⟨.gloesk, 0x30020, 0, 1, 0x0, []⟩
def DUC_TCRES : Reg := ⟨.gloesk, 0x30024, 0, 1, 0x0, []⟩
def DUC_RDY : Reg := ⟨.gloesk, 0x30028, 0, 1, 0x0, []⟩
def DUC_ERRCNT : Reg := ⟨.gloesk, 0x3002C, 0, 1, 0x0, []⟩
def DUC_LOCK : Reg := ⟨.gloesk, 0x30100, 4, 64, 0x0, []⟩
def DUC_TASK_ENTRY : Reg := ⟨.gloesk, 0x31000, 64, 256, 0x0, []⟩
def DUC_TASK_CFG : Reg := ⟨.gloesk, 0x31004, 64, 256, 0x0, []⟩
def DUC_TASK_AFF : Reg := ⟨.gloesk, 0x31008, 64, 256, 0xFFFF, []⟩
def DUC_TASK_PER : Reg := ⟨.gloesk, 0x3100C, 64, 256, 0x0, []⟩
def DUC_TASK_ARG : Reg := ⟨.gloesk, 0x31010, 64, 256, 0x0, []⟩
def DUC_TASK_RGN : Reg := ⟨.gloesk, 0x31014, 64, 256, 0x0, []⟩
def DUC_TASK_LIM : Reg := ⟨.gloesk, 0x31018, 64, 256, 0x0, []⟩
def DUC_TASK_LOCKTO : Reg := ⟨.gloesk, 0x3101C, 64, 256, 0x0, []⟩
def DUC_TASK_STAT : Reg := ⟨.gloesk, 0x31020, 64, 256, 0x0, []⟩
def DUC_TASK_CNT0 : Reg := ⟨.gloesk, 0x31024, 64, 256, 0x0, []⟩
def DUC_TASK_CNT1 : Reg := ⟨.gloesk, 0x31028, 64, 256, 0x0, []⟩
def DUC_TASK_WAKE : Reg := ⟨.gloesk, 0x3102C, 64, 256, 0x0, []⟩
def INK_CTRL : Reg := ⟨.gloesk, 0x40000, 0, 1, 0x2, []⟩
def INK_STATUS : Reg := ⟨.gloesk, 0x40004, 0, 1, 0x0, []⟩
def INK_SW_STROKE0 : Reg := ⟨.gloesk, 0x40008, 0, 1, 0x0, []⟩
def INK_SW_STROKE1 : Reg := ⟨.gloesk, 0x4000C, 0, 1, 0x0, []⟩
def INK_RESIZE : Reg := ⟨.gloesk, 0x40010, 0, 1, 0x0, []⟩
def INK_QCNT : Reg := ⟨.gloesk, 0x40014, 0, 1, 0x0, []⟩
def INK_SCRUB : Reg := ⟨.gloesk, 0x40018, 0, 1, 0x10, []⟩
def INK_SPARE : Reg := ⟨.gloesk, 0x4001C, 0, 1, 0x400000, []⟩
def INK_ERRCNT : Reg := ⟨.gloesk, 0x40020, 0, 1, 0x0, []⟩
def INK_ERRCNT1 : Reg := ⟨.gloesk, 0x40024, 0, 1, 0x0, []⟩
def INK_UEADDR : Reg := ⟨.gloesk, 0x40028, 0, 1, 0x0, []⟩
def INK_UEINFO : Reg := ⟨.gloesk, 0x4002C, 0, 1, 0x0, []⟩
def INK_WALKADDR : Reg := ⟨.gloesk, 0x40030, 0, 1, 0x0, []⟩
def INK_WALKINFO : Reg := ⟨.gloesk, 0x40034, 0, 1, 0x0, []⟩
def INK_RINV : Reg := ⟨.gloesk, 0x40038, 0, 1, 0x0, []⟩
def INK_CLS : Reg := ⟨.gloesk, 0x40080, 4, 7, 0x18, [0x18, 0x1c, 0x1, 0x6, 0x4, 0x1, 0x0]⟩
def INK_BANK : Reg := ⟨.gloesk, 0x40100, 4, 64, 0x0, []⟩
def INK_PART_BASE : Reg := ⟨.gloesk, 0x40200, 16, 16, 0x0, []⟩
def INK_PART_SIZE : Reg := ⟨.gloesk, 0x40204, 16, 16, 0x0, []⟩
def INK_PART_MIN : Reg := ⟨.gloesk, 0x40208, 16, 16, 0x0, []⟩
def INK_PART_STAT : Reg := ⟨.gloesk, 0x4020C, 16, 16, 0x0, []⟩
def TWN_CTRL : Reg := ⟨.gloesk, 0xB0000, 0, 1, 0x70, []⟩
def TWN_STATUS : Reg := ⟨.gloesk, 0xB0004, 0, 1, 0x3, []⟩
def TWN_CLAIM : Reg := ⟨.gloesk, 0xB0008, 0, 1, 0x0, []⟩
def TWN_PEER : Reg := ⟨.gloesk, 0xB000C, 0, 1, 0x0, []⟩
def TWN_CFG : Reg := ⟨.gloesk, 0xB0010, 0, 1, 0x24100203, []⟩
def TWN_CFG1 : Reg := ⟨.gloesk, 0xB0014, 0, 1, 0x640400, []⟩
def TWN_REVN : Reg := ⟨.gloesk, 0xB0018, 0, 1, 0xF4240, []⟩
def TWN_DRILL : Reg := ⟨.gloesk, 0xB001C, 0, 1, 0x18, []⟩
def TWN_SW_STROKE0 : Reg := ⟨.gloesk, 0xB0020, 0, 1, 0x0, []⟩
def TWN_SW_STROKE1 : Reg := ⟨.gloesk, 0xB0024, 0, 1, 0x0, []⟩
def TWN_BUNDLE : Reg := ⟨.gloesk, 0xB0028, 0, 1, 0x0, []⟩
def TWN_DIGCNT : Reg := ⟨.gloesk, 0xB002C, 0, 1, 0x0, []⟩
def TWN_ERRCNT : Reg := ⟨.gloesk, 0xB0030, 0, 1, 0x0, []⟩
def TWN_HOCNT : Reg := ⟨.gloesk, 0xB0034, 0, 1, 0x0, []⟩
def TWN_JOIN : Reg := ⟨.gloesk, 0xB0038, 0, 1, 0x0, []⟩
def TWN_ISMASK : Reg := ⟨.gloesk, 0xB003C, 0, 1, 0x0, []⟩
def TWN_LATHUB0 : Reg := ⟨.gloesk, 0xB0040, 0, 1, 0x0, []⟩
def TWN_LATHUB1 : Reg := ⟨.gloesk, 0xB0044, 0, 1, 0x0, []⟩
def TWN_PATH0 : Reg := ⟨.gloesk, 0xB0048, 0, 1, 0x0, []⟩
def TWN_PATH1 : Reg := ⟨.gloesk, 0xB004C, 0, 1, 0x0, []⟩
def BLT_CTRL : Reg := ⟨.gloesk, 0x20000, 0, 1, 0x0, []⟩
def BLT_STATUS : Reg := ⟨.gloesk, 0x20004, 0, 1, 0x0, []⟩
def BLT_ERRCNT : Reg := ⟨.gloesk, 0x20008, 0, 1, 0x0, []⟩
def BLT_SW_STROKE0 : Reg := ⟨.gloesk, 0x20010, 0, 1, 0x0, []⟩
def BLT_SW_STROKE1 : Reg := ⟨.gloesk, 0x20014, 0, 1, 0x0, []⟩
def BLT_REL : Reg := ⟨.gloesk, 0x20018, 0, 1, 0x0, []⟩
def BLT_CREL : Reg := ⟨.gloesk, 0x2001C, 0, 1, 0x0, []⟩
def BLT_QCNT : Reg := ⟨.gloesk, 0x20020, 0, 1, 0x0, []⟩
def BLT_SUM : Reg := ⟨.gloesk, 0x20040, 4, 16, 0x0, []⟩
def BLT_ALERT : Reg := ⟨.gloesk, 0x20080, 4, 4, 0x200, []⟩
def BLT_LOGCTL : Reg := ⟨.gloesk, 0x200A0, 0, 1, 0x0, []⟩
def BLT_LOG0 : Reg := ⟨.gloesk, 0x200A4, 0, 1, 0x0, []⟩
def BLT_LOG1 : Reg := ⟨.gloesk, 0x200A8, 0, 1, 0x0, []⟩
def BLT_LOG2 : Reg := ⟨.gloesk, 0x200AC, 0, 1, 0x0, []⟩
def BLT_LOG3 : Reg := ⟨.gloesk, 0x200B0, 0, 1, 0x0, []⟩
def BLT_CBADDR : Reg := ⟨.gloesk, 0x200C0, 0, 1, 0x0, []⟩
def BLT_CBDATA : Reg := ⟨.gloesk, 0x200C4, 0, 1, 0x0, []⟩
def BLT_SRC_CFG : Reg := ⟨.gloesk, 0x21000, 32, 512, 0x0, gloeskSources⟩
def BLT_SRC_CTRL : Reg := ⟨.gloesk, 0x21004, 32, 512, 0x0, []⟩
def BLT_SRC_STAT : Reg := ⟨.gloesk, 0x21008, 32, 512, 0x0, []⟩
def BLT_SRC_COUNT : Reg := ⟨.gloesk, 0x2100C, 32, 512, 0x0, []⟩
def BLT_SRC_FIRST0 : Reg := ⟨.gloesk, 0x21010, 32, 512, 0x0, []⟩
def BLT_SRC_FIRST1 : Reg := ⟨.gloesk, 0x21014, 32, 512, 0x0, []⟩
def BLT_SRC_LAST0 : Reg := ⟨.gloesk, 0x21018, 32, 512, 0x0, []⟩
def BLT_SRC_LAST1 : Reg := ⟨.gloesk, 0x2101C, 32, 512, 0x0, []⟩
def CBLT_CHGP0 : Reg := ⟨.ihloon, 0x7000, 0, 1, 0x0, []⟩
def CBLT_CHGP1 : Reg := ⟨.ihloon, 0x7004, 0, 1, 0x0, []⟩
def CBLT_CHGQ0 : Reg := ⟨.ihloon, 0x7008, 0, 1, 0x0, []⟩
def CBLT_CHGQ1 : Reg := ⟨.ihloon, 0x700C, 0, 1, 0x0, []⟩
def HBLT_CHGP0 : Reg := ⟨.stanak, 0x2000, 0, 1, 0x0, []⟩
def HBLT_CHGP1 : Reg := ⟨.stanak, 0x2004, 0, 1, 0x0, []⟩
def HBLT_CHGQ0 : Reg := ⟨.stanak, 0x2008, 0, 1, 0x0, []⟩
def HBLT_CHGQ1 : Reg := ⟨.stanak, 0x200C, 0, 1, 0x0, []⟩
def CBLT_EVCNT : Reg := ⟨.ihloon, 0x7010, 0, 1, 0x0, []⟩
def HBLT_EVCNT : Reg := ⟨.stanak, 0x2010, 0, 1, 0x0, []⟩
def CBLT_SRC_CFG : Reg := ⟨.ihloon, 0x7100, 16, 64, 0x0, ihloonSources⟩
def CBLT_SRC_STAT : Reg := ⟨.ihloon, 0x7104, 16, 64, 0x0, []⟩
def CBLT_SRC_FIRST : Reg := ⟨.ihloon, 0x7108, 16, 64, 0x0, []⟩
def CBLT_SRC_LAST : Reg := ⟨.ihloon, 0x710C, 16, 64, 0x0, []⟩
def HBLT_SRC_CFG : Reg := ⟨.stanak, 0x2100, 16, 128, 0x0, stanakSources⟩
def HBLT_SRC_STAT : Reg := ⟨.stanak, 0x2104, 16, 128, 0x0, []⟩
def HBLT_SRC_FIRST : Reg := ⟨.stanak, 0x2108, 16, 128, 0x0, []⟩
def HBLT_SRC_LAST : Reg := ⟨.stanak, 0x210C, 16, 128, 0x0, []⟩
def FOL_CTRL : Reg := ⟨.gloesk, 0xC0000, 0, 1, 0x0, []⟩
def FOL_STATUS : Reg := ⟨.gloesk, 0xC0004, 0, 1, 0x0, []⟩
def FOL_BUDGET : Reg := ⟨.gloesk, 0xC0008, 0, 1, 0x0, []⟩
def FOL_ERRCNT : Reg := ⟨.gloesk, 0xC0010, 0, 1, 0x0, []⟩
def FOL_TRIGIN : Reg := ⟨.gloesk, 0xC0020, 4, 2, 0x0, []⟩
def FOL_TTS0 : Reg := ⟨.gloesk, 0xC0030, 16, 2, 0x0, []⟩
def FOL_TTS1 : Reg := ⟨.gloesk, 0xC0034, 16, 2, 0x0, []⟩
def FOL_TTS2 : Reg := ⟨.gloesk, 0xC0038, 16, 2, 0x0, []⟩
def FOL_TTS3 : Reg := ⟨.gloesk, 0xC003C, 16, 2, 0x0, []⟩
def FOL_SRBASE0 : Reg := ⟨.gloesk, 0xC0060, 0, 1, 0x0, []⟩
def FOL_SRBASE1 : Reg := ⟨.gloesk, 0xC0064, 0, 1, 0x0, []⟩
def FOL_SRSIZE : Reg := ⟨.gloesk, 0xC0068, 0, 1, 0x0, []⟩
def FOL_SRWPTR : Reg := ⟨.gloesk, 0xC006C, 0, 1, 0x0, []⟩
def FOL_SRRPTR : Reg := ⟨.gloesk, 0xC0070, 0, 1, 0x0, []⟩
def FOL_F_CFG : Reg := ⟨.gloesk, 0xC0100, 64, 8, 0x0, []⟩
def FOL_F_CH : Reg := ⟨.gloesk, 0xC0104, 64, 8, 0x0, []⟩
def FOL_F_PRE : Reg := ⟨.gloesk, 0xC0108, 64, 8, 0x0, []⟩
def FOL_F_POST : Reg := ⟨.gloesk, 0xC010C, 64, 8, 0x0, []⟩
def FOL_F_BASE : Reg := ⟨.gloesk, 0xC0110, 64, 8, 0x0, []⟩
def FOL_F_TRG : Reg := ⟨.gloesk, 0xC0114, 64, 8, 0x0, []⟩
def FOL_F_LVL : Reg := ⟨.gloesk, 0xC0118, 64, 8, 0x0, []⟩
def FOL_F_LTHR : Reg := ⟨.gloesk, 0xC011C, 64, 8, 0x0, []⟩
def FOL_F_LHYS : Reg := ⟨.gloesk, 0xC0120, 64, 8, 0x0, []⟩
def FOL_F_CTRL : Reg := ⟨.gloesk, 0xC0124, 64, 8, 0x0, []⟩
def FOL_F_STAT : Reg := ⟨.gloesk, 0xC0128, 64, 8, 0x0, []⟩
def FOL_F_ROWS : Reg := ⟨.gloesk, 0xC012C, 64, 8, 0x0, []⟩
def FOL_F_SIZE : Reg := ⟨.gloesk, 0xC0130, 64, 8, 0x0, []⟩
def FOL_F_RBYTES : Reg := ⟨.gloesk, 0xC0134, 64, 8, 0x0, []⟩
def FOL_F_CNT : Reg := ⟨.gloesk, 0xC0138, 64, 8, 0x0, []⟩
def FOL_CH_LO : Reg := ⟨.gloesk, 0xC1000, 8, 4096, 0x0, []⟩
def FOL_CH_HI : Reg := ⟨.gloesk, 0xC1004, 8, 4096, 0x0, []⟩
def LAN_CTRL : Reg := ⟨.gloesk, 0xD0000, 0, 1, 0x3, []⟩
def LAN_STATUS : Reg := ⟨.gloesk, 0xD0004, 0, 1, 0x0, []⟩
def LAN_LIM : Reg := ⟨.gloesk, 0xD0008, 0, 1, 0x2010C10, []⟩
def LAN_CAL : Reg := ⟨.gloesk, 0xD000C, 0, 1, 0x1, []⟩
def LAN_UP0 : Reg := ⟨.gloesk, 0xD0010, 0, 1, 0x0, []⟩
def LAN_UP1 : Reg := ⟨.gloesk, 0xD0014, 0, 1, 0x0, []⟩
def LAN_UP2 : Reg := ⟨.gloesk, 0xD0018, 0, 1, 0x0, []⟩
def LAN_CALREQ : Reg := ⟨.gloesk, 0xD001C, 0, 1, 0x0, []⟩
def LAN_L_CFG : Reg := ⟨.gloesk, 0xD1000, 64, 68, 0x60302, []⟩
def LAN_L_STAT : Reg := ⟨.gloesk, 0xD1004, 64, 68, 0x0, []⟩
def LAN_L_EQ : Reg := ⟨.gloesk, 0xD1008, 64, 68, 0x0, []⟩
def LAN_L_LVL0 : Reg := ⟨.gloesk, 0xD100C, 64, 68, 0x0, []⟩
def LAN_L_LVL1 : Reg := ⟨.gloesk, 0xD1010, 64, 68, 0x0, []⟩
def LAN_L_LVL2 : Reg := ⟨.gloesk, 0xD1014, 64, 68, 0x0, []⟩
def LAN_L_LVL3 : Reg := ⟨.gloesk, 0xD1018, 64, 68, 0x0, []⟩
def LAN_L_CNT0 : Reg := ⟨.gloesk, 0xD101C, 64, 68, 0x0, []⟩
def LAN_L_CNT1 : Reg := ⟨.gloesk, 0xD1020, 64, 68, 0x0, []⟩
def LAN_L_CNT2 : Reg := ⟨.gloesk, 0xD1024, 64, 68, 0x0, []⟩
def LAN_L_CNT3 : Reg := ⟨.gloesk, 0xD1028, 64, 68, 0x0, []⟩
def HUB_CAL : Reg := ⟨.stanak, 0x3100, 0, 1, 0x0, []⟩
def LNK_LK_CFG : Reg := ⟨.ihloon, 0x1100, 64, 2, 0x2, []⟩
def LNK_LK_STAT : Reg := ⟨.ihloon, 0x1104, 64, 2, 0x0, []⟩
def LNK_LK_CNT0 : Reg := ⟨.ihloon, 0x1108, 64, 2, 0x0, []⟩
def LNK_LK_CNT1 : Reg := ⟨.ihloon, 0x110C, 64, 2, 0x0, []⟩
def LNK_LK_CNT2 : Reg := ⟨.ihloon, 0x1110, 64, 2, 0x0, []⟩
def LNK_TXCAL : Reg := ⟨.ihloon, 0x1180, 0, 1, 0x140000, []⟩
def SEC_LDSRC : Reg := ⟨.gloesk, 0xE00C0, 0, 1, 0x0, []⟩
def SEC_LDLEN : Reg := ⟨.gloesk, 0xE00C4, 0, 1, 0x0, []⟩
def SEC_LDCTL : Reg := ⟨.gloesk, 0xE00C8, 0, 1, 0x0, []⟩
def SEC_LDSTAT : Reg := ⟨.gloesk, 0xE00CC, 0, 1, 0x0, []⟩
def SEC_STATUS : Reg := ⟨.gloesk, 0xE0000, 0, 1, 0x0, []⟩
def SEC_VSTAT : Reg := ⟨.gloesk, 0xE0004, 0, 1, 0x0, []⟩
def SEC_ID0 : Reg := ⟨.gloesk, 0xE0010, 0, 1, 0x0, []⟩
def SEC_ID1 : Reg := ⟨.gloesk, 0xE0014, 0, 1, 0x0, []⟩
def SEC_ID2 : Reg := ⟨.gloesk, 0xE0018, 0, 1, 0x0, []⟩
def SEC_ID3 : Reg := ⟨.gloesk, 0xE001C, 0, 1, 0x0, []⟩
def SEC_SVN : Reg := ⟨.gloesk, 0xE0020, 0, 1, 0x0, []⟩
def SEC_SLOTS : Reg := ⟨.gloesk, 0xE0024, 0, 1, 0x0, []⟩
def SEC_PROV : Reg := ⟨.gloesk, 0xE0028, 0, 1, 0x0, []⟩
def SEC_ROT : Reg := ⟨.gloesk, 0xE0030, 0, 1, 0x18, []⟩
def SEC_LIM : Reg := ⟨.gloesk, 0xE0034, 0, 1, 0x100010, []⟩
def SEC_DBGCHAL0 : Reg := ⟨.gloesk, 0xE0040, 0, 1, 0x0, []⟩
def SEC_DBGCHAL1 : Reg := ⟨.gloesk, 0xE0044, 0, 1, 0x0, []⟩
def SEC_DBGCHAL2 : Reg := ⟨.gloesk, 0xE0048, 0, 1, 0x0, []⟩
def SEC_DBGCHAL3 : Reg := ⟨.gloesk, 0xE004C, 0, 1, 0x0, []⟩
def SEC_DBGCHAL4 : Reg := ⟨.gloesk, 0xE0050, 0, 1, 0x0, []⟩
def SEC_DBGCHAL5 : Reg := ⟨.gloesk, 0xE0054, 0, 1, 0x0, []⟩
def SEC_DBGCHAL6 : Reg := ⟨.gloesk, 0xE0058, 0, 1, 0x0, []⟩
def SEC_DBGCHAL7 : Reg := ⟨.gloesk, 0xE005C, 0, 1, 0x0, []⟩
def SEC_DBGCTL : Reg := ⟨.gloesk, 0xE0060, 0, 1, 0x0, []⟩
def SEC_POSADDR : Reg := ⟨.gloesk, 0xE0080, 0, 1, 0x0, []⟩
def SEC_POSDATA0 : Reg := ⟨.gloesk, 0xE0084, 0, 1, 0x0, []⟩
def SEC_POSDATA1 : Reg := ⟨.gloesk, 0xE0088, 0, 1, 0x0, []⟩
def SEC_POSDATA2 : Reg := ⟨.gloesk, 0xE008C, 0, 1, 0x0, []⟩
def SEC_POSDATA3 : Reg := ⟨.gloesk, 0xE0090, 0, 1, 0x0, []⟩
def SEC_POSDATA4 : Reg := ⟨.gloesk, 0xE0094, 0, 1, 0x0, []⟩
def SEC_POSDATA5 : Reg := ⟨.gloesk, 0xE0098, 0, 1, 0x0, []⟩
def SEC_ERRCNT : Reg := ⟨.gloesk, 0xE00A0, 0, 1, 0x0, []⟩
def HST_ID : Reg := ⟨.gloesk, 0x0, 0, 1, 0xB19664, []⟩
def HST_STATUS : Reg := ⟨.gloesk, 0x8, 0, 1, 0x0, []⟩
def HST_HERR : Reg := ⟨.gloesk, 0x10, 0, 1, 0x0, []⟩
def HST_HERRADDR : Reg := ⟨.gloesk, 0x14, 0, 1, 0x0, []⟩
def HST_HCNT : Reg := ⟨.gloesk, 0x18, 0, 1, 0x0, []⟩
def HST_DPADDR : Reg := ⟨.gloesk, 0x20, 0, 1, 0x0, []⟩
def HST_DPCTL : Reg := ⟨.gloesk, 0x24, 0, 1, 0x1, []⟩
def HST_DPSTAT : Reg := ⟨.gloesk, 0x28, 0, 1, 0x0, []⟩
def HST_DOORBELL : Reg := ⟨.gloesk, 0x30, 0, 1, 0x0, []⟩
def HST_HSEL : Reg := ⟨.gloesk, 0x100, 4, 64, 0x0, []⟩
def PWR_CTRL : Reg := ⟨.gloesk, 0x10000, 0, 1, 0x0, []⟩
def PWR_STATUS : Reg := ⟨.gloesk, 0x10004, 0, 1, 0x0, []⟩
def PWR_TEMP : Reg := ⟨.gloesk, 0x10008, 0, 1, 0x0, []⟩
def PWR_THERM : Reg := ⟨.gloesk, 0x1000C, 0, 1, 0xA027669, []⟩
def PWR_BUDGET : Reg := ⟨.gloesk, 0x10010, 0, 1, 0x6400C4, []⟩
def PWR_POWER : Reg := ⟨.gloesk, 0x10014, 0, 1, 0x0, []⟩
def PWR_DXADDR : Reg := ⟨.gloesk, 0x10020, 0, 1, 0x0, []⟩
def PWR_DXDATA : Reg := ⟨.gloesk, 0x10024, 0, 1, 0x0, []⟩
def PWR_DXINFO : Reg := ⟨.gloesk, 0x10028, 0, 1, 0x0, []⟩
def PWR_QGATE : Reg := ⟨.gloesk, 0x10030, 0, 1, 0x0, []⟩
def PWR_BOOT : Reg := ⟨.gloesk, 0x10040, 0, 1, 0x0, []⟩
def PWR_BOOTSTAT : Reg := ⟨.gloesk, 0x10044, 0, 1, 0xFF, []⟩
def PWR_RSTCAUSE : Reg := ⟨.gloesk, 0x10048, 0, 1, 0x1, []⟩
def PWR_QCTL : Reg := ⟨.gloesk, 0x10050, 0, 1, 0x0, []⟩
def PWR_QADDR : Reg := ⟨.gloesk, 0x10054, 0, 1, 0x0, []⟩
def PWR_QDATA : Reg := ⟨.gloesk, 0x10058, 0, 1, 0x0, []⟩
def PWR_QSTAT : Reg := ⟨.gloesk, 0x1005C, 0, 1, 0x0, []⟩
def PWR_IMG : Reg := ⟨.gloesk, 0x10060, 0, 1, 0x1, []⟩
def PWR_IMGADDR : Reg := ⟨.gloesk, 0x10064, 0, 1, 0x0, []⟩
def PWR_IMGCELL : Reg := ⟨.gloesk, 0x10068, 0, 1, 0x0, []⟩
def PWR_IMGSTAT : Reg := ⟨.gloesk, 0x1006C, 0, 1, 0x0, []⟩
def HSEC_ATT : Reg := ⟨.stanak, 0x7000, 0, 1, 0x0, []⟩
def HSEC_EPOCH : Reg := ⟨.stanak, 0x7004, 0, 1, 0x0, []⟩
def HSEC_EPOCHS : Reg := ⟨.stanak, 0x7008, 0, 1, 0x0, []⟩
def HSEC_ID : Reg := ⟨.stanak, 0x7010, 4, 4, 0x0, []⟩
def HSEC_VSTAT : Reg := ⟨.stanak, 0x7020, 0, 1, 0x0, []⟩
def HSEC_DBGCTL : Reg := ⟨.stanak, 0x7024, 0, 1, 0x0, []⟩
def HSEC_XWIN : Reg := ⟨.stanak, 0x7800, 4, 512, 0x0, []⟩
def CSEC_ATT : Reg := ⟨.ihloon, 0x8000, 0, 1, 0x0, []⟩
def CSEC_EPOCH : Reg := ⟨.ihloon, 0x8004, 0, 1, 0x0, []⟩
def CSEC_EPOCHS : Reg := ⟨.ihloon, 0x8008, 0, 1, 0x0, []⟩
def CSEC_ID : Reg := ⟨.ihloon, 0x8010, 4, 4, 0x0, []⟩
def CSEC_VSTAT : Reg := ⟨.ihloon, 0x8020, 0, 1, 0x0, []⟩
def CSEC_DBGCTL : Reg := ⟨.ihloon, 0x8024, 0, 1, 0x0, []⟩
def CSEC_XWIN : Reg := ⟨.ihloon, 0x8800, 4, 512, 0x0, []⟩
def HUB_BOOT : Reg := ⟨.stanak, 0x5000, 0, 1, 0x0, []⟩
def HUB_RST : Reg := ⟨.stanak, 0x5004, 0, 1, 0x0, []⟩
def HUB_TEMP : Reg := ⟨.stanak, 0x5008, 0, 1, 0x0, []⟩
def HUB_PGATE : Reg := ⟨.stanak, 0x500C, 0, 1, 0x0, []⟩
def HLAN_L_CFG : Reg := ⟨.stanak, 0x3000, 64, 2, 0x60302, []⟩
def HLAN_L_STAT : Reg := ⟨.stanak, 0x3004, 64, 2, 0x0, []⟩
def HLAN_L_EQ : Reg := ⟨.stanak, 0x3008, 64, 2, 0x0, []⟩
def HLAN_L_LVL0 : Reg := ⟨.stanak, 0x300C, 64, 2, 0x0, []⟩
def HLAN_L_LVL1 : Reg := ⟨.stanak, 0x3010, 64, 2, 0x0, []⟩
def HLAN_L_LVL2 : Reg := ⟨.stanak, 0x3014, 64, 2, 0x0, []⟩
def HLAN_L_LVL3 : Reg := ⟨.stanak, 0x3018, 64, 2, 0x0, []⟩
def HLAN_L_CNT0 : Reg := ⟨.stanak, 0x301C, 64, 2, 0x0, []⟩
def HLAN_L_CNT1 : Reg := ⟨.stanak, 0x3020, 64, 2, 0x0, []⟩
def HLAN_L_CNT2 : Reg := ⟨.stanak, 0x3024, 64, 2, 0x0, []⟩
def HLAN_L_CNT3 : Reg := ⟨.stanak, 0x3028, 64, 2, 0x0, []⟩
def HLNK_LK_CFG : Reg := ⟨.stanak, 0x8000, 64, 192, 0x2, []⟩
def HLNK_LK_STAT : Reg := ⟨.stanak, 0x8004, 64, 192, 0x0, []⟩
def HLNK_LK_CNT0 : Reg := ⟨.stanak, 0x8008, 64, 192, 0x0, []⟩
def HLNK_LK_CNT1 : Reg := ⟨.stanak, 0x800C, 64, 192, 0x0, []⟩
def HLNK_LK_CNT2 : Reg := ⟨.stanak, 0x8010, 64, 192, 0x0, []⟩

end Sys2Proof.Machine.R

namespace Sys2Proof.Machine.F

def PTP_CTRL_EN : Fld := ⟨R.PTP_CTRL, 0, 1, .rw, .plain⟩
def PTP_CTRL_SERVO_EN : Fld := ⟨R.PTP_CTRL, 1, 1, .rw, .plain⟩
def PTP_CTRL_FREERUN_OK : Fld := ⟨R.PTP_CTRL, 2, 1, .rw, .plain⟩
def PTP_CTRL_STEP_REQ : Fld := ⟨R.PTP_CTRL, 3, 1, .w1s, .plain⟩
def PTP_CTRL_DOMAIN : Fld := ⟨R.PTP_CTRL, 8, 8, .rw, .plain⟩
def PTP_CTRL_PROFILE : Fld := ⟨R.PTP_CTRL, 16, 1, .rw, .plain⟩
def PTP_STATUS_STATE : Fld := ⟨R.PTP_STATUS, 0, 3, .ro, .plain⟩
def PTP_STATUS_SLAVE_PORT : Fld := ⟨R.PTP_STATUS, 4, 3, .ro, .plain⟩
def PTP_STATUS_GM_CHANGED : Fld := ⟨R.PTP_STATUS, 8, 1, .st, .plain⟩
def PTP_STATUS_SUSPECT_FREQ : Fld := ⟨R.PTP_STATUS, 9, 1, .st, .plain⟩
def PTP_STATUS_SUSPECT_CLASS : Fld := ⟨R.PTP_STATUS, 10, 1, .st, .plain⟩
def PTP_STATUS_HOLDSPEC_EXC : Fld := ⟨R.PTP_STATUS, 11, 1, .st, .plain⟩
def PTP_STATUS_TWIN_OFS : Fld := ⟨R.PTP_STATUS, 12, 1, .st, .plain⟩
def PTP_STATUS_SUSPECT_OFS : Fld := ⟨R.PTP_STATUS, 13, 1, .st, .plain⟩
def PTP_TIME0_SUBNS : Fld := ⟨R.PTP_TIME0, 0, 16, .ro, .plain⟩
def PTP_TIME1_NS : Fld := ⟨R.PTP_TIME1, 0, 30, .ro, .plain⟩
def PTP_TIME2_SEC_LO : Fld := ⟨R.PTP_TIME2, 0, 32, .ro, .plain⟩
def PTP_TIME3_SEC_HI : Fld := ⟨R.PTP_TIME3, 0, 16, .ro, .plain⟩
def PTP_PERIOD_PERIOD : Fld := ⟨R.PTP_PERIOD, 0, 15, .rw, .plain⟩
def PTP_STROKE0_NUM_LO : Fld := ⟨R.PTP_STROKE0, 0, 32, .ro, .plain⟩
def PTP_STROKE1_NUM_HI : Fld := ⟨R.PTP_STROKE1, 0, 16, .ro, .plain⟩
def PTP_RATE_ADJ : Fld := ⟨R.PTP_RATE, 0, 32, .rw, .plain⟩
def PTP_OFFSET_OFS : Fld := ⟨R.PTP_OFFSET, 0, 32, .ro, .plain⟩
def PTP_SERVO_KP_SHIFT : Fld := ⟨R.PTP_SERVO, 0, 5, .rw, .plain⟩
def PTP_SERVO_KI_SHIFT : Fld := ⟨R.PTP_SERVO, 8, 5, .rw, .plain⟩
def PTP_SERVO_RATE_CLAMP : Fld := ⟨R.PTP_SERVO, 16, 8, .rw, .plain⟩
def PTP_SERVO_SLEW : Fld := ⟨R.PTP_SERVO, 24, 8, .rw, .plain⟩
def PTP_GMWIN_FREQ_WIN : Fld := ⟨R.PTP_GMWIN, 0, 8, .rw, .plain⟩
def PTP_GMWIN_HOLD_TO : Fld := ⟨R.PTP_GMWIN, 16, 4, .rw, .plain⟩
def PTP_GMWIN_LOCK_NS : Fld := ⟨R.PTP_GMWIN, 24, 8, .rw, .plain⟩
def PTP_HOLDSPEC_SECONDS : Fld := ⟨R.PTP_HOLDSPEC, 0, 16, .rw, .plain⟩
def PTP_TWIN_OFS : Fld := ⟨R.PTP_TWIN, 0, 16, .ro, .plain⟩
def PTP_DISC_LANE_INTV : Fld := ⟨R.PTP_DISC, 0, 4, .rw, .plain⟩
def PTP_DISC_CELL_INTV : Fld := ⟨R.PTP_DISC, 4, 4, .rw, .plain⟩
def PTP_ERRCNT_DROP : Fld := ⟨R.PTP_ERRCNT, 0, 16, .rc, .plain⟩
def PTP_ERRCNT_REJ : Fld := ⟨R.PTP_ERRCNT, 16, 16, .rc, .plain⟩
def PTP_UTC_UTC_OFS : Fld := ⟨R.PTP_UTC, 0, 16, .ro, .plain⟩
def PTP_UTC_VALID : Fld := ⟨R.PTP_UTC, 16, 1, .ro, .plain⟩
def PTP_UTC_LEAP61 : Fld := ⟨R.PTP_UTC, 17, 1, .ro, .plain⟩
def PTP_UTC_LEAP59 : Fld := ⟨R.PTP_UTC, 18, 1, .ro, .plain⟩
def PTP_P_CFG_ROLE : Fld := ⟨R.PTP_P_CFG, 0, 3, .rw, .plain⟩
def PTP_P_CFG_SPEED : Fld := ⟨R.PTP_P_CFG, 3, 2, .ro, .plain⟩
def PTP_P_CFG_LOG_SYNC : Fld := ⟨R.PTP_P_CFG, 8, 4, .rw, .plain⟩
def PTP_P_CFG_PDELAY_EN : Fld := ⟨R.PTP_P_CFG, 16, 1, .rw, .plain⟩
def PTP_P_ICORR_CORR : Fld := ⟨R.PTP_P_ICORR, 0, 32, .rw, .plain⟩
def PTP_P_ECORR_CORR : Fld := ⟨R.PTP_P_ECORR, 0, 32, .rw, .plain⟩
def PTP_P_PDELAY_DELAY : Fld := ⟨R.PTP_P_PDELAY, 0, 32, .ro, .plain⟩
def PTP_P_STATE_PORT_STATE : Fld := ⟨R.PTP_P_STATE, 0, 4, .ro, .plain⟩
def RUL_CTRL_SRC : Fld := ⟨R.RUL_CTRL, 0, 3, .rw, .staged⟩
def RUL_CTRL_BUMPLESS : Fld := ⟨R.RUL_CTRL, 8, 1, .rw, .staged⟩
def RUL_CTRL_SW_CANCEL : Fld := ⟨R.RUL_CTRL, 9, 1, .w1s, .plain⟩
def RUL_STATUS_SRC_ACT : Fld := ⟨R.RUL_STATUS, 0, 3, .ro, .plain⟩
def RUL_STATUS_SW_PEND : Fld := ⟨R.RUL_STATUS, 3, 1, .ro, .plain⟩
def RUL_STATUS_VCLAMP : Fld := ⟨R.RUL_STATUS, 8, 1, .st, .plain⟩
def RUL_STATUS_SW_MISMATCH : Fld := ⟨R.RUL_STATUS, 9, 1, .st, .plain⟩
def RUL_STATUS_SW_LATE : Fld := ⟨R.RUL_STATUS, 10, 1, .st, .plain⟩
def RUL_STATUS_SEG_DONE : Fld := ⟨R.RUL_STATUS, 11, 1, .st, .plain⟩
def RUL_STATUS_SEG_REJ : Fld := ⟨R.RUL_STATUS, 12, 1, .st, .plain⟩
def RUL_STATUS_GEAR_ERR : Fld := ⟨R.RUL_STATUS, 13, 1, .st, .plain⟩
def RUL_STATUS_SET_REJ : Fld := ⟨R.RUL_STATUS, 14, 1, .st, .plain⟩
def RUL_STATUS_SEG_IDX : Fld := ⟨R.RUL_STATUS, 16, 6, .ro, .plain⟩
def RUL_SW_STROKE0_TGT_LO : Fld := ⟨R.RUL_SW_STROKE0, 0, 32, .rw, .plain⟩
def RUL_SW_STROKE1_TGT_HI : Fld := ⟨R.RUL_SW_STROKE1, 0, 16, .rw, .plain⟩
def RUL_ANGLE_ANGLE : Fld := ⟨R.RUL_ANGLE, 0, 32, .rw, .plain⟩
def RUL_FRAC_FRAC : Fld := ⟨R.RUL_FRAC, 0, 32, .ro, .plain⟩
def RUL_VEL_VEL : Fld := ⟨R.RUL_VEL, 0, 32, .ro, .plain⟩
def RUL_HOSTV_V : Fld := ⟨R.RUL_HOSTV, 0, 32, .rw, .staged⟩
def RUL_VMIN_V : Fld := ⟨R.RUL_VMIN, 0, 32, .rw, .staged⟩
def RUL_VMAX_V : Fld := ⟨R.RUL_VMAX, 0, 32, .rw, .staged⟩
def RUL_NUDGE_LIM : Fld := ⟨R.RUL_NUDGE, 0, 32, .rw, .staged⟩
def RUL_GRIDV_V : Fld := ⟨R.RUL_GRIDV, 0, 32, .ro, .plain⟩
def RUL_ERRCNT_REJ : Fld := ⟨R.RUL_ERRCNT, 0, 16, .rc, .plain⟩
def RUL_GEAR_CFG_WIN : Fld := ⟨R.RUL_GEAR_CFG, 0, 4, .rw, .staged⟩
def RUL_GEAR_CFG_TRACK : Fld := ⟨R.RUL_GEAR_CFG, 4, 4, .rw, .staged⟩
def RUL_GEAR_NUM_NUM : Fld := ⟨R.RUL_GEAR_NUM, 0, 16, .rw, .staged⟩
def RUL_GEAR_DEN_DEN : Fld := ⟨R.RUL_GEAR_DEN, 0, 24, .rw, .staged⟩
def RUL_GEAR_OFS_OFS : Fld := ⟨R.RUL_GEAR_OFS, 0, 32, .rw, .staged⟩
def RUL_GEAR_ANUM_ANUM : Fld := ⟨R.RUL_GEAR_ANUM, 0, 16, .rw, .staged⟩
def RUL_GEAR_ADEN_ADEN : Fld := ⟨R.RUL_GEAR_ADEN, 0, 24, .rw, .staged⟩
def RUL_GEAR_APOS_APOS : Fld := ⟨R.RUL_GEAR_APOS, 0, 32, .rw, .staged⟩
def RUL_GEAR_ARM_ARM : Fld := ⟨R.RUL_GEAR_ARM, 0, 1, .w1s, .staged⟩
def RUL_GEAR_ARM_CANCEL : Fld := ⟨R.RUL_GEAR_ARM, 1, 1, .w1s, .staged⟩
def RUL_GEAR_ARM_ARMED : Fld := ⟨R.RUL_GEAR_ARM, 2, 1, .ro, .plain⟩
def RUL_GEAR_ARM_FIRED : Fld := ⟨R.RUL_GEAR_ARM, 3, 1, .st, .plain⟩
def RUL_GEAR_TERR_ERR : Fld := ⟨R.RUL_GEAR_TERR, 0, 32, .ro, .plain⟩
def RUL_ENC_CFG_MODE : Fld := ⟨R.RUL_ENC_CFG, 0, 2, .rw, .staged⟩
def RUL_ENC_CFG_INV : Fld := ⟨R.RUL_ENC_CFG, 2, 1, .rw, .staged⟩
def RUL_ENC_CFG_FILT : Fld := ⟨R.RUL_ENC_CFG, 4, 3, .rw, .staged⟩
def RUL_ENC_CFG_IDX_ZERO : Fld := ⟨R.RUL_ENC_CFG, 8, 1, .w1s, .staged⟩
def RUL_ENC_CFG_IDX_POL : Fld := ⟨R.RUL_ENC_CFG, 9, 1, .rw, .staged⟩
def RUL_ENC_CFG_ENCO_EN : Fld := ⟨R.RUL_ENC_CFG, 10, 1, .rw, .staged⟩
def RUL_ENC_POS_P : Fld := ⟨R.RUL_ENC_POS, 0, 32, .ro, .plain⟩
def RUL_ENC_RAW_R_CNT : Fld := ⟨R.RUL_ENC_RAW, 0, 32, .ro, .plain⟩
def RUL_ENC_IDXPOS_IDX : Fld := ⟨R.RUL_ENC_IDXPOS, 0, 32, .ro, .plain⟩
def RUL_ENC_STAT_DIR : Fld := ⟨R.RUL_ENC_STAT, 0, 1, .ro, .plain⟩
def RUL_ENC_STAT_IDX_SEEN : Fld := ⟨R.RUL_ENC_STAT, 1, 1, .st, .plain⟩
def RUL_ENC_STAT_ZERO_DONE : Fld := ⟨R.RUL_ENC_STAT, 2, 1, .st, .plain⟩
def RUL_ENC_STAT_ILLEGAL : Fld := ⟨R.RUL_ENC_STAT, 3, 1, .st, .plain⟩
def RUL_ENC_STAT_OVERRATE : Fld := ⟨R.RUL_ENC_STAT, 4, 1, .st, .plain⟩
def RUL_ENC_ERRCNT_ILLEGAL : Fld := ⟨R.RUL_ENC_ERRCNT, 0, 16, .rc, .plain⟩
def RUL_ENC_ERRCNT_OVERRATE : Fld := ⟨R.RUL_ENC_ERRCNT, 16, 16, .rc, .plain⟩
def RUL_SEG_CTRL_COUNT : Fld := ⟨R.RUL_SEG_CTRL, 0, 6, .rw, .staged⟩
def RUL_SEG_CTRL_WBANK : Fld := ⟨R.RUL_SEG_CTRL, 8, 1, .ro, .plain⟩
def RUL_SEG_CTRL_ARM : Fld := ⟨R.RUL_SEG_CTRL, 9, 1, .w1s, .staged⟩
def RUL_SEG_CTRL_ABORT : Fld := ⟨R.RUL_SEG_CTRL, 10, 1, .w1s, .staged⟩
def RUL_SEG_CTRL_NEXT : Fld := ⟨R.RUL_SEG_CTRL, 12, 2, .rw, .staged⟩
def RUL_SEG_START0_KS_LO : Fld := ⟨R.RUL_SEG_START0, 0, 32, .rw, .staged⟩
def RUL_SEG_START1_KS_HI : Fld := ⟨R.RUL_SEG_START1, 0, 16, .rw, .staged⟩
def RUL_CMP_CFG_EN : Fld := ⟨R.RUL_CMP_CFG, 0, 1, .rw, .staged⟩
def RUL_CMP_CFG_ROUTE_DUC : Fld := ⟨R.RUL_CMP_CFG, 1, 1, .rw, .staged⟩
def RUL_CMP_CFG_ROUTE_FLR : Fld := ⟨R.RUL_CMP_CFG, 2, 1, .rw, .staged⟩
def RUL_CMP_CFG_ROUTE_FOL : Fld := ⟨R.RUL_CMP_CFG, 3, 1, .rw, .staged⟩
def RUL_CMP_CFG_MOD : Fld := ⟨R.RUL_CMP_CFG, 16, 13, .rw, .staged⟩
def RUL_CMP_VAL_VAL : Fld := ⟨R.RUL_CMP_VAL, 0, 32, .rw, .staged⟩
def RUL_CMP_SPACE_SPACE : Fld := ⟨R.RUL_CMP_SPACE, 0, 32, .rw, .staged⟩
def RUL_CMP_IDX_IDX : Fld := ⟨R.RUL_CMP_IDX, 0, 16, .ro, .plain⟩
def RUL_CMP_IDX_MISS : Fld := ⟨R.RUL_CMP_IDX, 16, 16, .rc, .plain⟩
def SVI_CTRL_EN : Fld := ⟨R.SVI_CTRL, 0, 1, .rw, .plain⟩
def SVI_CTRL_MODE : Fld := ⟨R.SVI_CTRL, 1, 2, .rw, .plain⟩
def SVI_CTRL_ENC_TOL : Fld := ⟨R.SVI_CTRL, 8, 4, .rw, .plain⟩
def SVI_STATUS_MODE_ACT : Fld := ⟨R.SVI_STATUS, 0, 2, .ro, .plain⟩
def SVI_STATUS_NO_PEER : Fld := ⟨R.SVI_STATUS, 8, 1, .st, .plain⟩
def SVI_STATUS_SECT_MISMATCH : Fld := ⟨R.SVI_STATUS, 9, 1, .st, .plain⟩
def SVI_STATUS_VALUE_MISMATCH : Fld := ⟨R.SVI_STATUS, 10, 1, .st, .plain⟩
def SVI_STATUS_STREAM_LOST : Fld := ⟨R.SVI_STATUS, 11, 1, .st, .plain⟩
def SVI_STATUS_GOOSE_STALE : Fld := ⟨R.SVI_STATUS, 12, 1, .st, .plain⟩
def SVI_STATUS_SKEW : Fld := ⟨R.SVI_STATUS, 13, 1, .st, .plain⟩
def SVI_STATUS_MODE_REJ : Fld := ⟨R.SVI_STATUS, 14, 1, .st, .plain⟩
def SVI_STATUS_TAG_FAIL : Fld := ⟨R.SVI_STATUS, 15, 1, .st, .plain⟩
def SVI_STATUS_ENC_DIFF : Fld := ⟨R.SVI_STATUS, 16, 1, .st, .plain⟩
def SVI_STATUS_PAIR_SPEED : Fld := ⟨R.SVI_STATUS, 17, 1, .ro, .plain⟩
def SVI_STATUS_TMPL_ERR : Fld := ⟨R.SVI_STATUS, 18, 1, .st, .plain⟩
def SVI_PAIR_PAIRA : Fld := ⟨R.SVI_PAIR, 0, 2, .rw, .plain⟩
def SVI_PAIR_PAIRB : Fld := ⟨R.SVI_PAIR, 4, 2, .rw, .plain⟩
def SVI_PAIR_FORGET : Fld := ⟨R.SVI_PAIR, 8, 8, .rw, .plain⟩
def SVI_PAIR_SUPV : Fld := ⟨R.SVI_PAIR, 16, 8, .rw, .plain⟩
def SVI_CUTOFF_OFS : Fld := ⟨R.SVI_CUTOFF, 0, 10, .rw, .plain⟩
def SVI_SKEW_LATNEG : Fld := ⟨R.SVI_SKEW, 0, 16, .rw, .plain⟩
def SVI_P_RX_CNT : Fld := ⟨R.SVI_P_RX, 0, 32, .rc, .plain⟩
def SVI_P_DUP_CNT : Fld := ⟨R.SVI_P_DUP, 0, 32, .rc, .plain⟩
def SVI_P_DROP_CNT : Fld := ⟨R.SVI_P_DROP, 0, 32, .rc, .plain⟩
def SVI_P_TAGF_CNT : Fld := ⟨R.SVI_P_TAGF, 0, 32, .rc, .plain⟩
def SVI_AGREE0_ONE_SIDED : Fld := ⟨R.SVI_AGREE0, 0, 16, .rc, .plain⟩
def SVI_AGREE0_SECT_MISM : Fld := ⟨R.SVI_AGREE0, 16, 16, .rc, .plain⟩
def SVI_AGREE1_NO_PEER : Fld := ⟨R.SVI_AGREE1, 0, 8, .rc, .plain⟩
def SVI_AGREE1_WREJ : Fld := ⟨R.SVI_AGREE1, 8, 8, .rc, .plain⟩
def SVI_AGREE1_VAL_MISM : Fld := ⟨R.SVI_AGREE1, 16, 16, .rc, .plain⟩
def SVI_DDTAB_OCC : Fld := ⟨R.SVI_DDTAB, 0, 11, .ro, .plain⟩
def SVI_DDTAB_OVF : Fld := ⟨R.SVI_DDTAB, 16, 16, .rc, .plain⟩
def SVI_SUB_CFG_EN : Fld := ⟨R.SVI_SUB_CFG, 0, 1, .rw, .plain⟩
def SVI_SUB_CFG_RATE : Fld := ⟨R.SVI_SUB_CFG, 1, 2, .rw, .plain⟩
def SVI_SUB_CFG_NCH : Fld := ⟨R.SVI_SUB_CFG, 3, 5, .rw, .plain⟩
def SVI_SUB_CFG_SUBST : Fld := ⟨R.SVI_SUB_CFG, 8, 2, .rw, .plain⟩
def SVI_SUB_CFG_HOLD_MAX : Fld := ⟨R.SVI_SUB_CFG, 10, 4, .rw, .plain⟩
def SVI_SUB_CFG_SEC : Fld := ⟨R.SVI_SUB_CFG, 14, 2, .rw, .plain⟩
def SVI_SUB_CFG_QUEST_OK : Fld := ⟨R.SVI_SUB_CFG, 16, 1, .rw, .plain⟩
def SVI_SUB_CFG_SYNC_MASK : Fld := ⟨R.SVI_SUB_CFG, 17, 3, .rw, .plain⟩
def SVI_SUB_CFG_PORTS : Fld := ⟨R.SVI_SUB_CFG, 20, 4, .rw, .plain⟩
def SVI_SUB_CFG_SYNC0_OK : Fld := ⟨R.SVI_SUB_CFG, 24, 1, .rw, .plain⟩
def SVI_SUB_ID_APPID : Fld := ⟨R.SVI_SUB_ID, 0, 16, .rw, .plain⟩
def SVI_SUB_ID_GMID : Fld := ⟨R.SVI_SUB_ID, 16, 8, .rw, .plain⟩
def SVI_SUB_SVID_CRC_CRC : Fld := ⟨R.SVI_SUB_SVID_CRC, 0, 32, .rw, .plain⟩
def SVI_SUB_CONFREV_REV : Fld := ⟨R.SVI_SUB_CONFREV, 0, 32, .rw, .plain⟩
def SVI_SUB_LAT_LAT_BUD : Fld := ⟨R.SVI_SUB_LAT, 0, 16, .rw, .plain⟩
def SVI_SUB_LAT_BACKUP : Fld := ⟨R.SVI_SUB_LAT, 16, 8, .rw, .plain⟩
def SVI_SUB_LAT_BACKUP_EN : Fld := ⟨R.SVI_SUB_LAT, 24, 1, .rw, .plain⟩
def SVI_SUB_STAT_STATE : Fld := ⟨R.SVI_SUB_STAT, 0, 2, .ro, .plain⟩
def SVI_SUB_STAT_LAG : Fld := ⟨R.SVI_SUB_STAT, 8, 8, .ro, .plain⟩
def SVI_SUB_STAT_TEST_SEEN : Fld := ⟨R.SVI_SUB_STAT, 16, 1, .st, .plain⟩
def SVI_SUB_STAT_SIM_SEEN : Fld := ⟨R.SVI_SUB_STAT, 17, 1, .st, .plain⟩
def SVI_SUB_STAT_SKEW : Fld := ⟨R.SVI_SUB_STAT, 18, 1, .st, .plain⟩
def SVI_SUB_STAT_QUAL_BAD : Fld := ⟨R.SVI_SUB_STAT, 19, 1, .st, .plain⟩
def SVI_SUB_STAT_FMT_ERR : Fld := ⟨R.SVI_SUB_STAT, 20, 1, .st, .plain⟩
def SVI_SUB_STAT_BACKUP_ACT : Fld := ⟨R.SVI_SUB_STAT, 21, 1, .ro, .plain⟩
def SVI_SUB_NEWEST_IDX : Fld := ⟨R.SVI_SUB_NEWEST, 0, 32, .ro, .plain⟩
def SVI_SUB_CNT_LATE : Fld := ⟨R.SVI_SUB_CNT, 0, 16, .rc, .plain⟩
def SVI_SUB_CNT_LOSTEV : Fld := ⟨R.SVI_SUB_CNT, 16, 16, .rc, .plain⟩
def SVI_GS_CFG_EN : Fld := ⟨R.SVI_GS_CFG, 0, 1, .rw, .plain⟩
def SVI_GS_CFG_NMEMB : Fld := ⟨R.SVI_GS_CFG, 1, 6, .rw, .plain⟩
def SVI_GS_CFG_SEC : Fld := ⟨R.SVI_GS_CFG, 8, 2, .rw, .plain⟩
def SVI_GS_CFG_PORTS : Fld := ⟨R.SVI_GS_CFG, 12, 4, .rw, .plain⟩
def SVI_GS_CFG_DEF_ACT : Fld := ⟨R.SVI_GS_CFG, 16, 1, .rw, .plain⟩
def SVI_GS_APPID_APPID : Fld := ⟨R.SVI_GS_APPID, 0, 16, .rw, .plain⟩
def SVI_GS_REF_CRC_CRC : Fld := ⟨R.SVI_GS_REF_CRC, 0, 32, .rw, .plain⟩
def SVI_GS_DS_CRC_CRC : Fld := ⟨R.SVI_GS_DS_CRC, 0, 32, .rw, .plain⟩
def SVI_GS_CONFREV_REV : Fld := ⟨R.SVI_GS_CONFREV, 0, 32, .rw, .plain⟩
def SVI_GS_STAT_STATE : Fld := ⟨R.SVI_GS_STAT, 0, 2, .ro, .plain⟩
def SVI_GS_STAT_TEST_SEEN : Fld := ⟨R.SVI_GS_STAT, 8, 1, .st, .plain⟩
def SVI_GS_STAT_SIM_SEEN : Fld := ⟨R.SVI_GS_STAT, 9, 1, .st, .plain⟩
def SVI_GS_STAT_NDSCOM : Fld := ⟨R.SVI_GS_STAT, 10, 1, .st, .plain⟩
def SVI_GS_STNUM_STNUM : Fld := ⟨R.SVI_GS_STNUM, 0, 32, .ro, .plain⟩
def SVI_GS_CNT_STALE : Fld := ⟨R.SVI_GS_CNT, 0, 16, .rc, .plain⟩
def SVI_GS_CNT_SEQERR : Fld := ⟨R.SVI_GS_CNT, 16, 16, .rc, .plain⟩
def SVI_GP_CFG_EN : Fld := ⟨R.SVI_GP_CFG, 0, 1, .rw, .plain⟩
def SVI_GP_CFG_PORTS : Fld := ⟨R.SVI_GP_CFG, 4, 4, .rw, .plain⟩
def SVI_GP_CFG_SRC : Fld := ⟨R.SVI_GP_CFG, 8, 2, .rw, .plain⟩
def SVI_GP_CFG_T0 : Fld := ⟨R.SVI_GP_CFG, 16, 16, .rw, .plain⟩
def SVI_GP_TIM_TMIN : Fld := ⟨R.SVI_GP_TIM, 0, 8, .rw, .plain⟩
def SVI_GP_TIM_TAL_MUL : Fld := ⟨R.SVI_GP_TIM, 8, 4, .rw, .plain⟩
def SVI_GP_TMPL_OFS : Fld := ⟨R.SVI_GP_TMPL, 0, 32, .rw, .plain⟩
def SVI_GP_STNUM_STNUM : Fld := ⟨R.SVI_GP_STNUM, 0, 32, .ro, .plain⟩
def SVI_GP_SQNUM_SQNUM : Fld := ⟨R.SVI_GP_SQNUM, 0, 32, .ro, .plain⟩
def SVI_GP_TRIG_TRIG : Fld := ⟨R.SVI_GP_TRIG, 0, 1, .w1s, .plain⟩
def SVI_GP_TXCNT_CNT : Fld := ⟨R.SVI_GP_TXCNT, 0, 32, .rc, .plain⟩
def LPE_CTRL_EN : Fld := ⟨R.LPE_CTRL, 0, 1, .rw, .plain⟩
def LPE_CTRL_SW_CANCEL : Fld := ⟨R.LPE_CTRL, 1, 1, .w1s, .plain⟩
def LPE_CTRL_BANK : Fld := ⟨R.LPE_CTRL, 2, 1, .ro, .plain⟩
def LPE_STATUS_SW_PEND : Fld := ⟨R.LPE_STATUS, 0, 1, .ro, .plain⟩
def LPE_STATUS_SW_MISMATCH : Fld := ⟨R.LPE_STATUS, 8, 1, .st, .plain⟩
def LPE_STATUS_SW_LATE : Fld := ⟨R.LPE_STATUS, 9, 1, .st, .plain⟩
def LPE_STATUS_CREJ : Fld := ⟨R.LPE_STATUS, 10, 1, .st, .plain⟩
def LPE_STATUS_QFULL : Fld := ⟨R.LPE_STATUS, 11, 1, .st, .plain⟩
def LPE_STATUS_ECC_UE : Fld := ⟨R.LPE_STATUS, 12, 1, .st, .plain⟩
def LPE_STATUS_SAT_ANY : Fld := ⟨R.LPE_STATUS, 13, 1, .st, .plain⟩
def LPE_STATUS_BUNDLE_REJ : Fld := ⟨R.LPE_STATUS, 14, 1, .st, .plain⟩
def LPE_WIN_EXT : Fld := ⟨R.LPE_WIN, 0, 12, .rw, .plain⟩
def LPE_SW_STROKE0_TGT_LO : Fld := ⟨R.LPE_SW_STROKE0, 0, 32, .rw, .plain⟩
def LPE_SW_STROKE1_TGT_HI : Fld := ⟨R.LPE_SW_STROKE1, 0, 16, .rw, .plain⟩
def LPE_OPCMD_SLOT : Fld := ⟨R.LPE_OPCMD, 0, 6, .wo, .plain⟩
def LPE_OPCMD_ACT : Fld := ⟨R.LPE_OPCMD, 8, 2, .wo, .plain⟩
def LPE_CWIDX_IDX : Fld := ⟨R.LPE_CWIDX, 0, 12, .rw, .plain⟩
def LPE_CWVAL_VAL : Fld := ⟨R.LPE_CWVAL, 0, 18, .wo, .plain⟩
def LPE_QCNT_OPS : Fld := ⟨R.LPE_QCNT, 0, 7, .ro, .plain⟩
def LPE_QCNT_CWR : Fld := ⟨R.LPE_QCNT, 8, 7, .ro, .plain⟩
def LPE_SATMAP0_SAT : Fld := ⟨R.LPE_SATMAP0, 0, 32, .st, .plain⟩
def LPE_SATMAP1_SAT : Fld := ⟨R.LPE_SATMAP1, 0, 32, .st, .plain⟩
def LPE_OSAT0_CLAMP : Fld := ⟨R.LPE_OSAT0, 0, 32, .ro, .plain⟩
def LPE_OSAT1_CLAMP : Fld := ⟨R.LPE_OSAT1, 0, 32, .ro, .plain⟩
def LPE_OPEN0_OPEN : Fld := ⟨R.LPE_OPEN0, 0, 32, .ro, .plain⟩
def LPE_OPEN1_OPEN : Fld := ⟨R.LPE_OPEN1, 0, 32, .ro, .plain⟩
def LPE_ACTIVE0_ACT : Fld := ⟨R.LPE_ACTIVE0, 0, 32, .ro, .plain⟩
def LPE_ACTIVE1_ACT : Fld := ⟨R.LPE_ACTIVE1, 0, 32, .ro, .plain⟩
def LPE_CREJCNT_CLOSED : Fld := ⟨R.LPE_CREJCNT, 0, 16, .rc, .plain⟩
def LPE_CREJCNT_FIXED : Fld := ⟨R.LPE_CREJCNT, 16, 16, .rc, .plain⟩
def LPE_ERRCNT_ECC_CE : Fld := ⟨R.LPE_ERRCNT, 0, 16, .rc, .plain⟩
def LPE_ERRCNT_WREJ : Fld := ⟨R.LPE_ERRCNT, 16, 8, .rc, .plain⟩
def LPE_ERRCNT_QFULL : Fld := ⟨R.LPE_ERRCNT, 24, 8, .rc, .plain⟩
def LPE_XADDR_INDEX : Fld := ⟨R.LPE_XADDR, 0, 14, .rw, .plain⟩
def LPE_XADDR_SPACE : Fld := ⟨R.LPE_XADDR, 16, 3, .rw, .plain⟩
def LPE_XDATA0_LO : Fld := ⟨R.LPE_XDATA0, 0, 32, .rw, .plain⟩
def LPE_XDATA1_HI : Fld := ⟨R.LPE_XDATA1, 0, 32, .rw, .plain⟩
def LPE_PARAM_VAL : Fld := ⟨R.LPE_PARAM, 0, 32, .rw, .plain⟩
def LPE_QRES_VAL : Fld := ⟨R.LPE_QRES, 0, 32, .ro, .plain⟩
def LPE_AREF_VAL : Fld := ⟨R.LPE_AREF, 0, 32, .ro, .plain⟩
def LPE_SLOT_CFG0_START : Fld := ⟨R.LPE_SLOT_CFG0, 0, 13, .rw, .plain⟩
def LPE_SLOT_CFG0_LEN : Fld := ⟨R.LPE_SLOT_CFG0, 16, 13, .rw, .plain⟩
def LPE_SLOT_CFG1_LANE : Fld := ⟨R.LPE_SLOT_CFG1, 0, 3, .rw, .plain⟩
def LPE_SLOT_CFG1_TIER : Fld := ⟨R.LPE_SLOT_CFG1, 4, 2, .rw, .plain⟩
def LPE_SLOT_CFG1_PHASE : Fld := ⟨R.LPE_SLOT_CFG1, 6, 10, .rw, .plain⟩
def LPE_SLOT_CFG1_DIV : Fld := ⟨R.LPE_SLOT_CFG1, 16, 10, .rw, .plain⟩
def LPE_SLOT_CFG2_DEST : Fld := ⟨R.LPE_SLOT_CFG2, 0, 8, .rw, .plain⟩
def LPE_SLOT_CFG2_GROUP : Fld := ⟨R.LPE_SLOT_CFG2, 8, 4, .rw, .plain⟩
def LPE_SLOT_CFG2_GRP_EN : Fld := ⟨R.LPE_SLOT_CFG2, 12, 1, .rw, .plain⟩
def LPE_SLOT_CFG2_FEEDS : Fld := ⟨R.LPE_SLOT_CFG2, 16, 6, .rw, .plain⟩
def LPE_SLOT_CFG2_FEEDS_EN : Fld := ⟨R.LPE_SLOT_CFG2, 22, 1, .rw, .plain⟩
def LPE_SLOT_CFG2_TRK : Fld := ⟨R.LPE_SLOT_CFG2, 24, 4, .rw, .plain⟩
def LPE_SLOT_CFG2_TRK_EN : Fld := ⟨R.LPE_SLOT_CFG2, 28, 1, .rw, .plain⟩
def LPE_SLOT_CFG2_OPEN_OUT : Fld := ⟨R.LPE_SLOT_CFG2, 29, 1, .rw, .plain⟩
def LPE_SLOT_CFG2_INIT_OPEN : Fld := ⟨R.LPE_SLOT_CFG2, 30, 1, .rw, .plain⟩
def LPE_SLOT_YMIN_YMIN : Fld := ⟨R.LPE_SLOT_YMIN, 0, 32, .rw, .plain⟩
def LPE_SLOT_YMAX_YMAX : Fld := ⟨R.LPE_SLOT_YMAX, 0, 32, .rw, .plain⟩
def LPE_SLOT_PRESET_PRESET : Fld := ⟨R.LPE_SLOT_PRESET, 0, 32, .rw, .plain⟩
def LPE_SLOT_COEF_CBASE : Fld := ⟨R.LPE_SLOT_COEF, 0, 12, .rw, .plain⟩
def LPE_SLOT_COEF_CCNT : Fld := ⟨R.LPE_SLOT_COEF, 16, 9, .rw, .plain⟩
def LPE_SLOT_STAT_STATE : Fld := ⟨R.LPE_SLOT_STAT, 0, 2, .ro, .plain⟩
def LPE_SLOT_STAT_OSAT : Fld := ⟨R.LPE_SLOT_STAT, 2, 1, .ro, .plain⟩
def LPE_SLOT_STAT_HOLD : Fld := ⟨R.LPE_SLOT_STAT, 3, 1, .ro, .plain⟩
def LPE_SLOT_STAT_WIDE : Fld := ⟨R.LPE_SLOT_STAT, 4, 1, .ro, .plain⟩
def LPE_SLOT_STAT_SATCNT : Fld := ⟨R.LPE_SLOT_STAT, 8, 8, .rc, .plain⟩
def LPE_SLOT_STAT_HOLDCNT : Fld := ⟨R.LPE_SLOT_STAT, 16, 16, .rc, .plain⟩
def LPE_GRP_CFG_MODE : Fld := ⟨R.LPE_GRP_CFG, 0, 2, .rw, .plain⟩
def LPE_GRP_CFG_DEST : Fld := ⟨R.LPE_GRP_CFG, 8, 8, .rw, .plain⟩
def LPE_GRP_MASK0_M_LO : Fld := ⟨R.LPE_GRP_MASK0, 0, 32, .rw, .plain⟩
def LPE_GRP_MASK1_M_HI : Fld := ⟨R.LPE_GRP_MASK1, 0, 32, .rw, .plain⟩
def LPE_GRP_STAT_WIN : Fld := ⟨R.LPE_GRP_STAT, 0, 6, .ro, .plain⟩
def LPE_GRP_STAT_NONE : Fld := ⟨R.LPE_GRP_STAT, 6, 1, .ro, .plain⟩
def LPE_GRP_STAT_CHG : Fld := ⟨R.LPE_GRP_STAT, 16, 16, .rc, .plain⟩
def LPE_IMAP_SEL : Fld := ⟨R.LPE_IMAP, 0, 28, .rw, .plain⟩
def LPE_IMAP_CLASS : Fld := ⟨R.LPE_IMAP, 28, 4, .rw, .plain⟩
def FLR_CTRL_TRIG_BLT : Fld := ⟨R.FLR_CTRL, 0, 1, .rw, .plain⟩
def FLR_STATUS_SAT_ANY : Fld := ⟨R.FLR_STATUS, 0, 1, .st, .plain⟩
def FLR_STATUS_ECC_UE : Fld := ⟨R.FLR_STATUS, 1, 1, .st, .plain⟩
def FLR_STATUS_FRZ_ANY : Fld := ⟨R.FLR_STATUS, 2, 1, .ro, .plain⟩
def FLR_STATUS_CREJ : Fld := ⟨R.FLR_STATUS, 3, 1, .st, .plain⟩
def FLR_ERRCNT_CREJ : Fld := ⟨R.FLR_ERRCNT, 0, 16, .rc, .plain⟩
def FLR_ERRCNT_WREJ : Fld := ⟨R.FLR_ERRCNT, 16, 8, .rc, .plain⟩
def FLR_ERRCNT_ECC_CE : Fld := ⟨R.FLR_ERRCNT, 24, 8, .rc, .plain⟩
def FLR_FROZEN0_FRZ : Fld := ⟨R.FLR_FROZEN0, 0, 32, .ro, .plain⟩
def FLR_FROZEN1_FRZ : Fld := ⟨R.FLR_FROZEN1, 0, 32, .ro, .plain⟩
def FLR_T_CFG_EN : Fld := ⟨R.FLR_T_CFG, 0, 1, .rw, .bundle⟩
def FLR_T_CFG_SRC : Fld := ⟨R.FLR_T_CFG, 1, 5, .rw, .bundle⟩
def FLR_T_CFG_HOLD : Fld := ⟨R.FLR_T_CFG, 8, 1, .rw, .staged⟩
def FLR_T_CFG_FRZ_OUT : Fld := ⟨R.FLR_T_CFG, 9, 1, .rw, .staged⟩
def FLR_T_CFG_CLR : Fld := ⟨R.FLR_T_CFG, 10, 1, .w1s, .staged⟩
def FLR_T_CFG_KEEP : Fld := ⟨R.FLR_T_CFG, 11, 1, .rw, .bundle⟩
def FLR_T_CFG_N : Fld := ⟨R.FLR_T_CFG, 16, 13, .rw, .bundle⟩
def FLR_T_GAIN_G : Fld := ⟨R.FLR_T_GAIN, 0, 16, .rw, .staged⟩
def FLR_T_FORGET_F : Fld := ⟨R.FLR_T_FORGET, 0, 17, .rw, .staged⟩
def FLR_T_LEAD_LEAD : Fld := ⟨R.FLR_T_LEAD, 0, 12, .rw, .staged⟩
def FLR_T_LEAD_REARM : Fld := ⟨R.FLR_T_LEAD, 16, 5, .rw, .staged⟩
def FLR_T_FMIN_V : Fld := ⟨R.FLR_T_FMIN, 0, 32, .rw, .staged⟩
def FLR_T_FMAX_V : Fld := ⟨R.FLR_T_FMAX, 0, 32, .rw, .staged⟩
def FLR_T_BASE_OFS : Fld := ⟨R.FLR_T_BASE, 0, 32, .rw, .bundle⟩
def FLR_T_STAT_FROZEN : Fld := ⟨R.FLR_T_STAT, 0, 1, .ro, .plain⟩
def FLR_T_STAT_WIN_OUT : Fld := ⟨R.FLR_T_STAT, 1, 1, .ro, .plain⟩
def FLR_T_STAT_SAT : Fld := ⟨R.FLR_T_STAT, 2, 1, .st, .plain⟩
def FLR_T_STAT_ECC_UE : Fld := ⟨R.FLR_T_STAT, 3, 1, .st, .plain⟩
def FLR_T_STAT_SKIP : Fld := ⟨R.FLR_T_STAT, 4, 1, .st, .plain⟩
def FLR_T_STAT_IDX : Fld := ⟨R.FLR_T_STAT, 16, 12, .ro, .plain⟩
def FLR_T_CNT0_SATCNT : Fld := ⟨R.FLR_T_CNT0, 0, 16, .rc, .plain⟩
def FLR_T_CNT0_SKIPCNT : Fld := ⟨R.FLR_T_CNT0, 16, 16, .rc, .plain⟩
def FLR_T_CNT1_FRZCNT : Fld := ⟨R.FLR_T_CNT1, 0, 16, .rc, .plain⟩
def FLR_T_CNT1_COMMITS : Fld := ⟨R.FLR_T_CNT1, 16, 16, .rc, .plain⟩
def FLR_TAP_CFG_EN : Fld := ⟨R.FLR_TAP_CFG, 0, 1, .rw, .plain⟩
def FLR_TAP_CFG_SRC : Fld := ⟨R.FLR_TAP_CFG, 1, 1, .rw, .plain⟩
def FLR_TAP_CFG_SLOT : Fld := ⟨R.FLR_TAP_CFG, 2, 6, .rw, .plain⟩
def FLR_TAP_CFG_WORD : Fld := ⟨R.FLR_TAP_CFG, 8, 12, .rw, .plain⟩
def FLR_TAP_CFG_DEC : Fld := ⟨R.FLR_TAP_CFG, 20, 4, .rw, .plain⟩
def FLR_TAP_CFG_MODE : Fld := ⟨R.FLR_TAP_CFG, 24, 2, .rw, .plain⟩
def FLR_TAP_BASE_OFS : Fld := ⟨R.FLR_TAP_BASE, 0, 32, .rw, .plain⟩
def FLR_TAP_SIZE_LOG : Fld := ⟨R.FLR_TAP_SIZE, 0, 4, .rw, .plain⟩
def FLR_TAP_POST_POST : Fld := ⟨R.FLR_TAP_POST, 0, 16, .rw, .plain⟩
def FLR_TAP_WPTR_PTR : Fld := ⟨R.FLR_TAP_WPTR, 0, 16, .ro, .plain⟩
def FLR_TAP_WPTR_WRAPS : Fld := ⟨R.FLR_TAP_WPTR, 16, 16, .ro, .plain⟩
def FLR_TAP_STAT_RUN : Fld := ⟨R.FLR_TAP_STAT, 0, 1, .ro, .plain⟩
def FLR_TAP_STAT_FULL : Fld := ⟨R.FLR_TAP_STAT, 1, 1, .st, .plain⟩
def FLR_TAP_STAT_TRIGD : Fld := ⟨R.FLR_TAP_STAT, 2, 1, .st, .plain⟩
def FLR_TAP_STAT_BADCFG : Fld := ⟨R.FLR_TAP_STAT, 3, 1, .st, .plain⟩
def FLR_TAP_STAT_LOST : Fld := ⟨R.FLR_TAP_STAT, 16, 16, .rc, .plain⟩
def FLR_TAP_CTRL_START : Fld := ⟨R.FLR_TAP_CTRL, 0, 1, .w1s, .plain⟩
def FLR_TAP_CTRL_TRIG : Fld := ⟨R.FLR_TAP_CTRL, 1, 1, .w1s, .plain⟩
def RNK_CTRL_EN : Fld := ⟨R.RNK_CTRL, 0, 1, .rw, .bundle⟩
def RNK_CTRL_SW_CANCEL : Fld := ⟨R.RNK_CTRL, 1, 1, .w1s, .plain⟩
def RNK_CTRL_STALE : Fld := ⟨R.RNK_CTRL, 4, 4, .rw, .bundle⟩
def RNK_STATUS_SW_PEND : Fld := ⟨R.RNK_STATUS, 0, 1, .ro, .plain⟩
def RNK_STATUS_SW_MISMATCH : Fld := ⟨R.RNK_STATUS, 8, 1, .st, .plain⟩
def RNK_STATUS_SW_LATE : Fld := ⟨R.RNK_STATUS, 9, 1, .st, .plain⟩
def RNK_STATUS_QFULL : Fld := ⟨R.RNK_STATUS, 10, 1, .st, .plain⟩
def RNK_STATUS_ECC_UE : Fld := ⟨R.RNK_STATUS, 11, 1, .st, .plain⟩
def RNK_STATUS_RELREJ : Fld := ⟨R.RNK_STATUS, 12, 1, .st, .plain⟩
def RNK_STATUS_NOREP : Fld := ⟨R.RNK_STATUS, 13, 1, .st, .plain⟩
def RNK_STATUS_HOREJ : Fld := ⟨R.RNK_STATUS, 14, 1, .st, .plain⟩
def RNK_ERRCNT_ECC_CE : Fld := ⟨R.RNK_ERRCNT, 0, 16, .rc, .plain⟩
def RNK_ERRCNT_WREJ : Fld := ⟨R.RNK_ERRCNT, 16, 8, .rc, .plain⟩
def RNK_ERRCNT_QFULL : Fld := ⟨R.RNK_ERRCNT, 24, 8, .rc, .plain⟩
def RNK_SW_STROKE0_TGT_LO : Fld := ⟨R.RNK_SW_STROKE0, 0, 32, .rw, .plain⟩
def RNK_SW_STROKE1_TGT_HI : Fld := ⟨R.RNK_SW_STROKE1, 0, 16, .rw, .plain⟩
def RNK_HOCMD_ADDR : Fld := ⟨R.RNK_HOCMD, 0, 13, .wo, .plain⟩
def RNK_HOCMD_ACT : Fld := ⟨R.RNK_HOCMD, 16, 2, .wo, .plain⟩
def RNK_QCNT_HO : Fld := ⟨R.RNK_QCNT, 0, 7, .ro, .plain⟩
def RNK_BLK_ARMS : Fld := ⟨R.RNK_BLK, 0, 12, .ro, .plain⟩
def RNK_CXADDR_INDEX : Fld := ⟨R.RNK_CXADDR, 0, 14, .rw, .plain⟩
def RNK_CXADDR_SPACE : Fld := ⟨R.RNK_CXADDR, 16, 2, .rw, .plain⟩
def RNK_CXDATA0_GAIN_SWC_LO : Fld := ⟨R.RNK_CXDATA0, 0, 16, .rw, .bundle⟩
def RNK_CXDATA0_OFS_SWC_HI : Fld := ⟨R.RNK_CXDATA0, 16, 12, .rw, .bundle⟩
def RNK_CXDATA0_ORD : Fld := ⟨R.RNK_CXDATA0, 0, 13, .ro, .plain⟩
def RNK_CXDATA0_ORD_B : Fld := ⟨R.RNK_CXDATA0, 16, 1, .ro, .plain⟩
def RNK_CXDATA1_TJ : Fld := ⟨R.RNK_CXDATA1, 0, 8, .ro, .plain⟩
def RNK_CXDATA1_PREV : Fld := ⟨R.RNK_CXDATA1, 8, 3, .ro, .plain⟩
def RNK_CXDATA1_POL : Fld := ⟨R.RNK_CXDATA1, 11, 1, .ro, .plain⟩
def RNK_CXDATA1_STALE_CNT : Fld := ⟨R.RNK_CXDATA1, 12, 4, .ro, .plain⟩
def RNK_CXDATA1_LAST_E : Fld := ⟨R.RNK_CXDATA1, 16, 14, .ro, .plain⟩
def RNK_CXDATA1_HELD : Fld := ⟨R.RNK_CXDATA1, 30, 1, .ro, .plain⟩
def RNK_CXDATA1_ELIG : Fld := ⟨R.RNK_CXDATA1, 31, 1, .ro, .plain⟩
def RNK_ARM_CFG_MODE : Fld := ⟨R.RNK_ARM_CFG, 0, 2, .rw, .bundle⟩
def RNK_ARM_CFG_TYPE : Fld := ⟨R.RNK_ARM_CFG, 2, 1, .rw, .bundle⟩
def RNK_ARM_CFG_NORM : Fld := ⟨R.RNK_ARM_CFG, 3, 1, .rw, .bundle⟩
def RNK_ARM_CFG_ISIGN : Fld := ⟨R.RNK_ARM_CFG, 4, 1, .rw, .bundle⟩
def RNK_ARM_CAP_NCAP : Fld := ⟨R.RNK_ARM_CAP, 0, 10, .rw, .bundle⟩
def RNK_ARM_CAP_NMIN : Fld := ⟨R.RNK_ARM_CAP, 16, 10, .rw, .bundle⟩
def RNK_ARM_RED_NRED : Fld := ⟨R.RNK_ARM_RED, 0, 10, .rw, .bundle⟩
def RNK_ARM_RED_TRIMHOLD : Fld := ⟨R.RNK_ARM_RED, 16, 8, .rw, .bundle⟩
def RNK_ARM_VNOM_VNOM : Fld := ⟨R.RNK_ARM_VNOM, 0, 15, .rw, .bundle⟩
def RNK_ARM_TMIN_TMIN : Fld := ⟨R.RNK_ARM_TMIN, 0, 14, .rw, .bundle⟩
def RNK_ARM_ISRC_STREAM : Fld := ⟨R.RNK_ARM_ISRC, 0, 8, .rw, .bundle⟩
def RNK_ARM_ISRC_CH : Fld := ⟨R.RNK_ARM_ISRC, 8, 4, .rw, .bundle⟩
def RNK_ARM_ISRC_EN : Fld := ⟨R.RNK_ARM_ISRC, 12, 1, .rw, .bundle⟩
def RNK_ARM_ISRC_IBAND : Fld := ⟨R.RNK_ARM_ISRC, 16, 16, .rw, .staged⟩
def RNK_ARM_TJ0_VON0 : Fld := ⟨R.RNK_ARM_TJ0, 0, 14, .rw, .bundle⟩
def RNK_ARM_TJ0_KTJ : Fld := ⟨R.RNK_ARM_TJ0, 16, 8, .rw, .bundle⟩
def RNK_ARM_TJ1_RON : Fld := ⟨R.RNK_ARM_TJ1, 0, 32, .rw, .bundle⟩
def RNK_ARM_WGT_WTJ : Fld := ⟨R.RNK_ARM_WGT, 0, 12, .rw, .staged⟩
def RNK_ARM_WGT_WSW : Fld := ⟨R.RNK_ARM_WGT, 16, 12, .rw, .staged⟩
def RNK_ARM_HYST_HYST : Fld := ⟨R.RNK_ARM_HYST, 0, 14, .rw, .staged⟩
def RNK_ARM_HYST_SWDEC : Fld := ⟨R.RNK_ARM_HYST, 16, 5, .rw, .bundle⟩
def RNK_ARM_HYST_SWINC : Fld := ⟨R.RNK_ARM_HYST, 24, 8, .rw, .bundle⟩
def RNK_ARM_CTRL_BLK : Fld := ⟨R.RNK_ARM_CTRL, 0, 1, .rw, .staged⟩
def RNK_ARM_STAT_CLIP : Fld := ⟨R.RNK_ARM_STAT, 0, 1, .st, .plain⟩
def RNK_ARM_STAT_SHORT : Fld := ⟨R.RNK_ARM_STAT, 1, 1, .st, .plain⟩
def RNK_ARM_STAT_PINCLIP : Fld := ⟨R.RNK_ARM_STAT, 2, 1, .st, .plain⟩
def RNK_ARM_STAT_REDLOW : Fld := ⟨R.RNK_ARM_STAT, 3, 1, .ro, .plain⟩
def RNK_ARM_STAT_SHORTAGE : Fld := ⟨R.RNK_ARM_STAT, 4, 1, .ro, .plain⟩
def RNK_ARM_STAT_BELOWMIN : Fld := ⟨R.RNK_ARM_STAT, 5, 1, .ro, .plain⟩
def RNK_ARM_STAT_BLK_BLT : Fld := ⟨R.RNK_ARM_STAT, 6, 1, .ro, .plain⟩
def RNK_ARM_STAT_DIR : Fld := ⟨R.RNK_ARM_STAT, 7, 1, .ro, .plain⟩
def RNK_ARM_STAT_POL : Fld := ⟨R.RNK_ARM_STAT, 8, 1, .ro, .plain⟩
def RNK_ARM_STAT_NH : Fld := ⟨R.RNK_ARM_STAT, 16, 10, .ro, .plain⟩
def RNK_ARM_CNT_CLIPCNT : Fld := ⟨R.RNK_ARM_CNT, 0, 16, .rc, .plain⟩
def RNK_ARM_CNT_RELREJ : Fld := ⟨R.RNK_ARM_CNT, 16, 8, .rc, .plain⟩
def RNK_ARM_CNT_NOREP : Fld := ⟨R.RNK_ARM_CNT, 24, 8, .rc, .plain⟩
def RNK_ARM_LEVEL_M : Fld := ⟨R.RNK_ARM_LEVEL, 0, 32, .ro, .plain⟩
def RNK_ARM_RES_RES : Fld := ⟨R.RNK_ARM_RES, 0, 32, .ro, .plain⟩
def RNK_ARM_EDGE_CELL : Fld := ⟨R.RNK_ARM_EDGE, 0, 13, .ro, .plain⟩
def RNK_ARM_EDGE_VALID : Fld := ⟨R.RNK_ARM_EDGE, 13, 1, .ro, .plain⟩
def RNK_ARM_EDGE_TON : Fld := ⟨R.RNK_ARM_EDGE, 16, 14, .ro, .plain⟩
def STK_CTRL_START : Fld := ⟨R.STK_CTRL, 0, 1, .w1s, .staged⟩
def STK_CTRL_STOP : Fld := ⟨R.STK_CTRL, 1, 1, .w1s, .staged⟩
def STK_CTRL_SW_CANCEL : Fld := ⟨R.STK_CTRL, 2, 1, .w1s, .plain⟩
def STK_CTRL_LEAD : Fld := ⟨R.STK_CTRL, 4, 4, .rw, .bundle⟩
def STK_STATUS_RUN : Fld := ⟨R.STK_STATUS, 0, 1, .ro, .plain⟩
def STK_STATUS_SW_PEND : Fld := ⟨R.STK_STATUS, 1, 1, .ro, .plain⟩
def STK_STATUS_SW_MISMATCH : Fld := ⟨R.STK_STATUS, 8, 1, .st, .plain⟩
def STK_STATUS_SW_LATE : Fld := ⟨R.STK_STATUS, 9, 1, .st, .plain⟩
def STK_STATUS_START_REJ : Fld := ⟨R.STK_STATUS, 10, 1, .st, .plain⟩
def STK_STATUS_SETTLE : Fld := ⟨R.STK_STATUS, 11, 1, .st, .plain⟩
def STK_STATUS_EOUT : Fld := ⟨R.STK_STATUS, 12, 1, .st, .plain⟩
def STK_STATUS_PEER_REJ : Fld := ⟨R.STK_STATUS, 13, 1, .st, .plain⟩
def STK_WOFS_W : Fld := ⟨R.STK_WOFS, 0, 12, .rw, .bundle⟩
def STK_SW_STROKE0_TGT_LO : Fld := ⟨R.STK_SW_STROKE0, 0, 32, .rw, .plain⟩
def STK_SW_STROKE1_TGT_HI : Fld := ⟨R.STK_SW_STROKE1, 0, 16, .rw, .plain⟩
def STK_ERRCNT_SETTLE : Fld := ⟨R.STK_ERRCNT, 0, 16, .rc, .plain⟩
def STK_ERRCNT_EOUT : Fld := ⟨R.STK_ERRCNT, 16, 16, .rc, .plain⟩
def STK_SDROP0_LANE : Fld := ⟨R.STK_SDROP0, 0, 32, .st, .plain⟩
def STK_SDROP1_LANE : Fld := ⟨R.STK_SDROP1, 0, 32, .st, .plain⟩
def STK_DBASE_OFS : Fld := ⟨R.STK_DBASE, 0, 32, .rw, .bundle⟩
def STK_FIBRE_F : Fld := ⟨R.STK_FIBRE, 0, 10, .rw, .bundle⟩
def STK_FIBRE_G : Fld := ⟨R.STK_FIBRE, 16, 8, .rw, .bundle⟩
def STK_CHAIN_NEED : Fld := ⟨R.STK_CHAIN, 0, 16, .ro, .plain⟩
def STK_CHAIN_OK : Fld := ⟨R.STK_CHAIN, 16, 1, .ro, .plain⟩
def HUB_ID_DEVID : Fld := ⟨R.HUB_ID, 0, 16, .ro, .plain⟩
def HUB_ID_STEP : Fld := ⟨R.HUB_ID, 16, 12, .ro, .plain⟩
def HUB_FCTRL_EN : Fld := ⟨R.HUB_FCTRL, 0, 1, .rw, .map⟩
def HUB_FCTRL_PAIR : Fld := ⟨R.HUB_FCTRL, 1, 5, .rw, .map⟩
def HUB_FCTRL_PLANE : Fld := ⟨R.HUB_FCTRL, 6, 1, .rw, .map⟩
def HUB_RWIN_W : Fld := ⟨R.HUB_RWIN, 0, 12, .rw, .map⟩
def HUB_WWIN_OPEN : Fld := ⟨R.HUB_WWIN, 0, 12, .rw, .map⟩
def HUB_WWIN_LEN : Fld := ⟨R.HUB_WWIN, 16, 12, .rw, .map⟩
def HUB_SLOT0_POP : Fld := ⟨R.HUB_SLOT0, 0, 32, .rw, .map⟩
def HUB_SLOT1_POP : Fld := ⟨R.HUB_SLOT1, 0, 32, .rw, .map⟩
def HUB_SLOT2_POP : Fld := ⟨R.HUB_SLOT2, 0, 32, .rw, .map⟩
def HUB_SLOT3_POP : Fld := ⟨R.HUB_SLOT3, 0, 32, .rw, .map⟩
def HUB_SLOT4_POP : Fld := ⟨R.HUB_SLOT4, 0, 32, .rw, .map⟩
def HUB_SLOT5_POP : Fld := ⟨R.HUB_SLOT5, 0, 32, .rw, .map⟩
def HUB_STAT_ACC_CLAIM : Fld := ⟨R.HUB_STAT, 0, 16, .ro, .plain⟩
def HUB_STAT_ACC_TWIN : Fld := ⟨R.HUB_STAT, 16, 1, .ro, .plain⟩
def HUB_STAT_U0_OK : Fld := ⟨R.HUB_STAT, 17, 1, .ro, .plain⟩
def HUB_STAT_U1_OK : Fld := ⟨R.HUB_STAT, 18, 1, .ro, .plain⟩
def HUB_STAT_BOTH : Fld := ⟨R.HUB_STAT, 19, 1, .st, .plain⟩
def HUB_ERRCNT0_WGCM : Fld := ⟨R.HUB_ERRCNT0, 0, 16, .rc, .plain⟩
def HUB_ERRCNT0_WCLM : Fld := ⟨R.HUB_ERRCNT0, 16, 16, .rc, .plain⟩
def HUB_ERRCNT1_SETTLE : Fld := ⟨R.HUB_ERRCNT1, 0, 16, .rc, .plain⟩
def HUB_ERRCNT1_MGTO : Fld := ⟨R.HUB_ERRCNT1, 16, 16, .rc, .plain⟩
def HUB_PERR_RTAGF : Fld := ⟨R.HUB_PERR, 0, 16, .rc, .plain⟩
def HUB_PERR_LATE : Fld := ⟨R.HUB_PERR, 16, 16, .rc, .plain⟩
def LNK_ID_DEVID : Fld := ⟨R.LNK_ID, 0, 16, .ro, .plain⟩
def LNK_ID_STEP : Fld := ⟨R.LNK_ID, 16, 12, .ro, .plain⟩
def LNK_CMD_HOLD : Fld := ⟨R.LNK_CMD, 0, 7, .rw, .signed⟩
def LNK_CMD_CLR_SAFE : Fld := ⟨R.LNK_CMD, 8, 1, .w1s, .plain⟩
def LNK_ACC_CLAIM : Fld := ⟨R.LNK_ACC, 0, 16, .ro, .plain⟩
def LNK_ACC_TWIN : Fld := ⟨R.LNK_ACC, 16, 1, .ro, .plain⟩
def LNK_ACC_PLANE : Fld := ⟨R.LNK_ACC, 17, 1, .ro, .plain⟩
def LNK_ACC_VALID : Fld := ⟨R.LNK_ACC, 18, 1, .ro, .plain⟩
def LNK_HSTAT_HCNT : Fld := ⟨R.LNK_HSTAT, 0, 7, .ro, .plain⟩
def LNK_HSTAT_HOLD : Fld := ⟨R.LNK_HSTAT, 8, 1, .ro, .plain⟩
def LNK_HSTAT_SAFE : Fld := ⟨R.LNK_HSTAT, 9, 1, .st, .plain⟩
def LNK_HSTAT_PDIFF : Fld := ⟨R.LNK_HSTAT, 10, 1, .st, .plain⟩
def LNK_HSTAT_EOUT : Fld := ⟨R.LNK_HSTAT, 11, 1, .st, .plain⟩
def LNK_CNT0_WTAGF : Fld := ⟨R.LNK_CNT0, 0, 16, .rc, .plain⟩
def LNK_CNT0_MISS : Fld := ⟨R.LNK_CNT0, 16, 16, .rc, .plain⟩
def LNK_CNT1_LATE : Fld := ⟨R.LNK_CNT1, 0, 16, .rc, .plain⟩
def LNK_CNT1_RANGE : Fld := ⟨R.LNK_CNT1, 16, 16, .rc, .plain⟩
def LNK_CNT2_HOLDEV : Fld := ⟨R.LNK_CNT2, 0, 16, .rc, .plain⟩
def LNK_CNT2_EOUT : Fld := ⟨R.LNK_CNT2, 16, 16, .rc, .plain⟩
def NIB_CTRL_EN : Fld := ⟨R.NIB_CTRL, 0, 1, .rw, .plain⟩
def NIB_CTRL_TYPE : Fld := ⟨R.NIB_CTRL, 1, 1, .rw, .signed⟩
def NIB_CTRL_ZSEL : Fld := ⟨R.NIB_CTRL, 2, 1, .rw, .signed⟩
def NIB_STAT_STATE : Fld := ⟨R.NIB_STAT, 0, 3, .ro, .plain⟩
def NIB_STAT_EN_ACT : Fld := ⟨R.NIB_STAT, 3, 1, .ro, .plain⟩
def NIB_STAT_FROZEN : Fld := ⟨R.NIB_STAT, 4, 1, .ro, .plain⟩
def NIB_STAT_ENREJ : Fld := ⟨R.NIB_STAT, 8, 1, .st, .plain⟩
def NIB_STAT_SUPP : Fld := ⟨R.NIB_STAT, 9, 1, .st, .plain⟩
def NIB_STAT_CCLAMP : Fld := ⟨R.NIB_STAT, 10, 1, .st, .plain⟩
def NIB_DT_DT : Fld := ⟨R.NIB_DT, 0, 13, .rw, .signed⟩
def NIB_MINP_MINP : Fld := ⟨R.NIB_MINP, 0, 13, .rw, .signed⟩
def NIB_CNT0_SUPP : Fld := ⟨R.NIB_CNT0, 0, 16, .rc, .plain⟩
def NIB_CNT0_CCLAMP : Fld := ⟨R.NIB_CNT0, 16, 16, .rc, .plain⟩
def NIB_CNT1_ENREJ : Fld := ⟨R.NIB_CNT1, 0, 8, .rc, .plain⟩
def NIB_CNT1_DELAY : Fld := ⟨R.NIB_CNT1, 8, 8, .rc, .plain⟩
def NIB_LAST_STEP : Fld := ⟨R.NIB_LAST, 0, 17, .ro, .plain⟩
def NIB_LAST_STK : Fld := ⟨R.NIB_LAST, 24, 8, .ro, .plain⟩
def NIB_AUX_AUX0 : Fld := ⟨R.NIB_AUX, 0, 1, .rw, .plain⟩
def NIB_AUX_AUX1 : Fld := ⟨R.NIB_AUX, 1, 1, .rw, .plain⟩
def NIB_AUX_SRC0 : Fld := ⟨R.NIB_AUX, 4, 2, .rw, .plain⟩
def NIB_AUX_SRC1 : Fld := ⟨R.NIB_AUX, 8, 2, .rw, .plain⟩
def NIB_TMR_CFG_MODE : Fld := ⟨R.NIB_TMR_CFG, 0, 2, .rw, .signed⟩
def NIB_TMR_CFG_START : Fld := ⟨R.NIB_TMR_CFG, 4, 2, .rw, .signed⟩
def NIB_TMR_LEN_LEN : Fld := ⟨R.NIB_TMR_LEN, 0, 16, .rw, .signed⟩
def NIB_TMR_STAT_RUN : Fld := ⟨R.NIB_TMR_STAT, 0, 1, .ro, .plain⟩
def PRT_CFG_SAFE : Fld := ⟨R.PRT_CFG, 0, 1, .rw, .signed⟩
def PRT_CFG_BYPMODE : Fld := ⟨R.PRT_CFG, 1, 1, .rw, .signed⟩
def PRT_CFG_AUX0_SAFE : Fld := ⟨R.PRT_CFG, 4, 2, .rw, .signed⟩
def PRT_CFG_AUX1_SAFE : Fld := ⟨R.PRT_CFG, 8, 2, .rw, .signed⟩
def PRT_STAT_TRIP : Fld := ⟨R.PRT_STAT, 0, 4, .st, .plain⟩
def PRT_STAT_OVP : Fld := ⟨R.PRT_STAT, 4, 1, .st, .plain⟩
def PRT_STAT_SIL : Fld := ⟨R.PRT_STAT, 5, 1, .st, .plain⟩
def PRT_STAT_ILOCK : Fld := ⟨R.PRT_STAT, 6, 1, .st, .plain⟩
def PRT_STAT_SAFE_ACT : Fld := ⟨R.PRT_STAT, 8, 1, .ro, .plain⟩
def PRT_STAT_LBLK : Fld := ⟨R.PRT_STAT, 9, 1, .ro, .plain⟩
def PRT_STAT_BYPF : Fld := ⟨R.PRT_STAT, 10, 1, .ro, .plain⟩
def PRT_STAT_TRIP_LIVE : Fld := ⟨R.PRT_STAT, 12, 4, .ro, .plain⟩
def PRT_STAT_OVP_LIVE : Fld := ⟨R.PRT_STAT, 16, 1, .ro, .plain⟩
def PRT_TRIP_ACT : Fld := ⟨R.PRT_TRIP, 0, 2, .rw, .signed⟩
def PRT_TRIP_POL : Fld := ⟨R.PRT_TRIP, 2, 1, .rw, .signed⟩
def PRT_TRIP_FILT : Fld := ⟨R.PRT_TRIP, 3, 4, .rw, .signed⟩
def PRT_TRIP_TMR : Fld := ⟨R.PRT_TRIP, 8, 2, .rw, .signed⟩
def PRT_TRIP_BLK_EN : Fld := ⟨R.PRT_TRIP, 10, 1, .rw, .signed⟩
def PRT_TRIP_URG : Fld := ⟨R.PRT_TRIP, 11, 1, .rw, .plain⟩
def PRT_TTS_TICK : Fld := ⟨R.PRT_TTS, 0, 24, .ro, .plain⟩
def PRT_TTS_STK : Fld := ⟨R.PRT_TTS, 24, 8, .ro, .plain⟩
def PRT_OVP_THR : Fld := ⟨R.PRT_OVP, 0, 8, .rw, .signed⟩
def PRT_OVP_HYST : Fld := ⟨R.PRT_OVP, 8, 4, .rw, .signed⟩
def PRT_OVP_ACT : Fld := ⟨R.PRT_OVP, 12, 1, .rw, .signed⟩
def PRT_SIL_TO : Fld := ⟨R.PRT_SIL, 0, 10, .rw, .signed⟩
def PRT_BYP_BYPW : Fld := ⟨R.PRT_BYP, 0, 16, .rw, .signed⟩
def PRT_BYP_FIRED : Fld := ⟨R.PRT_BYP, 16, 1, .ro, .plain⟩
def PRT_BYP_KEPT : Fld := ⟨R.PRT_BYP, 17, 1, .ro, .plain⟩
def PRT_BYP_REARM : Fld := ⟨R.PRT_BYP, 24, 1, .w1s, .signed⟩
def PRT_ERRCNT_CLRREJ : Fld := ⟨R.PRT_ERRCNT, 0, 16, .rc, .plain⟩
def PRT_ERRCNT_WDEN : Fld := ⟨R.PRT_ERRCNT, 16, 16, .rc, .plain⟩
def PRT_CNT_TRIPS : Fld := ⟨R.PRT_CNT, 0, 16, .rc, .plain⟩
def PRT_CNT_ACTS : Fld := ⟨R.PRT_CNT, 16, 16, .rc, .plain⟩
def AQ_CTRL_EN : Fld := ⟨R.AQ_CTRL, 0, 1, .rw, .plain⟩
def CAQ_CTRL_EN : Fld := ⟨R.CAQ_CTRL, 0, 1, .rw, .plain⟩
def AQ_STAT_RUN : Fld := ⟨R.AQ_STAT, 0, 1, .ro, .plain⟩
def AQ_STAT_SLICE_OUT : Fld := ⟨R.AQ_STAT, 1, 4, .ro, .plain⟩
def AQ_STAT_DRIFT : Fld := ⟨R.AQ_STAT, 8, 1, .st, .plain⟩
def AQ_STAT_HARD : Fld := ⟨R.AQ_STAT, 9, 1, .st, .plain⟩
def AQ_STAT_NOSPARE : Fld := ⟨R.AQ_STAT, 10, 1, .st, .plain⟩
def AQ_STAT_SINGLE : Fld := ⟨R.AQ_STAT, 11, 1, .ro, .plain⟩
def CAQ_STAT_RUN : Fld := ⟨R.CAQ_STAT, 0, 1, .ro, .plain⟩
def CAQ_STAT_SLICE_OUT : Fld := ⟨R.CAQ_STAT, 1, 4, .ro, .plain⟩
def CAQ_STAT_DRIFT : Fld := ⟨R.CAQ_STAT, 8, 1, .st, .plain⟩
def CAQ_STAT_HARD : Fld := ⟨R.CAQ_STAT, 9, 1, .st, .plain⟩
def CAQ_STAT_NOSPARE : Fld := ⟨R.CAQ_STAT, 10, 1, .st, .plain⟩
def CAQ_STAT_SINGLE : Fld := ⟨R.CAQ_STAT, 11, 1, .ro, .plain⟩
def AQ_CFG_QSETTLE : Fld := ⟨R.AQ_CFG, 0, 8, .rw, .signed⟩
def AQ_CFG_TC : Fld := ⟨R.AQ_CFG, 8, 5, .rw, .signed⟩
def CAQ_CFG_QSETTLE : Fld := ⟨R.CAQ_CFG, 0, 8, .rw, .signed⟩
def CAQ_CFG_TC : Fld := ⟨R.CAQ_CFG, 8, 5, .rw, .signed⟩
def AQ_SEQCTL_LAST : Fld := ⟨R.AQ_SEQCTL, 0, 5, .rw, .signed⟩
def AQ_SEQCTL_LOOP : Fld := ⟨R.AQ_SEQCTL, 8, 5, .rw, .signed⟩
def CAQ_SEQCTL_LAST : Fld := ⟨R.CAQ_SEQCTL, 0, 5, .rw, .signed⟩
def CAQ_SEQCTL_LOOP : Fld := ⟨R.CAQ_SEQCTL, 8, 5, .rw, .signed⟩
def AQ_MAP_VON_E : Fld := ⟨R.AQ_MAP, 0, 5, .rw, .signed⟩
def AQ_MAP_VON_EN : Fld := ⟨R.AQ_MAP, 5, 1, .rw, .signed⟩
def AQ_MAP_VONB_E : Fld := ⟨R.AQ_MAP, 8, 5, .rw, .signed⟩
def AQ_MAP_VONB_EN : Fld := ⟨R.AQ_MAP, 13, 1, .rw, .signed⟩
def AQ_MAP_TEMP_E : Fld := ⟨R.AQ_MAP, 16, 5, .rw, .signed⟩
def AQ_MAP_TEMP_EN : Fld := ⟨R.AQ_MAP, 21, 1, .rw, .signed⟩
def AQ_MAP_AUX_E : Fld := ⟨R.AQ_MAP, 24, 5, .rw, .signed⟩
def AQ_MAP_AUX_EN : Fld := ⟨R.AQ_MAP, 29, 1, .rw, .signed⟩
def CAQ_MAP_VON_E : Fld := ⟨R.CAQ_MAP, 0, 5, .rw, .signed⟩
def CAQ_MAP_VON_EN : Fld := ⟨R.CAQ_MAP, 5, 1, .rw, .signed⟩
def CAQ_MAP_VONB_E : Fld := ⟨R.CAQ_MAP, 8, 5, .rw, .signed⟩
def CAQ_MAP_VONB_EN : Fld := ⟨R.CAQ_MAP, 13, 1, .rw, .signed⟩
def CAQ_MAP_TEMP_E : Fld := ⟨R.CAQ_MAP, 16, 5, .rw, .signed⟩
def CAQ_MAP_TEMP_EN : Fld := ⟨R.CAQ_MAP, 21, 1, .rw, .signed⟩
def CAQ_MAP_AUX_E : Fld := ⟨R.CAQ_MAP, 24, 5, .rw, .signed⟩
def CAQ_MAP_AUX_EN : Fld := ⟨R.CAQ_MAP, 29, 1, .rw, .signed⟩
def AQ_URG_INPUT : Fld := ⟨R.AQ_URG, 0, 5, .rw, .plain⟩
def AQ_URG_REQ : Fld := ⟨R.AQ_URG, 8, 1, .w1s, .plain⟩
def AQ_TURG_IN0 : Fld := ⟨R.AQ_TURG, 0, 5, .rw, .plain⟩
def AQ_TURG_IN1 : Fld := ⟨R.AQ_TURG, 8, 5, .rw, .plain⟩
def AQ_TURG_IN2 : Fld := ⟨R.AQ_TURG, 16, 5, .rw, .plain⟩
def AQ_TURG_IN3 : Fld := ⟨R.AQ_TURG, 24, 5, .rw, .plain⟩
def CAQ_URG_INPUT : Fld := ⟨R.CAQ_URG, 0, 5, .rw, .plain⟩
def CAQ_URG_REQ : Fld := ⟨R.CAQ_URG, 8, 1, .w1s, .plain⟩
def CAQ_TURG_IN0 : Fld := ⟨R.CAQ_TURG, 0, 5, .rw, .plain⟩
def CAQ_TURG_IN1 : Fld := ⟨R.CAQ_TURG, 8, 5, .rw, .plain⟩
def CAQ_TURG_IN2 : Fld := ⟨R.CAQ_TURG, 16, 5, .rw, .plain⟩
def CAQ_TURG_IN3 : Fld := ⟨R.CAQ_TURG, 24, 5, .rw, .plain⟩
def AQ_URES0_VALUE : Fld := ⟨R.AQ_URES0, 0, 14, .ro, .plain⟩
def AQ_URES0_VALID : Fld := ⟨R.AQ_URES0, 14, 1, .ro, .plain⟩
def AQ_URES0_SAT : Fld := ⟨R.AQ_URES0, 15, 1, .ro, .plain⟩
def AQ_URES0_SRC : Fld := ⟨R.AQ_URES0, 16, 3, .ro, .plain⟩
def AQ_URES0_SLOT : Fld := ⟨R.AQ_URES0, 20, 12, .ro, .plain⟩
def AQ_URES1_STK : Fld := ⟨R.AQ_URES1, 0, 24, .ro, .plain⟩
def CAQ_URES0_VALUE : Fld := ⟨R.CAQ_URES0, 0, 14, .ro, .plain⟩
def CAQ_URES0_VALID : Fld := ⟨R.CAQ_URES0, 14, 1, .ro, .plain⟩
def CAQ_URES0_SAT : Fld := ⟨R.CAQ_URES0, 15, 1, .ro, .plain⟩
def CAQ_URES0_SRC : Fld := ⟨R.CAQ_URES0, 16, 3, .ro, .plain⟩
def CAQ_URES0_SLOT : Fld := ⟨R.CAQ_URES0, 20, 12, .ro, .plain⟩
def CAQ_URES1_STK : Fld := ⟨R.CAQ_URES1, 0, 24, .ro, .plain⟩
def AQ_CNT_UDROP : Fld := ⟨R.AQ_CNT, 0, 16, .rc, .plain⟩
def AQ_CNT_CUT : Fld := ⟨R.AQ_CNT, 16, 16, .rc, .plain⟩
def AQ_CNT1_NOIDLE : Fld := ⟨R.AQ_CNT1, 0, 8, .rc, .plain⟩
def AQ_CNT1_CLRREJ : Fld := ⟨R.AQ_CNT1, 8, 8, .rc, .plain⟩
def AQ_CNT1_URGCNT : Fld := ⟨R.AQ_CNT1, 16, 16, .rc, .plain⟩
def CAQ_CNT_UDROP : Fld := ⟨R.CAQ_CNT, 0, 16, .rc, .plain⟩
def CAQ_CNT_CUT : Fld := ⟨R.CAQ_CNT, 16, 16, .rc, .plain⟩
def CAQ_CNT1_NOIDLE : Fld := ⟨R.CAQ_CNT1, 0, 8, .rc, .plain⟩
def CAQ_CNT1_CLRREJ : Fld := ⟨R.CAQ_CNT1, 8, 8, .rc, .plain⟩
def CAQ_CNT1_URGCNT : Fld := ⟨R.CAQ_CNT1, 16, 16, .rc, .plain⟩
def AQ_XCHK_DRIFT : Fld := ⟨R.AQ_XCHK, 0, 24, .ro, .plain⟩
def AQ_XLIM_LIM : Fld := ⟨R.AQ_XLIM, 0, 16, .rw, .signed⟩
def AQ_XLIM_HARD : Fld := ⟨R.AQ_XLIM, 16, 16, .rw, .signed⟩
def AQ_REFCTL_SEL : Fld := ⟨R.AQ_REFCTL, 0, 1, .rw, .plain⟩
def AQ_REFCTL_XOFF : Fld := ⟨R.AQ_REFCTL, 1, 1, .rw, .plain⟩
def CAQ_XCHK_DRIFT : Fld := ⟨R.CAQ_XCHK, 0, 24, .ro, .plain⟩
def CAQ_XLIM_LIM : Fld := ⟨R.CAQ_XLIM, 0, 16, .rw, .signed⟩
def CAQ_XLIM_HARD : Fld := ⟨R.CAQ_XLIM, 16, 16, .rw, .signed⟩
def CAQ_REFCTL_SEL : Fld := ⟨R.CAQ_REFCTL, 0, 1, .rw, .plain⟩
def CAQ_REFCTL_XOFF : Fld := ⟨R.CAQ_REFCTL, 1, 1, .rw, .plain⟩
def AQ_CAL_RETIRED : Fld := ⟨R.AQ_CAL, 4, 9, .ro, .plain⟩
def AQ_CAL_ROT : Fld := ⟨R.AQ_CAL, 16, 16, .ro, .plain⟩
def CAQ_CAL_RETIRED : Fld := ⟨R.CAQ_CAL, 4, 9, .ro, .plain⟩
def CAQ_CAL_ROT : Fld := ⟨R.CAQ_CAL, 16, 16, .ro, .plain⟩
def AQ_SEQ_ENTRY : Fld := ⟨R.AQ_SEQ, 0, 32, .rw, .signed⟩
def CAQ_SEQ_ENTRY : Fld := ⟨R.CAQ_SEQ, 0, 32, .rw, .signed⟩
def AQ_RES_VALUE : Fld := ⟨R.AQ_RES, 0, 14, .ro, .plain⟩
def AQ_RES_VALID : Fld := ⟨R.AQ_RES, 14, 1, .ro, .plain⟩
def AQ_RES_SAT : Fld := ⟨R.AQ_RES, 15, 1, .ro, .plain⟩
def AQ_RES_SLOT : Fld := ⟨R.AQ_RES, 16, 12, .ro, .plain⟩
def AQ_RES_STK : Fld := ⟨R.AQ_RES, 28, 4, .ro, .plain⟩
def CAQ_RES_VALUE : Fld := ⟨R.CAQ_RES, 0, 14, .ro, .plain⟩
def CAQ_RES_VALID : Fld := ⟨R.CAQ_RES, 14, 1, .ro, .plain⟩
def CAQ_RES_SAT : Fld := ⟨R.CAQ_RES, 15, 1, .ro, .plain⟩
def CAQ_RES_SLOT : Fld := ⟨R.CAQ_RES, 16, 12, .ro, .plain⟩
def CAQ_RES_STK : Fld := ⟨R.CAQ_RES, 28, 4, .ro, .plain⟩
def AQ_GCTRL_SW_CANCEL : Fld := ⟨R.AQ_GCTRL, 0, 1, .w1s, .plain⟩
def AQ_STATUS_SW_PEND : Fld := ⟨R.AQ_STATUS, 0, 1, .ro, .plain⟩
def AQ_STATUS_SW_MISMATCH : Fld := ⟨R.AQ_STATUS, 8, 1, .st, .plain⟩
def AQ_STATUS_SW_LATE : Fld := ⟨R.AQ_STATUS, 9, 1, .st, .plain⟩
def AQ_SW_STROKE0_TGT_LO : Fld := ⟨R.AQ_SW_STROKE0, 0, 32, .rw, .plain⟩
def AQ_SW_STROKE1_TGT_HI : Fld := ⟨R.AQ_SW_STROKE1, 0, 16, .rw, .plain⟩
def AQ_ARBCMD_ADDR : Fld := ⟨R.AQ_ARBCMD, 0, 13, .rw, .staged⟩
def AQ_ARBCMD_GO : Fld := ⟨R.AQ_ARBCMD, 16, 1, .w1s, .plain⟩
def AQ_ARBD_D : Fld := ⟨R.AQ_ARBD, 0, 24, .rw, .staged⟩
def AQ_ARB_CFG_STREAM : Fld := ⟨R.AQ_ARB_CFG, 0, 8, .rw, .bundle⟩
def AQ_ARB_CFG_CH : Fld := ⟨R.AQ_ARB_CFG, 8, 4, .rw, .bundle⟩
def AQ_ARB_CFG_ARB_EN : Fld := ⟨R.AQ_ARB_CFG, 12, 1, .rw, .bundle⟩
def AQ_ARB_KV_KV : Fld := ⟨R.AQ_ARB_KV, 0, 32, .rw, .bundle⟩
def AQ_ARB_LIM_ACC_LOG : Fld := ⟨R.AQ_ARB_LIM, 0, 5, .rw, .bundle⟩
def AQ_ARB_LIM_TO_LOG : Fld := ⟨R.AQ_ARB_LIM, 16, 5, .rw, .bundle⟩
def AQ_ARB_STAT_BUSY : Fld := ⟨R.AQ_ARB_STAT, 0, 1, .ro, .plain⟩
def AQ_ARB_STAT_OUTCOME : Fld := ⟨R.AQ_ARB_STAT, 1, 2, .ro, .plain⟩
def AQ_ARB_STAT_CELL : Fld := ⟨R.AQ_ARB_STAT, 16, 13, .ro, .plain⟩
def AQ_ARB_N0_N0 : Fld := ⟨R.AQ_ARB_N0, 0, 32, .ro, .plain⟩
def AQ_ARB_N1_N1 : Fld := ⟨R.AQ_ARB_N1, 0, 32, .ro, .plain⟩
def AQ_ARB_U_U : Fld := ⟨R.AQ_ARB_U, 0, 32, .ro, .plain⟩
def AQ_ARB_CNT_SKIP : Fld := ⟨R.AQ_ARB_CNT, 0, 16, .rc, .plain⟩
def AQ_ARB_CNT_REJ : Fld := ⟨R.AQ_ARB_CNT, 16, 16, .rc, .plain⟩
def RSV_CFG_AUTO : Fld := ⟨R.RSV_CFG, 0, 1, .rw, .signed⟩
def RSV_CFG_BO_BYP : Fld := ⟨R.RSV_CFG, 1, 1, .rw, .signed⟩
def RSV_CFG_HZN : Fld := ⟨R.RSV_CFG, 4, 4, .rw, .signed⟩
def RSV_CAP_CAP : Fld := ⟨R.RSV_CAP, 0, 16, .rw, .signed⟩
def RSV_SNS_DIV : Fld := ⟨R.RSV_SNS, 0, 16, .rw, .signed⟩
def RSV_SNS_FLOOR : Fld := ⟨R.RSV_SNS, 16, 16, .rw, .signed⟩
def RSV_BYPE_BYPE : Fld := ⟨R.RSV_BYPE, 0, 20, .rw, .signed⟩
def RSV_HYST_HYST : Fld := ⟨R.RSV_HYST, 0, 20, .rw, .signed⟩
def RSV_THR_THR : Fld := ⟨R.RSV_THR, 0, 20, .rw, .signed⟩
def RSV_COST_COST : Fld := ⟨R.RSV_COST, 0, 16, .rw, .signed⟩
def RSV_LEVEL_E : Fld := ⟨R.RSV_LEVEL, 0, 20, .ro, .plain⟩
def RSV_NET_NET : Fld := ⟨R.RSV_NET, 0, 32, .ro, .plain⟩
def RSV_STAT_ADM : Fld := ⟨R.RSV_STAT, 0, 5, .ro, .plain⟩
def RSV_STAT_STAGE : Fld := ⟨R.RSV_STAT, 8, 3, .ro, .plain⟩
def RSV_STAT_RESV_HIT : Fld := ⟨R.RSV_STAT, 12, 1, .st, .plain⟩
def RSV_STAT_NIBOFF : Fld := ⟨R.RSV_STAT, 13, 1, .ro, .plain⟩
def RSV_STAT_BORST : Fld := ⟨R.RSV_STAT, 14, 1, .st, .plain⟩
def RSV_STAT_KLOST : Fld := ⟨R.RSV_STAT, 15, 1, .st, .plain⟩
def RSV_CNT_DEFER : Fld := ⟨R.RSV_CNT, 0, 16, .rc, .plain⟩
def RSV_CNT_REFUSE : Fld := ⟨R.RSV_CNT, 16, 8, .rc, .plain⟩
def RSV_CNT_BORST : Fld := ⟨R.RSV_CNT, 24, 8, .rc, .plain⟩
def RSV_KCTR_CTR : Fld := ⟨R.RSV_KCTR, 0, 32, .ro, .plain⟩
def RSV_KLOGP_NEXT : Fld := ⟨R.RSV_KLOGP, 0, 4, .ro, .plain⟩
def RSV_KLOGP_TOTAL : Fld := ⟨R.RSV_KLOGP, 8, 8, .ro, .plain⟩
def RSV_FWCTL_ERASE : Fld := ⟨R.RSV_FWCTL, 0, 1, .w1s, .plain⟩
def RSV_FWCTL_VERIFY : Fld := ⟨R.RSV_FWCTL, 1, 1, .w1s, .plain⟩
def RSV_FWCTL_ACTIVATE : Fld := ⟨R.RSV_FWCTL, 2, 1, .w1s, .plain⟩
def RSV_FWCTL_CONFIRM : Fld := ⟨R.RSV_FWCTL, 3, 1, .w1s, .plain⟩
def RSV_FWCTL_TRIAL : Fld := ⟨R.RSV_FWCTL, 8, 4, .rw, .signed⟩
def RSV_FWSTAT_ACTIVE : Fld := ⟨R.RSV_FWSTAT, 0, 1, .ro, .plain⟩
def RSV_FWSTAT_TRIAL_RUN : Fld := ⟨R.RSV_FWSTAT, 1, 1, .ro, .plain⟩
def RSV_FWSTAT_REVERTED : Fld := ⟨R.RSV_FWSTAT, 2, 1, .st, .plain⟩
def RSV_FWSTAT_VERIFIED : Fld := ⟨R.RSV_FWSTAT, 3, 1, .ro, .plain⟩
def RSV_FWSTAT_ERASING : Fld := ⟨R.RSV_FWSTAT, 4, 1, .ro, .plain⟩
def RSV_FWSTAT_ERASED : Fld := ⟨R.RSV_FWSTAT, 5, 1, .ro, .plain⟩
def RSV_FWSTAT_NEXT : Fld := ⟨R.RSV_FWSTAT, 16, 16, .ro, .plain⟩
def RSV_KLOG_LO_CTR : Fld := ⟨R.RSV_KLOG_LO, 0, 32, .ro, .plain⟩
def RSV_KLOG_HI_CAUSE : Fld := ⟨R.RSV_KLOG_HI, 0, 8, .ro, .plain⟩
def RSV_LFRF0_WORD : Fld := ⟨R.RSV_LFRF0, 0, 32, .ro, .plain⟩
def RSV_LFRF1_WORD : Fld := ⟨R.RSV_LFRF1, 0, 32, .ro, .plain⟩
def RSV_LFRF2_WORD : Fld := ⟨R.RSV_LFRF2, 0, 32, .ro, .plain⟩
def RSV_LFRF3_WORD : Fld := ⟨R.RSV_LFRF3, 0, 32, .ro, .plain⟩
def RSV_LFRF4_WORD : Fld := ⟨R.RSV_LFRF4, 0, 32, .ro, .plain⟩
def RSV_LFRF5_WORD : Fld := ⟨R.RSV_LFRF5, 0, 32, .ro, .plain⟩
def RSV_LFRF6_WORD : Fld := ⟨R.RSV_LFRF6, 0, 32, .ro, .plain⟩
def RSV_LFRF7_WORD : Fld := ⟨R.RSV_LFRF7, 0, 32, .ro, .plain⟩
def RSV_LFRL0_WORD : Fld := ⟨R.RSV_LFRL0, 0, 32, .ro, .plain⟩
def RSV_LFRL1_WORD : Fld := ⟨R.RSV_LFRL1, 0, 32, .ro, .plain⟩
def RSV_LFRL2_WORD : Fld := ⟨R.RSV_LFRL2, 0, 32, .ro, .plain⟩
def RSV_LFRL3_WORD : Fld := ⟨R.RSV_LFRL3, 0, 32, .ro, .plain⟩
def RSV_LFRL4_WORD : Fld := ⟨R.RSV_LFRL4, 0, 32, .ro, .plain⟩
def RSV_LFRL5_WORD : Fld := ⟨R.RSV_LFRL5, 0, 32, .ro, .plain⟩
def RSV_LFRL6_WORD : Fld := ⟨R.RSV_LFRL6, 0, 32, .ro, .plain⟩
def RSV_LFRL7_WORD : Fld := ⟨R.RSV_LFRL7, 0, 32, .ro, .plain⟩
def RSV_LFRCLR_CLR : Fld := ⟨R.RSV_LFRCLR, 0, 1, .w1s, .plain⟩
def DUC_CTRL_EN : Fld := ⟨R.DUC_CTRL, 0, 1, .rw, .plain⟩
def DUC_STATUS_RUN : Fld := ⟨R.DUC_STATUS, 0, 1, .ro, .plain⟩
def DUC_STATUS_OVR : Fld := ⟨R.DUC_STATUS, 8, 1, .st, .plain⟩
def DUC_STATUS_LATE : Fld := ⟨R.DUC_STATUS, 9, 1, .st, .plain⟩
def DUC_STATUS_BUDGET : Fld := ⟨R.DUC_STATUS, 10, 1, .st, .plain⟩
def DUC_STATUS_LOCKTO : Fld := ⟨R.DUC_STATUS, 11, 1, .st, .plain⟩
def DUC_STATUS_BADCFG : Fld := ⟨R.DUC_STATUS, 12, 1, .st, .plain⟩
def DUC_STATUS_CTXERR : Fld := ⟨R.DUC_STATUS, 13, 1, .st, .plain⟩
def DUC_CTXBASE_OFS : Fld := ⟨R.DUC_CTXBASE, 0, 32, .rw, .plain⟩
def DUC_CORE_EN : Fld := ⟨R.DUC_CORE, 0, 16, .rw, .plain⟩
def DUC_CORESTAT_FENCED : Fld := ⟨R.DUC_CORESTAT, 0, 16, .ro, .plain⟩
def DUC_CORESTAT_TEST : Fld := ⟨R.DUC_CORESTAT, 16, 16, .ro, .plain⟩
def DUC_CORERET_RET : Fld := ⟨R.DUC_CORERET, 0, 16, .w1s, .plain⟩
def DUC_TCMD_TASK : Fld := ⟨R.DUC_TCMD, 0, 8, .wo, .plain⟩
def DUC_TCMD_ACT : Fld := ⟨R.DUC_TCMD, 8, 3, .wo, .plain⟩
def DUC_TCRES_STATUS : Fld := ⟨R.DUC_TCRES, 0, 2, .ro, .plain⟩
def DUC_TCRES_BADCFG : Fld := ⟨R.DUC_TCRES, 8, 1, .ro, .plain⟩
def DUC_RDY_LISTS : Fld := ⟨R.DUC_RDY, 0, 16, .ro, .plain⟩
def DUC_ERRCNT_OVR : Fld := ⟨R.DUC_ERRCNT, 0, 8, .rc, .plain⟩
def DUC_ERRCNT_LATE : Fld := ⟨R.DUC_ERRCNT, 8, 8, .rc, .plain⟩
def DUC_ERRCNT_WREJ : Fld := ⟨R.DUC_ERRCNT, 16, 8, .rc, .plain⟩
def DUC_ERRCNT_CTXERR : Fld := ⟨R.DUC_ERRCNT, 24, 8, .rc, .plain⟩
def DUC_LOCK_HOLDER : Fld := ⟨R.DUC_LOCK, 0, 8, .ro, .plain⟩
def DUC_LOCK_HELD : Fld := ⟨R.DUC_LOCK, 8, 1, .ro, .plain⟩
def DUC_LOCK_ABAND : Fld := ⟨R.DUC_LOCK, 9, 1, .ro, .plain⟩
def DUC_LOCK_WAITERS : Fld := ⟨R.DUC_LOCK, 16, 8, .ro, .plain⟩
def DUC_TASK_ENTRY_PC : Fld := ⟨R.DUC_TASK_ENTRY, 0, 32, .rw, .plain⟩
def DUC_TASK_CFG_PRI : Fld := ⟨R.DUC_TASK_CFG, 0, 4, .rw, .plain⟩
def DUC_TASK_CFG_PER_EN : Fld := ⟨R.DUC_TASK_CFG, 8, 1, .rw, .plain⟩
def DUC_TASK_CFG_PER_SRC : Fld := ⟨R.DUC_TASK_CFG, 9, 5, .rw, .plain⟩
def DUC_TASK_CFG_FPOL : Fld := ⟨R.DUC_TASK_CFG, 16, 2, .rw, .plain⟩
def DUC_TASK_CFG_OVR_ACT : Fld := ⟨R.DUC_TASK_CFG, 18, 1, .rw, .plain⟩
def DUC_TASK_CFG_RESTMAX : Fld := ⟨R.DUC_TASK_CFG, 20, 4, .rw, .plain⟩
def DUC_TASK_AFF_MASK : Fld := ⟨R.DUC_TASK_AFF, 0, 16, .rw, .plain⟩
def DUC_TASK_PER_PERIOD : Fld := ⟨R.DUC_TASK_PER, 0, 16, .rw, .plain⟩
def DUC_TASK_PER_PHASE : Fld := ⟨R.DUC_TASK_PER, 16, 16, .rw, .plain⟩
def DUC_TASK_ARG_ARG : Fld := ⟨R.DUC_TASK_ARG, 0, 32, .rw, .plain⟩
def DUC_TASK_RGN_OFS : Fld := ⟨R.DUC_TASK_RGN, 0, 32, .rw, .plain⟩
def DUC_TASK_LIM_BUDGET : Fld := ⟨R.DUC_TASK_LIM, 0, 16, .rw, .plain⟩
def DUC_TASK_LIM_LATE : Fld := ⟨R.DUC_TASK_LIM, 16, 16, .rw, .plain⟩
def DUC_TASK_LOCKTO_LOCKTO : Fld := ⟨R.DUC_TASK_LOCKTO, 0, 16, .rw, .plain⟩
def DUC_TASK_STAT_STATE : Fld := ⟨R.DUC_TASK_STAT, 0, 4, .ro, .plain⟩
def DUC_TASK_STAT_EPRI : Fld := ⟨R.DUC_TASK_STAT, 4, 4, .ro, .plain⟩
def DUC_TASK_STAT_LAST : Fld := ⟨R.DUC_TASK_STAT, 8, 4, .ro, .plain⟩
def DUC_TASK_STAT_FLT : Fld := ⟨R.DUC_TASK_STAT, 12, 1, .st, .plain⟩
def DUC_TASK_STAT_OVR : Fld := ⟨R.DUC_TASK_STAT, 13, 1, .st, .plain⟩
def DUC_TASK_STAT_LATE : Fld := ⟨R.DUC_TASK_STAT, 14, 1, .st, .plain⟩
def DUC_TASK_STAT_BUDGET : Fld := ⟨R.DUC_TASK_STAT, 15, 1, .st, .plain⟩
def DUC_TASK_STAT_LOCKTO : Fld := ⟨R.DUC_TASK_STAT, 16, 1, .st, .plain⟩
def DUC_TASK_STAT_XCAUSE : Fld := ⟨R.DUC_TASK_STAT, 20, 8, .ro, .plain⟩
def DUC_TASK_STAT_RESTCNT : Fld := ⟨R.DUC_TASK_STAT, 28, 4, .ro, .plain⟩
def DUC_TASK_CNT0_POSTMISS : Fld := ⟨R.DUC_TASK_CNT0, 0, 16, .rc, .plain⟩
def DUC_TASK_CNT0_LATECNT : Fld := ⟨R.DUC_TASK_CNT0, 16, 16, .rc, .plain⟩
def DUC_TASK_CNT1_FAULTS : Fld := ⟨R.DUC_TASK_CNT1, 0, 16, .rc, .plain⟩
def DUC_TASK_CNT1_BUDCNT : Fld := ⟨R.DUC_TASK_CNT1, 16, 16, .rc, .plain⟩
def DUC_TASK_WAKE_WAKE : Fld := ⟨R.DUC_TASK_WAKE, 0, 32, .ro, .plain⟩
def INK_CTRL_LOCK : Fld := ⟨R.INK_CTRL, 0, 1, .w1s, .plain⟩
def INK_CTRL_SCRUB_EN : Fld := ⟨R.INK_CTRL, 1, 1, .rw, .plain⟩
def INK_CTRL_SW_CANCEL : Fld := ⟨R.INK_CTRL, 2, 1, .w1s, .plain⟩
def INK_STATUS_LOCKED : Fld := ⟨R.INK_STATUS, 0, 1, .ro, .plain⟩
def INK_STATUS_SW_PEND : Fld := ⟨R.INK_STATUS, 1, 1, .ro, .plain⟩
def INK_STATUS_SPARING : Fld := ⟨R.INK_STATUS, 2, 1, .ro, .plain⟩
def INK_STATUS_SPARE_USED : Fld := ⟨R.INK_STATUS, 3, 1, .ro, .plain⟩
def INK_STATUS_SW_MISMATCH : Fld := ⟨R.INK_STATUS, 8, 1, .st, .plain⟩
def INK_STATUS_SW_LATE : Fld := ⟨R.INK_STATUS, 9, 1, .st, .plain⟩
def INK_STATUS_LAYOUT_BAD : Fld := ⟨R.INK_STATUS, 10, 1, .st, .plain⟩
def INK_STATUS_RESIZE_REJ : Fld := ⟨R.INK_STATUS, 11, 1, .st, .plain⟩
def INK_STATUS_UE : Fld := ⟨R.INK_STATUS, 12, 1, .st, .plain⟩
def INK_STATUS_GUARD : Fld := ⟨R.INK_STATUS, 13, 1, .st, .plain⟩
def INK_STATUS_WALKF : Fld := ⟨R.INK_STATUS, 14, 1, .st, .plain⟩
def INK_STATUS_NOSPARE : Fld := ⟨R.INK_STATUS, 15, 1, .st, .plain⟩
def INK_SW_STROKE0_TGT_LO : Fld := ⟨R.INK_SW_STROKE0, 0, 32, .rw, .plain⟩
def INK_SW_STROKE1_TGT_HI : Fld := ⟨R.INK_SW_STROKE1, 0, 16, .rw, .plain⟩
def INK_RESIZE_PART : Fld := ⟨R.INK_RESIZE, 0, 4, .wo, .plain⟩
def INK_RESIZE_SIZE : Fld := ⟨R.INK_RESIZE, 16, 11, .wo, .plain⟩
def INK_QCNT_RSZ : Fld := ⟨R.INK_QCNT, 0, 5, .ro, .plain⟩
def INK_SCRUB_RATE : Fld := ⟨R.INK_SCRUB, 0, 7, .rw, .plain⟩
def INK_SCRUB_PASSES : Fld := ⟨R.INK_SCRUB, 16, 16, .ro, .plain⟩
def INK_SPARE_SBANK : Fld := ⟨R.INK_SPARE, 0, 6, .ro, .plain⟩
def INK_SPARE_RBANK : Fld := ⟨R.INK_SPARE, 8, 6, .rw, .plain⟩
def INK_SPARE_REQ : Fld := ⟨R.INK_SPARE, 15, 1, .w1s, .plain⟩
def INK_SPARE_THR : Fld := ⟨R.INK_SPARE, 16, 8, .rw, .plain⟩
def INK_SPARE_PROG : Fld := ⟨R.INK_SPARE, 24, 8, .ro, .plain⟩
def INK_ERRCNT_CE : Fld := ⟨R.INK_ERRCNT, 0, 16, .rc, .plain⟩
def INK_ERRCNT_UE : Fld := ⟨R.INK_ERRCNT, 16, 8, .rc, .plain⟩
def INK_ERRCNT_GUARD : Fld := ⟨R.INK_ERRCNT, 24, 8, .rc, .plain⟩
def INK_ERRCNT1_WALKF : Fld := ⟨R.INK_ERRCNT1, 0, 16, .rc, .plain⟩
def INK_ERRCNT1_RSZREJ : Fld := ⟨R.INK_ERRCNT1, 16, 8, .rc, .plain⟩
def INK_UEADDR_ADDR : Fld := ⟨R.INK_UEADDR, 0, 32, .ro, .plain⟩
def INK_UEINFO_BANK : Fld := ⟨R.INK_UEINFO, 0, 6, .ro, .plain⟩
def INK_UEINFO_CLASS : Fld := ⟨R.INK_UEINFO, 8, 3, .ro, .plain⟩
def INK_WALKADDR_ADDR : Fld := ⟨R.INK_WALKADDR, 0, 32, .ro, .plain⟩
def INK_WALKINFO_CORE : Fld := ⟨R.INK_WALKINFO, 0, 4, .ro, .plain⟩
def INK_WALKINFO_CODE : Fld := ⟨R.INK_WALKINFO, 4, 3, .ro, .plain⟩
def INK_WALKINFO_LEVEL : Fld := ⟨R.INK_WALKINFO, 8, 1, .ro, .plain⟩
def INK_RINV_ALL : Fld := ⟨R.INK_RINV, 0, 1, .wo, .plain⟩
def INK_RINV_RGN : Fld := ⟨R.INK_RINV, 12, 20, .wo, .plain⟩
def INK_CLS_MIN : Fld := ⟨R.INK_CLS, 0, 6, .rw, .bundle⟩
def INK_BANK_CE : Fld := ⟨R.INK_BANK, 0, 16, .rc, .plain⟩
def INK_BANK_UE : Fld := ⟨R.INK_BANK, 16, 8, .rc, .plain⟩
def INK_BANK_SPARED : Fld := ⟨R.INK_BANK, 24, 1, .ro, .plain⟩
def INK_PART_BASE_GRAN : Fld := ⟨R.INK_PART_BASE, 0, 11, .rw, .bundle⟩
def INK_PART_SIZE_GRAN : Fld := ⟨R.INK_PART_SIZE, 0, 11, .rw, .bundle⟩
def INK_PART_MIN_GRAN : Fld := ⟨R.INK_PART_MIN, 0, 11, .rw, .bundle⟩
def INK_PART_STAT_USED : Fld := ⟨R.INK_PART_STAT, 0, 11, .ro, .plain⟩
def INK_PART_STAT_VALID : Fld := ⟨R.INK_PART_STAT, 16, 1, .ro, .plain⟩
def TWN_CTRL_HANDOVER : Fld := ⟨R.TWN_CTRL, 0, 1, .w1s, .staged⟩
def TWN_CTRL_SW_CANCEL : Fld := ⟨R.TWN_CTRL, 1, 1, .w1s, .plain⟩
def TWN_CTRL_JOIN : Fld := ⟨R.TWN_CTRL, 2, 1, .w1s, .plain⟩
def TWN_CTRL_UPD_OK : Fld := ⟨R.TWN_CTRL, 3, 1, .rw, .plain⟩
def TWN_CTRL_AUTOJOIN : Fld := ⟨R.TWN_CTRL, 4, 1, .rw, .plain⟩
def TWN_CTRL_REVERT : Fld := ⟨R.TWN_CTRL, 5, 1, .rw, .bundle⟩
def TWN_CTRL_DRILL_EN : Fld := ⟨R.TWN_CTRL, 6, 1, .rw, .bundle⟩
def TWN_CTRL_BUNDLE : Fld := ⟨R.TWN_CTRL, 7, 1, .w1s, .staged⟩
def TWN_STATUS_ROLE : Fld := ⟨R.TWN_STATUS, 0, 2, .ro, .plain⟩
def TWN_STATUS_TWIN : Fld := ⟨R.TWN_STATUS, 3, 1, .ro, .plain⟩
def TWN_STATUS_PREF : Fld := ⟨R.TWN_STATUS, 4, 1, .ro, .plain⟩
def TWN_STATUS_NUM_VALID : Fld := ⟨R.TWN_STATUS, 5, 1, .ro, .plain⟩
def TWN_STATUS_INSTEP : Fld := ⟨R.TWN_STATUS, 6, 1, .ro, .plain⟩
def TWN_STATUS_HO_RUN : Fld := ⟨R.TWN_STATUS, 7, 1, .ro, .plain⟩
def TWN_STATUS_SW_PEND : Fld := ⟨R.TWN_STATUS, 8, 1, .ro, .plain⟩
def TWN_STATUS_SUSP : Fld := ⟨R.TWN_STATUS, 9, 1, .ro, .plain⟩
def TWN_STATUS_PROV : Fld := ⟨R.TWN_STATUS, 10, 1, .ro, .plain⟩
def TWN_STATUS_SW_MISMATCH : Fld := ⟨R.TWN_STATUS, 16, 1, .st, .plain⟩
def TWN_STATUS_SW_LATE : Fld := ⟨R.TWN_STATUS, 17, 1, .st, .plain⟩
def TWN_STATUS_DIGEST_MISM : Fld := ⟨R.TWN_STATUS, 18, 1, .st, .plain⟩
def TWN_STATUS_SPLIT : Fld := ⟨R.TWN_STATUS, 19, 1, .st, .plain⟩
def TWN_STATUS_LATENT : Fld := ⟨R.TWN_STATUS, 20, 1, .st, .plain⟩
def TWN_STATUS_JOINFAIL : Fld := ⟨R.TWN_STATUS, 21, 1, .st, .plain⟩
def TWN_STATUS_PART_MISMATCH : Fld := ⟨R.TWN_STATUS, 22, 1, .st, .plain⟩
def TWN_STATUS_NUM_CONFLICT : Fld := ⟨R.TWN_STATUS, 23, 1, .st, .plain⟩
def TWN_STATUS_PREF_CONFLICT : Fld := ⟨R.TWN_STATUS, 24, 1, .st, .plain⟩
def TWN_STATUS_HO_REJ : Fld := ⟨R.TWN_STATUS, 25, 1, .st, .plain⟩
def TWN_STATUS_BUNDLE_DIFF : Fld := ⟨R.TWN_STATUS, 26, 1, .st, .plain⟩
def TWN_STATUS_PATHLOSS : Fld := ⟨R.TWN_STATUS, 27, 1, .st, .plain⟩
def TWN_CLAIM_CLAIM : Fld := ⟨R.TWN_CLAIM, 0, 16, .ro, .plain⟩
def TWN_CLAIM_CLMAX : Fld := ⟨R.TWN_CLAIM, 16, 16, .ro, .plain⟩
def TWN_PEER_CLAIM : Fld := ⟨R.TWN_PEER, 0, 16, .ro, .plain⟩
def TWN_PEER_ROLE : Fld := ⟨R.TWN_PEER, 16, 3, .ro, .plain⟩
def TWN_PEER_PREF : Fld := ⟨R.TWN_PEER, 19, 1, .ro, .plain⟩
def TWN_PEER_SIL : Fld := ⟨R.TWN_PEER, 20, 8, .ro, .plain⟩
def TWN_PEER_H1_OK : Fld := ⟨R.TWN_PEER, 28, 1, .ro, .plain⟩
def TWN_PEER_H2_OK : Fld := ⟨R.TWN_PEER, 29, 1, .ro, .plain⟩
def TWN_CFG_HBTO : Fld := ⟨R.TWN_CFG, 0, 6, .rw, .bundle⟩
def TWN_CFG_DEMN : Fld := ⟨R.TWN_CFG, 8, 4, .rw, .bundle⟩
def TWN_CFG_OVL : Fld := ⟨R.TWN_CFG, 16, 8, .rw, .bundle⟩
def TWN_CFG_EVN : Fld := ⟨R.TWN_CFG, 24, 4, .rw, .bundle⟩
def TWN_CFG_PATHN : Fld := ⟨R.TWN_CFG, 28, 4, .rw, .bundle⟩
def TWN_CFG1_JOINN : Fld := ⟨R.TWN_CFG1, 0, 16, .rw, .bundle⟩
def TWN_CFG1_JTO : Fld := ⟨R.TWN_CFG1, 16, 16, .rw, .bundle⟩
def TWN_REVN_REVN : Fld := ⟨R.TWN_REVN, 0, 32, .rw, .bundle⟩
def TWN_DRILL_INTV : Fld := ⟨R.TWN_DRILL, 0, 8, .rw, .bundle⟩
def TWN_DRILL_NEXT : Fld := ⟨R.TWN_DRILL, 8, 16, .ro, .plain⟩
def TWN_SW_STROKE0_TGT_LO : Fld := ⟨R.TWN_SW_STROKE0, 0, 32, .rw, .plain⟩
def TWN_SW_STROKE1_TGT_HI : Fld := ⟨R.TWN_SW_STROKE1, 0, 16, .rw, .plain⟩
def TWN_BUNDLE_SLOT : Fld := ⟨R.TWN_BUNDLE, 0, 2, .rw, .staged⟩
def TWN_DIGCNT_MISM : Fld := ⟨R.TWN_DIGCNT, 0, 16, .rc, .plain⟩
def TWN_DIGCNT_SUSPEV : Fld := ⟨R.TWN_DIGCNT, 16, 16, .rc, .plain⟩
def TWN_ERRCNT_TAKEOVER : Fld := ⟨R.TWN_ERRCNT, 0, 8, .rc, .plain⟩
def TWN_ERRCNT_DEMOTE : Fld := ⟨R.TWN_ERRCNT, 8, 8, .rc, .plain⟩
def TWN_ERRCNT_HOREJ : Fld := ⟨R.TWN_ERRCNT, 16, 8, .rc, .plain⟩
def TWN_ERRCNT_JFAIL : Fld := ⟨R.TWN_ERRCNT, 24, 8, .rc, .plain⟩
def TWN_HOCNT_DRILLS : Fld := ⟨R.TWN_HOCNT, 0, 16, .rc, .plain⟩
def TWN_HOCNT_HOFAIL : Fld := ⟨R.TWN_HOCNT, 16, 16, .rc, .plain⟩
def TWN_JOIN_PHASE : Fld := ⟨R.TWN_JOIN, 0, 3, .ro, .plain⟩
def TWN_JOIN_RETRY : Fld := ⟨R.TWN_JOIN, 4, 2, .ro, .plain⟩
def TWN_JOIN_PROG : Fld := ⟨R.TWN_JOIN, 8, 24, .ro, .plain⟩
def TWN_ISMASK_PART : Fld := ⟨R.TWN_ISMASK, 0, 16, .rw, .bundle⟩
def TWN_LATHUB0_HUB : Fld := ⟨R.TWN_LATHUB0, 0, 32, .st, .plain⟩
def TWN_LATHUB1_HUB : Fld := ⟨R.TWN_LATHUB1, 0, 32, .st, .plain⟩
def TWN_PATH0_HUB : Fld := ⟨R.TWN_PATH0, 0, 32, .st, .plain⟩
def TWN_PATH1_HUB : Fld := ⟨R.TWN_PATH1, 0, 32, .st, .plain⟩
def BLT_CTRL_FORCE_EN : Fld := ⟨R.BLT_CTRL, 0, 1, .rw, .signed⟩
def BLT_CTRL_SW_CANCEL : Fld := ⟨R.BLT_CTRL, 1, 1, .w1s, .plain⟩
def BLT_CTRL_PTASK : Fld := ⟨R.BLT_CTRL, 8, 8, .rw, .bundle⟩
def BLT_CTRL_PT_EN : Fld := ⟨R.BLT_CTRL, 16, 1, .rw, .bundle⟩
def BLT_STATUS_TRIPPED : Fld := ⟨R.BLT_STATUS, 0, 1, .ro, .plain⟩
def BLT_STATUS_INCIDENT : Fld := ⟨R.BLT_STATUS, 1, 1, .ro, .plain⟩
def BLT_STATUS_SW_PEND : Fld := ⟨R.BLT_STATUS, 2, 1, .ro, .plain⟩
def BLT_STATUS_ANY_A : Fld := ⟨R.BLT_STATUS, 3, 1, .ro, .plain⟩
def BLT_STATUS_ANY_B : Fld := ⟨R.BLT_STATUS, 4, 1, .ro, .plain⟩
def BLT_STATUS_SW_MISMATCH : Fld := ⟨R.BLT_STATUS, 8, 1, .st, .plain⟩
def BLT_STATUS_SW_LATE : Fld := ⟨R.BLT_STATUS, 9, 1, .st, .plain⟩
def BLT_ERRCNT_CLRREJ : Fld := ⟨R.BLT_ERRCNT, 0, 16, .rc, .plain⟩
def BLT_ERRCNT_FREJ : Fld := ⟨R.BLT_ERRCNT, 16, 8, .rc, .plain⟩
def BLT_ERRCNT_RELREJ : Fld := ⟨R.BLT_ERRCNT, 24, 8, .rc, .plain⟩
def BLT_SW_STROKE0_TGT_LO : Fld := ⟨R.BLT_SW_STROKE0, 0, 32, .rw, .plain⟩
def BLT_SW_STROKE1_TGT_HI : Fld := ⟨R.BLT_SW_STROKE1, 0, 16, .rw, .plain⟩
def BLT_REL_ARMS : Fld := ⟨R.BLT_REL, 0, 12, .rw, .staged⟩
def BLT_REL_TRIP : Fld := ⟨R.BLT_REL, 16, 1, .rw, .staged⟩
def BLT_CREL_ADDR : Fld := ⟨R.BLT_CREL, 0, 13, .wo, .plain⟩
def BLT_QCNT_CREL : Fld := ⟨R.BLT_QCNT, 0, 7, .ro, .plain⟩
def BLT_SUM_SET : Fld := ⟨R.BLT_SUM, 0, 32, .ro, .plain⟩
def BLT_ALERT_ASSERTED : Fld := ⟨R.BLT_ALERT, 0, 1, .ro, .plain⟩
def BLT_ALERT_PIN : Fld := ⟨R.BLT_ALERT, 1, 1, .ro, .plain⟩
def BLT_ALERT_REL : Fld := ⟨R.BLT_ALERT, 2, 1, .w1s, .plain⟩
def BLT_ALERT_MINP : Fld := ⟨R.BLT_ALERT, 8, 8, .rw, .bundle⟩
def BLT_LOGCTL_RPTR : Fld := ⟨R.BLT_LOGCTL, 0, 10, .ro, .plain⟩
def BLT_LOGCTL_POP : Fld := ⟨R.BLT_LOGCTL, 10, 1, .w1s, .plain⟩
def BLT_LOGCTL_FILL : Fld := ⟨R.BLT_LOGCTL, 16, 11, .ro, .plain⟩
def BLT_LOGCTL_COAL : Fld := ⟨R.BLT_LOGCTL, 27, 5, .rc, .plain⟩
def BLT_LOG0_ENTRY : Fld := ⟨R.BLT_LOG0, 0, 32, .ro, .plain⟩
def BLT_LOG1_ENTRY : Fld := ⟨R.BLT_LOG1, 0, 32, .ro, .plain⟩
def BLT_LOG2_ENTRY : Fld := ⟨R.BLT_LOG2, 0, 32, .ro, .plain⟩
def BLT_LOG3_ENTRY : Fld := ⟨R.BLT_LOG3, 0, 32, .ro, .plain⟩
def BLT_CBADDR_ADDR : Fld := ⟨R.BLT_CBADDR, 0, 13, .rw, .plain⟩
def BLT_CBDATA_MARK : Fld := ⟨R.BLT_CBDATA, 0, 1, .ro, .plain⟩
def BLT_CBDATA_SRC : Fld := ⟨R.BLT_CBDATA, 8, 8, .ro, .plain⟩
def BLT_SRC_CFG_EN : Fld := ⟨R.BLT_SRC_CFG, 0, 1, .rw, .bundle⟩
def BLT_SRC_CFG_CLASS : Fld := ⟨R.BLT_SRC_CFG, 1, 2, .rw, .signed⟩
def BLT_SRC_CFG_ACT : Fld := ⟨R.BLT_SRC_CFG, 4, 4, .rw, .signed⟩
def BLT_SRC_CFG_ALERT : Fld := ⟨R.BLT_SRC_CFG, 8, 4, .rw, .signed⟩
def BLT_SRC_CFG_PERS : Fld := ⟨R.BLT_SRC_CFG, 16, 8, .rw, .bundle⟩
def BLT_SRC_CTRL_FORCE : Fld := ⟨R.BLT_SRC_CTRL, 0, 1, .rw, .plain⟩
def BLT_SRC_STAT_SET : Fld := ⟨R.BLT_SRC_STAT, 0, 1, .st, .plain⟩
def BLT_SRC_STAT_CAUSE : Fld := ⟨R.BLT_SRC_STAT, 1, 1, .ro, .plain⟩
def BLT_SRC_STAT_FORCED : Fld := ⟨R.BLT_SRC_STAT, 2, 1, .ro, .plain⟩
def BLT_SRC_STAT_NREP : Fld := ⟨R.BLT_SRC_STAT, 16, 12, .ro, .plain⟩
def BLT_SRC_COUNT_CNT : Fld := ⟨R.BLT_SRC_COUNT, 0, 32, .rc, .plain⟩
def BLT_SRC_FIRST0_NS : Fld := ⟨R.BLT_SRC_FIRST0, 0, 30, .ro, .plain⟩
def BLT_SRC_FIRST1_SEC : Fld := ⟨R.BLT_SRC_FIRST1, 0, 32, .ro, .plain⟩
def BLT_SRC_LAST0_NS : Fld := ⟨R.BLT_SRC_LAST0, 0, 30, .ro, .plain⟩
def BLT_SRC_LAST1_SEC : Fld := ⟨R.BLT_SRC_LAST1, 0, 32, .ro, .plain⟩
def CBLT_CHGP0_CHG : Fld := ⟨R.CBLT_CHGP0, 0, 32, .rc, .plain⟩
def CBLT_CHGP1_CHG : Fld := ⟨R.CBLT_CHGP1, 0, 32, .rc, .plain⟩
def CBLT_CHGQ0_CHG : Fld := ⟨R.CBLT_CHGQ0, 0, 32, .rc, .plain⟩
def CBLT_CHGQ1_CHG : Fld := ⟨R.CBLT_CHGQ1, 0, 32, .rc, .plain⟩
def HBLT_CHGP0_CHG : Fld := ⟨R.HBLT_CHGP0, 0, 32, .rc, .plain⟩
def HBLT_CHGP1_CHG : Fld := ⟨R.HBLT_CHGP1, 0, 32, .rc, .plain⟩
def HBLT_CHGQ0_CHG : Fld := ⟨R.HBLT_CHGQ0, 0, 32, .rc, .plain⟩
def HBLT_CHGQ1_CHG : Fld := ⟨R.HBLT_CHGQ1, 0, 32, .rc, .plain⟩
def CBLT_EVCNT_EVCNT : Fld := ⟨R.CBLT_EVCNT, 0, 8, .ro, .plain⟩
def HBLT_EVCNT_EVCNT : Fld := ⟨R.HBLT_EVCNT, 0, 8, .ro, .plain⟩
def CBLT_SRC_CFG_EN : Fld := ⟨R.CBLT_SRC_CFG, 0, 1, .rw, .signed⟩
def CBLT_SRC_CFG_CLASS : Fld := ⟨R.CBLT_SRC_CFG, 1, 2, .rw, .signed⟩
def CBLT_SRC_STAT_SET : Fld := ⟨R.CBLT_SRC_STAT, 0, 1, .st, .plain⟩
def CBLT_SRC_STAT_CAUSE : Fld := ⟨R.CBLT_SRC_STAT, 1, 1, .ro, .plain⟩
def CBLT_SRC_STAT_FORCE : Fld := ⟨R.CBLT_SRC_STAT, 2, 1, .rw, .plain⟩
def CBLT_SRC_STAT_COUNT : Fld := ⟨R.CBLT_SRC_STAT, 16, 16, .ro, .plain⟩
def CBLT_SRC_FIRST_STK : Fld := ⟨R.CBLT_SRC_FIRST, 0, 32, .ro, .plain⟩
def CBLT_SRC_LAST_STK : Fld := ⟨R.CBLT_SRC_LAST, 0, 32, .ro, .plain⟩
def HBLT_SRC_CFG_EN : Fld := ⟨R.HBLT_SRC_CFG, 0, 1, .rw, .signed⟩
def HBLT_SRC_CFG_CLASS : Fld := ⟨R.HBLT_SRC_CFG, 1, 2, .rw, .signed⟩
def HBLT_SRC_STAT_SET : Fld := ⟨R.HBLT_SRC_STAT, 0, 1, .st, .plain⟩
def HBLT_SRC_STAT_CAUSE : Fld := ⟨R.HBLT_SRC_STAT, 1, 1, .ro, .plain⟩
def HBLT_SRC_STAT_FORCE : Fld := ⟨R.HBLT_SRC_STAT, 2, 1, .rw, .plain⟩
def HBLT_SRC_STAT_COUNT : Fld := ⟨R.HBLT_SRC_STAT, 16, 16, .ro, .plain⟩
def HBLT_SRC_FIRST_STK : Fld := ⟨R.HBLT_SRC_FIRST, 0, 32, .ro, .plain⟩
def HBLT_SRC_LAST_STK : Fld := ⟨R.HBLT_SRC_LAST, 0, 32, .ro, .plain⟩
def FOL_CTRL_EN : Fld := ⟨R.FOL_CTRL, 0, 1, .rw, .plain⟩
def FOL_CTRL_SR_EN : Fld := ⟨R.FOL_CTRL, 1, 1, .rw, .plain⟩
def FOL_STATUS_BUSY : Fld := ⟨R.FOL_STATUS, 0, 8, .ro, .plain⟩
def FOL_STATUS_TRIGD : Fld := ⟨R.FOL_STATUS, 8, 8, .ro, .plain⟩
def FOL_STATUS_DONE : Fld := ⟨R.FOL_STATUS, 16, 8, .ro, .plain⟩
def FOL_STATUS_SHED : Fld := ⟨R.FOL_STATUS, 24, 1, .ro, .plain⟩
def FOL_STATUS_SRFULL : Fld := ⟨R.FOL_STATUS, 25, 1, .st, .plain⟩
def FOL_STATUS_ARMREJ : Fld := ⟨R.FOL_STATUS, 26, 1, .st, .plain⟩
def FOL_BUDGET_USED : Fld := ⟨R.FOL_BUDGET, 0, 20, .ro, .plain⟩
def FOL_BUDGET_CHN : Fld := ⟨R.FOL_BUDGET, 20, 12, .ro, .plain⟩
def FOL_ERRCNT_ARMREJ : Fld := ⟨R.FOL_ERRCNT, 0, 8, .rc, .plain⟩
def FOL_ERRCNT_CHWREJ : Fld := ⟨R.FOL_ERRCNT, 8, 8, .rc, .plain⟩
def FOL_ERRCNT_LATE : Fld := ⟨R.FOL_ERRCNT, 16, 8, .rc, .plain⟩
def FOL_TRIGIN_EN : Fld := ⟨R.FOL_TRIGIN, 0, 1, .rw, .plain⟩
def FOL_TRIGIN_POL : Fld := ⟨R.FOL_TRIGIN, 1, 1, .rw, .plain⟩
def FOL_TRIGIN_SEEN : Fld := ⟨R.FOL_TRIGIN, 4, 1, .st, .plain⟩
def FOL_TTS0_TENTHS : Fld := ⟨R.FOL_TTS0, 0, 4, .ro, .plain⟩
def FOL_TTS1_NS : Fld := ⟨R.FOL_TTS1, 0, 30, .ro, .plain⟩
def FOL_TTS2_SEC_LO : Fld := ⟨R.FOL_TTS2, 0, 32, .ro, .plain⟩
def FOL_TTS3_SEC_HI : Fld := ⟨R.FOL_TTS3, 0, 16, .ro, .plain⟩
def FOL_SRBASE0_LO : Fld := ⟨R.FOL_SRBASE0, 4, 28, .rw, .plain⟩
def FOL_SRBASE1_HI : Fld := ⟨R.FOL_SRBASE1, 0, 32, .rw, .plain⟩
def FOL_SRSIZE_LOG : Fld := ⟨R.FOL_SRSIZE, 0, 5, .rw, .plain⟩
def FOL_SRWPTR_WPTR : Fld := ⟨R.FOL_SRWPTR, 0, 32, .ro, .plain⟩
def FOL_SRRPTR_RPTR : Fld := ⟨R.FOL_SRRPTR, 0, 32, .rw, .plain⟩
def FOL_F_CFG_CLK : Fld := ⟨R.FOL_F_CFG, 0, 2, .rw, .plain⟩
def FOL_F_CFG_CSEL : Fld := ⟨R.FOL_F_CFG, 2, 8, .rw, .plain⟩
def FOL_F_CFG_DEC : Fld := ⟨R.FOL_F_CFG, 10, 5, .rw, .plain⟩
def FOL_F_CFG_TSCALE : Fld := ⟨R.FOL_F_CFG, 16, 4, .rw, .plain⟩
def FOL_F_CFG_STREAM : Fld := ⟨R.FOL_F_CFG, 20, 1, .rw, .plain⟩
def FOL_F_CH_FIRST : Fld := ⟨R.FOL_F_CH, 0, 12, .rw, .plain⟩
def FOL_F_CH_COUNT : Fld := ⟨R.FOL_F_CH, 16, 13, .rw, .plain⟩
def FOL_F_PRE_PRE : Fld := ⟨R.FOL_F_PRE, 0, 24, .rw, .plain⟩
def FOL_F_POST_POST : Fld := ⟨R.FOL_F_POST, 0, 24, .rw, .plain⟩
def FOL_F_BASE_OFS : Fld := ⟨R.FOL_F_BASE, 0, 32, .rw, .plain⟩
def FOL_F_TRG_TSRC : Fld := ⟨R.FOL_F_TRG, 0, 7, .rw, .plain⟩
def FOL_F_TRG_CHAIN : Fld := ⟨R.FOL_F_TRG, 8, 3, .rw, .plain⟩
def FOL_F_TRG_BSRC : Fld := ⟨R.FOL_F_TRG, 16, 9, .rw, .plain⟩
def FOL_F_LVL_LCH : Fld := ⟨R.FOL_F_LVL, 0, 12, .rw, .plain⟩
def FOL_F_LVL_MODE : Fld := ⟨R.FOL_F_LVL, 12, 2, .rw, .plain⟩
def FOL_F_LTHR_THR : Fld := ⟨R.FOL_F_LTHR, 0, 32, .rw, .plain⟩
def FOL_F_LHYS_HYS : Fld := ⟨R.FOL_F_LHYS, 0, 32, .rw, .plain⟩
def FOL_F_CTRL_ARM : Fld := ⟨R.FOL_F_CTRL, 0, 1, .w1s, .plain⟩
def FOL_F_CTRL_TRIG : Fld := ⟨R.FOL_F_CTRL, 1, 1, .w1s, .plain⟩
def FOL_F_CTRL_FREE : Fld := ⟨R.FOL_F_CTRL, 2, 1, .w1s, .plain⟩
def FOL_F_CTRL_ABORT : Fld := ⟨R.FOL_F_CTRL, 3, 1, .w1s, .plain⟩
def FOL_F_STAT_STATE : Fld := ⟨R.FOL_F_STAT, 0, 3, .ro, .plain⟩
def FOL_F_STAT_ASTAT : Fld := ⟨R.FOL_F_STAT, 4, 4, .ro, .plain⟩
def FOL_F_STAT_SHORT : Fld := ⟨R.FOL_F_STAT, 8, 1, .ro, .plain⟩
def FOL_F_STAT_TGAP : Fld := ⟨R.FOL_F_STAT, 9, 1, .ro, .plain⟩
def FOL_F_STAT_CAUSE : Fld := ⟨R.FOL_F_STAT, 12, 3, .ro, .plain⟩
def FOL_F_STAT_REC : Fld := ⟨R.FOL_F_STAT, 16, 16, .ro, .plain⟩
def FOL_F_ROWS_ROWS : Fld := ⟨R.FOL_F_ROWS, 0, 32, .ro, .plain⟩
def FOL_F_SIZE_SIZE : Fld := ⟨R.FOL_F_SIZE, 0, 32, .ro, .plain⟩
def FOL_F_RBYTES_RBYTES : Fld := ⟨R.FOL_F_RBYTES, 0, 20, .ro, .plain⟩
def FOL_F_CNT_RETRIG : Fld := ⟨R.FOL_F_CNT, 0, 16, .rc, .plain⟩
def FOL_F_CNT_MISS : Fld := ⟨R.FOL_F_CNT, 16, 16, .rc, .plain⟩
def FOL_CH_LO_SEL : Fld := ⟨R.FOL_CH_LO, 0, 28, .rw, .plain⟩
def FOL_CH_HI_CLASS : Fld := ⟨R.FOL_CH_HI, 0, 5, .rw, .plain⟩
def FOL_CH_HI_RED : Fld := ⟨R.FOL_CH_HI, 5, 5, .rw, .plain⟩
def FOL_CH_HI_DOR : Fld := ⟨R.FOL_CH_HI, 10, 1, .rw, .plain⟩
def LAN_CTRL_CAL_AUTO : Fld := ⟨R.LAN_CTRL, 0, 1, .rw, .plain⟩
def LAN_CTRL_ADAPT : Fld := ⟨R.LAN_CTRL, 1, 1, .rw, .plain⟩
def LAN_STATUS_ANY_DOWN : Fld := ⟨R.LAN_STATUS, 0, 1, .ro, .plain⟩
def LAN_STATUS_UCW : Fld := ⟨R.LAN_STATUS, 8, 1, .st, .plain⟩
def LAN_STATUS_MARGIN : Fld := ⟨R.LAN_STATUS, 9, 1, .st, .plain⟩
def LAN_STATUS_LOL : Fld := ⟨R.LAN_STATUS, 10, 1, .st, .plain⟩
def LAN_LIM_FOM_UP : Fld := ⟨R.LAN_LIM, 0, 8, .rw, .bundle⟩
def LAN_LIM_FOM_WARN : Fld := ⟨R.LAN_LIM, 8, 8, .rw, .bundle⟩
def LAN_LIM_UCW : Fld := ⟨R.LAN_LIM, 16, 8, .rw, .bundle⟩
def LAN_LIM_TOL : Fld := ⟨R.LAN_LIM, 24, 4, .rw, .bundle⟩
def LAN_CAL_MININT : Fld := ⟨R.LAN_CAL, 0, 8, .rw, .bundle⟩
def LAN_CAL_CNT : Fld := ⟨R.LAN_CAL, 16, 16, .rc, .plain⟩
def LAN_UP0_UP : Fld := ⟨R.LAN_UP0, 0, 32, .ro, .plain⟩
def LAN_UP1_UP : Fld := ⟨R.LAN_UP1, 0, 32, .ro, .plain⟩
def LAN_UP2_UP : Fld := ⟨R.LAN_UP2, 0, 4, .ro, .plain⟩
def LAN_CALREQ_LANE : Fld := ⟨R.LAN_CALREQ, 0, 7, .rw, .plain⟩
def LAN_CALREQ_GO : Fld := ⟨R.LAN_CALREQ, 8, 1, .w1s, .plain⟩
def LAN_L_CFG_PRE : Fld := ⟨R.LAN_L_CFG, 0, 4, .rw, .bundle⟩
def LAN_L_CFG_MAIN : Fld := ⟨R.LAN_L_CFG, 4, 8, .rw, .bundle⟩
def LAN_L_CFG_POST : Fld := ⟨R.LAN_L_CFG, 16, 4, .rw, .bundle⟩
def LAN_L_CFG_RXFRZ : Fld := ⟨R.LAN_L_CFG, 24, 1, .rw, .plain⟩
def LAN_L_STAT_TXST : Fld := ⟨R.LAN_L_STAT, 0, 3, .ro, .plain⟩
def LAN_L_STAT_RXST : Fld := ⟨R.LAN_L_STAT, 4, 3, .ro, .plain⟩
def LAN_L_STAT_FOM : Fld := ⟨R.LAN_L_STAT, 8, 8, .ro, .plain⟩
def LAN_L_STAT_MARGIN : Fld := ⟨R.LAN_L_STAT, 16, 1, .st, .plain⟩
def LAN_L_STAT_UCWLIM : Fld := ⟨R.LAN_L_STAT, 17, 1, .st, .plain⟩
def LAN_L_STAT_DRIFT : Fld := ⟨R.LAN_L_STAT, 18, 1, .ro, .plain⟩
def LAN_L_STAT_PD : Fld := ⟨R.LAN_L_STAT, 19, 1, .ro, .plain⟩
def LAN_L_EQ_CTLE : Fld := ⟨R.LAN_L_EQ, 0, 4, .ro, .plain⟩
def LAN_L_EQ_DFE1 : Fld := ⟨R.LAN_L_EQ, 4, 8, .ro, .plain⟩
def LAN_L_EQ_DFE2 : Fld := ⟨R.LAN_L_EQ, 12, 8, .ro, .plain⟩
def LAN_L_EQ_DFE3 : Fld := ⟨R.LAN_L_EQ, 20, 8, .ro, .plain⟩
def LAN_L_LVL0_MEAN : Fld := ⟨R.LAN_L_LVL0, 0, 16, .ro, .plain⟩
def LAN_L_LVL1_MEAN : Fld := ⟨R.LAN_L_LVL1, 0, 16, .ro, .plain⟩
def LAN_L_LVL2_MEAN : Fld := ⟨R.LAN_L_LVL2, 0, 16, .ro, .plain⟩
def LAN_L_LVL3_MEAN : Fld := ⟨R.LAN_L_LVL3, 0, 16, .ro, .plain⟩
def LAN_L_LVL0_SD : Fld := ⟨R.LAN_L_LVL0, 16, 16, .ro, .plain⟩
def LAN_L_LVL1_SD : Fld := ⟨R.LAN_L_LVL1, 16, 16, .ro, .plain⟩
def LAN_L_LVL2_SD : Fld := ⟨R.LAN_L_LVL2, 16, 16, .ro, .plain⟩
def LAN_L_LVL3_SD : Fld := ⟨R.LAN_L_LVL3, 16, 16, .ro, .plain⟩
def LAN_L_CNT0_CCW : Fld := ⟨R.LAN_L_CNT0, 0, 32, .rc, .plain⟩
def LAN_L_CNT1_CSYM : Fld := ⟨R.LAN_L_CNT1, 0, 32, .rc, .plain⟩
def LAN_L_CNT2_UCW : Fld := ⟨R.LAN_L_CNT2, 0, 16, .rc, .plain⟩
def LAN_L_CNT2_RETRY : Fld := ⟨R.LAN_L_CNT2, 16, 16, .rc, .plain⟩
def LAN_L_CNT3_HCRC : Fld := ⟨R.LAN_L_CNT3, 0, 8, .rc, .plain⟩
def LAN_L_CNT3_GCM : Fld := ⟨R.LAN_L_CNT3, 8, 8, .rc, .plain⟩
def LAN_L_CNT3_LOL : Fld := ⟨R.LAN_L_CNT3, 16, 8, .rc, .plain⟩
def LAN_L_CNT3_WIN : Fld := ⟨R.LAN_L_CNT3, 24, 8, .rc, .plain⟩
def HUB_CAL_GNEED : Fld := ⟨R.HUB_CAL, 0, 16, .ro, .plain⟩
def HUB_CAL_UNEED : Fld := ⟨R.HUB_CAL, 16, 2, .ro, .plain⟩
def HUB_CAL_GNT_IDX : Fld := ⟨R.HUB_CAL, 20, 5, .wo, .plain⟩
def HUB_CAL_GNT : Fld := ⟨R.HUB_CAL, 25, 1, .w1s, .plain⟩
def LNK_LK_CFG_SWING : Fld := ⟨R.LNK_LK_CFG, 0, 2, .rw, .plain⟩
def LNK_LK_STAT_TXST : Fld := ⟨R.LNK_LK_STAT, 0, 3, .ro, .plain⟩
def LNK_LK_STAT_RXST : Fld := ⟨R.LNK_LK_STAT, 4, 3, .ro, .plain⟩
def LNK_LK_STAT_FOM : Fld := ⟨R.LNK_LK_STAT, 8, 6, .ro, .plain⟩
def LNK_LK_STAT_DOWN : Fld := ⟨R.LNK_LK_STAT, 16, 1, .st, .plain⟩
def LNK_LK_CNT0_CVIOL : Fld := ⟨R.LNK_LK_CNT0, 0, 16, .rc, .plain⟩
def LNK_LK_CNT0_DISP : Fld := ⟨R.LNK_LK_CNT0, 16, 16, .rc, .plain⟩
def LNK_LK_CNT1_MDISC : Fld := ⟨R.LNK_LK_CNT1, 0, 16, .rc, .plain⟩
def LNK_LK_CNT1_LOL : Fld := ⟨R.LNK_LK_CNT1, 16, 16, .rc, .plain⟩
def LNK_LK_CNT2_RDROP : Fld := ⟨R.LNK_LK_CNT2, 0, 16, .rc, .plain⟩
def LNK_LK_CNT2_UPCNT : Fld := ⟨R.LNK_LK_CNT2, 16, 16, .rc, .plain⟩
def LNK_TXCAL_NEED : Fld := ⟨R.LNK_TXCAL, 0, 1, .ro, .plain⟩
def LNK_TXCAL_DTEMP : Fld := ⟨R.LNK_TXCAL, 16, 8, .rw, .plain⟩
def LNK_TXCAL_CNT : Fld := ⟨R.LNK_TXCAL, 24, 8, .ro, .plain⟩
def SEC_LDSRC_ADDR : Fld := ⟨R.SEC_LDSRC, 0, 32, .rw, .plain⟩
def SEC_LDLEN_LEN : Fld := ⟨R.SEC_LDLEN, 0, 24, .rw, .plain⟩
def SEC_LDCTL_SLOT : Fld := ⟨R.SEC_LDCTL, 0, 2, .rw, .plain⟩
def SEC_LDCTL_GO : Fld := ⟨R.SEC_LDCTL, 8, 1, .w1s, .plain⟩
def SEC_LDSTAT_BUSY : Fld := ⟨R.SEC_LDSTAT, 0, 1, .ro, .plain⟩
def SEC_LDSTAT_CODE : Fld := ⟨R.SEC_LDSTAT, 4, 4, .ro, .plain⟩
def SEC_LDSTAT_LCODE : Fld := ⟨R.SEC_LDSTAT, 8, 4, .ro, .plain⟩
def SEC_LDSTAT_VALID : Fld := ⟨R.SEC_LDSTAT, 16, 4, .ro, .plain⟩
def SEC_LDSTAT_ACTIVE : Fld := ⟨R.SEC_LDSTAT, 20, 4, .ro, .plain⟩
def SEC_LDSTAT_PEND : Fld := ⟨R.SEC_LDSTAT, 24, 4, .ro, .plain⟩
def SEC_STATUS_LCS : Fld := ⟨R.SEC_STATUS, 0, 2, .ro, .plain⟩
def SEC_STATUS_PUF_OK : Fld := ⟨R.SEC_STATUS, 2, 1, .ro, .plain⟩
def SEC_STATUS_DBG : Fld := ⟨R.SEC_STATUS, 3, 1, .ro, .plain⟩
def SEC_STATUS_VFAIL : Fld := ⟨R.SEC_STATUS, 8, 1, .st, .plain⟩
def SEC_STATUS_NOKEY : Fld := ⟨R.SEC_STATUS, 9, 1, .st, .plain⟩
def SEC_STATUS_ENTROPY : Fld := ⟨R.SEC_STATUS, 10, 1, .st, .plain⟩
def SEC_VSTAT_CODE : Fld := ⟨R.SEC_VSTAT, 0, 4, .ro, .plain⟩
def SEC_VSTAT_TYPE : Fld := ⟨R.SEC_VSTAT, 8, 4, .ro, .plain⟩
def SEC_ID0_FP : Fld := ⟨R.SEC_ID0, 0, 32, .ro, .plain⟩
def SEC_ID1_FP : Fld := ⟨R.SEC_ID1, 0, 32, .ro, .plain⟩
def SEC_ID2_FP : Fld := ⟨R.SEC_ID2, 0, 32, .ro, .plain⟩
def SEC_ID3_FP : Fld := ⟨R.SEC_ID3, 0, 32, .ro, .plain⟩
def SEC_SVN_CTR : Fld := ⟨R.SEC_SVN, 0, 7, .ro, .plain⟩
def SEC_SVN_RUN : Fld := ⟨R.SEC_SVN, 16, 16, .ro, .plain⟩
def SEC_SLOTS_USE0 : Fld := ⟨R.SEC_SLOTS, 0, 5, .ro, .plain⟩
def SEC_SLOTS_USE1 : Fld := ⟨R.SEC_SLOTS, 8, 5, .ro, .plain⟩
def SEC_SLOTS_USE2 : Fld := ⟨R.SEC_SLOTS, 16, 5, .ro, .plain⟩
def SEC_SLOTS_USE3 : Fld := ⟨R.SEC_SLOTS, 24, 5, .ro, .plain⟩
def SEC_SLOTS_REV0 : Fld := ⟨R.SEC_SLOTS, 5, 1, .ro, .plain⟩
def SEC_SLOTS_REV1 : Fld := ⟨R.SEC_SLOTS, 13, 1, .ro, .plain⟩
def SEC_SLOTS_REV2 : Fld := ⟨R.SEC_SLOTS, 21, 1, .ro, .plain⟩
def SEC_SLOTS_REV3 : Fld := ⟨R.SEC_SLOTS, 29, 1, .ro, .plain⟩
def SEC_PROV_DATA : Fld := ⟨R.SEC_PROV, 0, 32, .wo, .plain⟩
def SEC_ROT_HOURS : Fld := ⟨R.SEC_ROT, 0, 8, .rw, .bundle⟩
def SEC_LIM_TAGF : Fld := ⟨R.SEC_LIM, 0, 16, .rw, .bundle⟩
def SEC_LIM_GCMF : Fld := ⟨R.SEC_LIM, 16, 16, .rw, .bundle⟩
def SEC_DBGCHAL0_NONCE : Fld := ⟨R.SEC_DBGCHAL0, 0, 32, .ro, .plain⟩
def SEC_DBGCHAL1_NONCE : Fld := ⟨R.SEC_DBGCHAL1, 0, 32, .ro, .plain⟩
def SEC_DBGCHAL2_NONCE : Fld := ⟨R.SEC_DBGCHAL2, 0, 32, .ro, .plain⟩
def SEC_DBGCHAL3_NONCE : Fld := ⟨R.SEC_DBGCHAL3, 0, 32, .ro, .plain⟩
def SEC_DBGCHAL4_NONCE : Fld := ⟨R.SEC_DBGCHAL4, 0, 32, .ro, .plain⟩
def SEC_DBGCHAL5_NONCE : Fld := ⟨R.SEC_DBGCHAL5, 0, 32, .ro, .plain⟩
def SEC_DBGCHAL6_NONCE : Fld := ⟨R.SEC_DBGCHAL6, 0, 32, .ro, .plain⟩
def SEC_DBGCHAL7_NONCE : Fld := ⟨R.SEC_DBGCHAL7, 0, 32, .ro, .plain⟩
def SEC_DBGCTL_PERM : Fld := ⟨R.SEC_DBGCTL, 0, 4, .ro, .plain⟩
def SEC_DBGCTL_CLOSE : Fld := ⟨R.SEC_DBGCTL, 8, 1, .w1s, .plain⟩
def SEC_POSADDR_POS : Fld := ⟨R.SEC_POSADDR, 0, 13, .rw, .plain⟩
def SEC_POSDATA0_STAND : Fld := ⟨R.SEC_POSDATA0, 0, 2, .ro, .plain⟩
def SEC_POSDATA0_CAUSE : Fld := ⟨R.SEC_POSDATA0, 8, 4, .ro, .plain⟩
def SEC_POSDATA1_CTR : Fld := ⟨R.SEC_POSDATA1, 0, 32, .ro, .plain⟩
def SEC_POSDATA2_FP : Fld := ⟨R.SEC_POSDATA2, 0, 32, .ro, .plain⟩
def SEC_POSDATA3_FP : Fld := ⟨R.SEC_POSDATA3, 0, 32, .ro, .plain⟩
def SEC_POSDATA4_FP : Fld := ⟨R.SEC_POSDATA4, 0, 32, .ro, .plain⟩
def SEC_POSDATA5_FP : Fld := ⟨R.SEC_POSDATA5, 0, 32, .ro, .plain⟩
def SEC_ERRCNT_VFAIL : Fld := ⟨R.SEC_ERRCNT, 0, 8, .rc, .plain⟩
def SEC_ERRCNT_ATTF : Fld := ⟨R.SEC_ERRCNT, 8, 8, .rc, .plain⟩
def SEC_ERRCNT_STRANGER : Fld := ⟨R.SEC_ERRCNT, 16, 8, .rc, .plain⟩
def HST_ID_DEVID : Fld := ⟨R.HST_ID, 0, 16, .ro, .plain⟩
def HST_ID_STEP : Fld := ⟨R.HST_ID, 16, 12, .ro, .plain⟩
def HST_STATUS_SHED : Fld := ⟨R.HST_STATUS, 0, 1, .ro, .plain⟩
def HST_STATUS_WIDTH : Fld := ⟨R.HST_STATUS, 1, 3, .ro, .plain⟩
def HST_STATUS_SPEED : Fld := ⟨R.HST_STATUS, 4, 3, .ro, .plain⟩
def HST_STATUS_BADCNT : Fld := ⟨R.HST_STATUS, 16, 16, .rc, .plain⟩
def HST_HERR_CODE : Fld := ⟨R.HST_HERR, 0, 4, .ro, .plain⟩
def HST_HERR_WIN : Fld := ⟨R.HST_HERR, 8, 6, .ro, .plain⟩
def HST_HERR_VALID : Fld := ⟨R.HST_HERR, 16, 1, .w1c, .plain⟩
def HST_HERRADDR_OFS : Fld := ⟨R.HST_HERRADDR, 0, 17, .ro, .plain⟩
def HST_HCNT_CNT : Fld := ⟨R.HST_HCNT, 0, 32, .rc, .plain⟩
def HST_DPADDR_ADDR : Fld := ⟨R.HST_DPADDR, 2, 30, .rw, .plain⟩
def HST_DPCTL_AINC : Fld := ⟨R.HST_DPCTL, 0, 1, .rw, .plain⟩
def HST_DPCTL_ADV : Fld := ⟨R.HST_DPCTL, 1, 1, .w1s, .plain⟩
def HST_DPSTAT_DROP : Fld := ⟨R.HST_DPSTAT, 0, 16, .rc, .plain⟩
def HST_DPSTAT_GUARD : Fld := ⟨R.HST_DPSTAT, 16, 8, .rc, .plain⟩
def HST_DPSTAT_UE : Fld := ⟨R.HST_DPSTAT, 24, 1, .st, .plain⟩
def HST_DOORBELL_VAL : Fld := ⟨R.HST_DOORBELL, 0, 32, .rw, .plain⟩
def HST_HSEL_PORT : Fld := ⟨R.HST_HSEL, 0, 8, .rw, .plain⟩
def PWR_CTRL_REBOOT : Fld := ⟨R.PWR_CTRL, 0, 1, .w1s, .plain⟩
def PWR_STATUS_TSHED : Fld := ⟨R.PWR_STATUS, 0, 2, .ro, .plain⟩
def PWR_STATUS_BSHED : Fld := ⟨R.PWR_STATUS, 2, 2, .ro, .plain⟩
def PWR_STATUS_LEVEL : Fld := ⟨R.PWR_STATUS, 4, 2, .ro, .plain⟩
def PWR_STATUS_OVER : Fld := ⟨R.PWR_STATUS, 8, 1, .st, .plain⟩
def PWR_STATUS_UNDER : Fld := ⟨R.PWR_STATUS, 9, 1, .st, .plain⟩
def PWR_STATUS_HOT : Fld := ⟨R.PWR_STATUS, 10, 1, .ro, .plain⟩
def PWR_STATUS_CRIT : Fld := ⟨R.PWR_STATUS, 11, 1, .st, .plain⟩
def PWR_STATUS_SUPPLY : Fld := ⟨R.PWR_STATUS, 12, 1, .st, .plain⟩
def PWR_STATUS_REFCLK : Fld := ⟨R.PWR_STATUS, 13, 1, .st, .plain⟩
def PWR_STATUS_QREJ : Fld := ⟨R.PWR_STATUS, 14, 1, .st, .plain⟩
def PWR_TEMP_TJ : Fld := ⟨R.PWR_TEMP, 0, 11, .ro, .plain⟩
def PWR_TEMP_SENSOR : Fld := ⟨R.PWR_TEMP, 16, 3, .ro, .plain⟩
def PWR_THERM_SHED : Fld := ⟨R.PWR_THERM, 0, 8, .rw, .bundle⟩
def PWR_THERM_CRIT : Fld := ⟨R.PWR_THERM, 8, 8, .rw, .bundle⟩
def PWR_THERM_HYST : Fld := ⟨R.PWR_THERM, 16, 4, .rw, .bundle⟩
def PWR_THERM_STEP : Fld := ⟨R.PWR_THERM, 24, 8, .rw, .bundle⟩
def PWR_BUDGET_W : Fld := ⟨R.PWR_BUDGET, 0, 9, .rw, .plain⟩
def PWR_BUDGET_WIN : Fld := ⟨R.PWR_BUDGET, 16, 8, .rw, .plain⟩
def PWR_POWER_P : Fld := ⟨R.PWR_POWER, 0, 16, .ro, .plain⟩
def PWR_POWER_F : Fld := ⟨R.PWR_POWER, 16, 16, .ro, .plain⟩
def PWR_DXADDR_DOM : Fld := ⟨R.PWR_DXADDR, 0, 8, .rw, .plain⟩
def PWR_DXDATA_E : Fld := ⟨R.PWR_DXDATA, 0, 32, .ro, .plain⟩
def PWR_DXINFO_ON : Fld := ⟨R.PWR_DXINFO, 0, 1, .ro, .plain⟩
def PWR_QGATE_GATE : Fld := ⟨R.PWR_QGATE, 0, 16, .rw, .plain⟩
def PWR_BOOT_NEXT : Fld := ⟨R.PWR_BOOT, 0, 1, .rw, .plain⟩
def PWR_BOOT_LAST : Fld := ⟨R.PWR_BOOT, 1, 1, .ro, .plain⟩
def PWR_BOOT_FALLBACK : Fld := ⟨R.PWR_BOOT, 8, 1, .st, .plain⟩
def PWR_BOOTSTAT_CODE0 : Fld := ⟨R.PWR_BOOTSTAT, 0, 4, .ro, .plain⟩
def PWR_BOOTSTAT_CODE1 : Fld := ⟨R.PWR_BOOTSTAT, 4, 4, .ro, .plain⟩
def PWR_BOOTSTAT_PUF_OK : Fld := ⟨R.PWR_BOOTSTAT, 8, 1, .ro, .plain⟩
def PWR_RSTCAUSE_POR : Fld := ⟨R.PWR_RSTCAUSE, 0, 1, .st, .plain⟩
def PWR_RSTCAUSE_PIN : Fld := ⟨R.PWR_RSTCAUSE, 1, 1, .st, .plain⟩
def PWR_RSTCAUSE_REBOOT : Fld := ⟨R.PWR_RSTCAUSE, 2, 1, .st, .plain⟩
def PWR_RSTCAUSE_THERMTRIP : Fld := ⟨R.PWR_RSTCAUSE, 3, 1, .st, .plain⟩
def PWR_RSTCAUSE_SUPPLY : Fld := ⟨R.PWR_RSTCAUSE, 4, 1, .st, .plain⟩
def PWR_QCTL_PORT : Fld := ⟨R.PWR_QCTL, 0, 1, .rw, .plain⟩
def PWR_QCTL_OP : Fld := ⟨R.PWR_QCTL, 8, 8, .rw, .plain⟩
def PWR_QCTL_MODE : Fld := ⟨R.PWR_QCTL, 16, 2, .rw, .plain⟩
def PWR_QCTL_LEN : Fld := ⟨R.PWR_QCTL, 20, 9, .rw, .plain⟩
def PWR_QCTL_GO : Fld := ⟨R.PWR_QCTL, 31, 1, .w1s, .plain⟩
def PWR_QADDR_ADDR : Fld := ⟨R.PWR_QADDR, 0, 32, .rw, .plain⟩
def PWR_QDATA_DATA : Fld := ⟨R.PWR_QDATA, 0, 32, .rw, .plain⟩
def PWR_QSTAT_BUSY : Fld := ⟨R.PWR_QSTAT, 0, 1, .ro, .plain⟩
def PWR_IMG_HUBAUTO : Fld := ⟨R.PWR_IMG, 0, 1, .rw, .plain⟩
def PWR_IMG_SRC : Fld := ⟨R.PWR_IMG, 1, 1, .rw, .plain⟩
def PWR_IMGADDR_ADDR : Fld := ⟨R.PWR_IMGADDR, 0, 32, .rw, .plain⟩
def PWR_IMGCELL_ADDR : Fld := ⟨R.PWR_IMGCELL, 0, 13, .wo, .plain⟩
def PWR_IMGSTAT_HUBS : Fld := ⟨R.PWR_IMGSTAT, 0, 6, .ro, .plain⟩
def PWR_IMGSTAT_CELLS : Fld := ⟨R.PWR_IMGSTAT, 8, 5, .ro, .plain⟩
def PWR_IMGSTAT_ERR : Fld := ⟨R.PWR_IMGSTAT, 16, 8, .rc, .plain⟩
def HSEC_ATT_STAND : Fld := ⟨R.HSEC_ATT, 0, 2, .ro, .plain⟩
def HSEC_ATT_LCS : Fld := ⟨R.HSEC_ATT, 4, 4, .ro, .plain⟩
def HSEC_EPOCH_E : Fld := ⟨R.HSEC_EPOCH, 0, 8, .rw, .plain⟩
def HSEC_EPOCHS_STK : Fld := ⟨R.HSEC_EPOCHS, 0, 32, .rw, .plain⟩
def HSEC_ID_FP : Fld := ⟨R.HSEC_ID, 0, 32, .ro, .plain⟩
def HSEC_VSTAT_CODE : Fld := ⟨R.HSEC_VSTAT, 0, 4, .ro, .plain⟩
def HSEC_DBGCTL_PERM : Fld := ⟨R.HSEC_DBGCTL, 0, 4, .ro, .plain⟩
def HSEC_DBGCTL_CLOSE : Fld := ⟨R.HSEC_DBGCTL, 8, 1, .w1s, .plain⟩
def HSEC_XWIN_DATA : Fld := ⟨R.HSEC_XWIN, 0, 32, .rw, .plain⟩
def CSEC_ATT_STAND : Fld := ⟨R.CSEC_ATT, 0, 2, .ro, .plain⟩
def CSEC_ATT_LCS : Fld := ⟨R.CSEC_ATT, 4, 4, .ro, .plain⟩
def CSEC_EPOCH_E : Fld := ⟨R.CSEC_EPOCH, 0, 8, .rw, .plain⟩
def CSEC_EPOCHS_STK : Fld := ⟨R.CSEC_EPOCHS, 0, 32, .rw, .plain⟩
def CSEC_ID_FP : Fld := ⟨R.CSEC_ID, 0, 32, .ro, .plain⟩
def CSEC_VSTAT_CODE : Fld := ⟨R.CSEC_VSTAT, 0, 4, .ro, .plain⟩
def CSEC_DBGCTL_PERM : Fld := ⟨R.CSEC_DBGCTL, 0, 4, .ro, .plain⟩
def CSEC_DBGCTL_CLOSE : Fld := ⟨R.CSEC_DBGCTL, 8, 1, .w1s, .plain⟩
def CSEC_XWIN_DATA : Fld := ⟨R.CSEC_XWIN, 0, 32, .rw, .plain⟩
def HUB_BOOT_STATE : Fld := ⟨R.HUB_BOOT, 0, 3, .ro, .plain⟩
def HUB_BOOT_SRCU : Fld := ⟨R.HUB_BOOT, 3, 1, .ro, .plain⟩
def HUB_RST_RESTART : Fld := ⟨R.HUB_RST, 0, 1, .w1s, .plain⟩
def HUB_TEMP_TJ : Fld := ⟨R.HUB_TEMP, 0, 11, .ro, .plain⟩
def HUB_PGATE_ON : Fld := ⟨R.HUB_PGATE, 0, 16, .ro, .plain⟩
def HLAN_L_CFG_PRE : Fld := ⟨R.HLAN_L_CFG, 0, 4, .rw, .plain⟩
def HLAN_L_CFG_MAIN : Fld := ⟨R.HLAN_L_CFG, 4, 8, .rw, .plain⟩
def HLAN_L_CFG_POST : Fld := ⟨R.HLAN_L_CFG, 16, 4, .rw, .plain⟩
def HLAN_L_CFG_RXFRZ : Fld := ⟨R.HLAN_L_CFG, 24, 1, .rw, .plain⟩
def HLAN_L_STAT_TXST : Fld := ⟨R.HLAN_L_STAT, 0, 3, .ro, .plain⟩
def HLAN_L_STAT_RXST : Fld := ⟨R.HLAN_L_STAT, 4, 3, .ro, .plain⟩
def HLAN_L_STAT_FOM : Fld := ⟨R.HLAN_L_STAT, 8, 8, .ro, .plain⟩
def HLAN_L_STAT_MARGIN : Fld := ⟨R.HLAN_L_STAT, 16, 1, .st, .plain⟩
def HLAN_L_STAT_UCWLIM : Fld := ⟨R.HLAN_L_STAT, 17, 1, .st, .plain⟩
def HLAN_L_STAT_DRIFT : Fld := ⟨R.HLAN_L_STAT, 18, 1, .ro, .plain⟩
def HLAN_L_STAT_PD : Fld := ⟨R.HLAN_L_STAT, 19, 1, .ro, .plain⟩
def HLAN_L_EQ_CTLE : Fld := ⟨R.HLAN_L_EQ, 0, 4, .ro, .plain⟩
def HLAN_L_EQ_DFE1 : Fld := ⟨R.HLAN_L_EQ, 4, 8, .ro, .plain⟩
def HLAN_L_EQ_DFE2 : Fld := ⟨R.HLAN_L_EQ, 12, 8, .ro, .plain⟩
def HLAN_L_EQ_DFE3 : Fld := ⟨R.HLAN_L_EQ, 20, 8, .ro, .plain⟩
def HLAN_L_LVL0_MEAN : Fld := ⟨R.HLAN_L_LVL0, 0, 16, .ro, .plain⟩
def HLAN_L_LVL1_MEAN : Fld := ⟨R.HLAN_L_LVL1, 0, 16, .ro, .plain⟩
def HLAN_L_LVL2_MEAN : Fld := ⟨R.HLAN_L_LVL2, 0, 16, .ro, .plain⟩
def HLAN_L_LVL3_MEAN : Fld := ⟨R.HLAN_L_LVL3, 0, 16, .ro, .plain⟩
def HLAN_L_LVL0_SD : Fld := ⟨R.HLAN_L_LVL0, 16, 16, .ro, .plain⟩
def HLAN_L_LVL1_SD : Fld := ⟨R.HLAN_L_LVL1, 16, 16, .ro, .plain⟩
def HLAN_L_LVL2_SD : Fld := ⟨R.HLAN_L_LVL2, 16, 16, .ro, .plain⟩
def HLAN_L_LVL3_SD : Fld := ⟨R.HLAN_L_LVL3, 16, 16, .ro, .plain⟩
def HLAN_L_CNT0_CCW : Fld := ⟨R.HLAN_L_CNT0, 0, 32, .rc, .plain⟩
def HLAN_L_CNT1_CSYM : Fld := ⟨R.HLAN_L_CNT1, 0, 32, .rc, .plain⟩
def HLAN_L_CNT2_UCW : Fld := ⟨R.HLAN_L_CNT2, 0, 16, .rc, .plain⟩
def HLAN_L_CNT2_RETRY : Fld := ⟨R.HLAN_L_CNT2, 16, 16, .rc, .plain⟩
def HLAN_L_CNT3_HCRC : Fld := ⟨R.HLAN_L_CNT3, 0, 8, .rc, .plain⟩
def HLAN_L_CNT3_GCM : Fld := ⟨R.HLAN_L_CNT3, 8, 8, .rc, .plain⟩
def HLAN_L_CNT3_LOL : Fld := ⟨R.HLAN_L_CNT3, 16, 8, .rc, .plain⟩
def HLAN_L_CNT3_WIN : Fld := ⟨R.HLAN_L_CNT3, 24, 8, .rc, .plain⟩
def HLNK_LK_CFG_SWING : Fld := ⟨R.HLNK_LK_CFG, 0, 2, .rw, .plain⟩
def HLNK_LK_STAT_TXST : Fld := ⟨R.HLNK_LK_STAT, 0, 3, .ro, .plain⟩
def HLNK_LK_STAT_RXST : Fld := ⟨R.HLNK_LK_STAT, 4, 3, .ro, .plain⟩
def HLNK_LK_STAT_FOM : Fld := ⟨R.HLNK_LK_STAT, 8, 6, .ro, .plain⟩
def HLNK_LK_STAT_DOWN : Fld := ⟨R.HLNK_LK_STAT, 16, 1, .st, .plain⟩
def HLNK_LK_CNT0_CVIOL : Fld := ⟨R.HLNK_LK_CNT0, 0, 16, .rc, .plain⟩
def HLNK_LK_CNT0_DISP : Fld := ⟨R.HLNK_LK_CNT0, 16, 16, .rc, .plain⟩
def HLNK_LK_CNT1_MDISC : Fld := ⟨R.HLNK_LK_CNT1, 0, 16, .rc, .plain⟩
def HLNK_LK_CNT1_LOL : Fld := ⟨R.HLNK_LK_CNT1, 16, 16, .rc, .plain⟩
def HLNK_LK_CNT2_RDROP : Fld := ⟨R.HLNK_LK_CNT2, 0, 16, .rc, .plain⟩
def HLNK_LK_CNT2_UPCNT : Fld := ⟨R.HLNK_LK_CNT2, 16, 16, .rc, .plain⟩

end Sys2Proof.Machine.F
end

