-- ==== Sys2Proof/Machine/StFolio.lean ====
section
/-!
DEFINITION. State of the Folio recorder (R380-R395).
-/

namespace Sys2Proof.Machine

/-- A trigger: its time in 2^-32 ns, its source bit, whether it was forced from the Blotter (R388). -/
structure FolTrig where
  time : Nat
  bit : Nat
  forced : Bool
  deriving DecidableEq, Repr

/-- One channel over the window of a row (R383): present samples, sum, sum of squares, extremes, last value, OR. -/
structure ChanAcc where
  m : Nat
  sum : Int
  sq : Nat
  lo : Int
  hi : Int
  last : Option Int
  anyBit : Bool
  deriving DecidableEq, Repr

def ChanAcc.reset : ChanAcc := { m := 0, sum := 0, sq := 0, lo := 0, hi := 0, last := none, anyBit := false }

/-- One folio from its arming on. -/
structure FolioRun where
  /-- Baseline time of the arming, 2^-32 ns -/
  armed : Nat
  /-- rows written since arming, and the times of those still in the ring: row, time (2^-32 ns) -/
  rows : Nat
  times : List (Nat × Nat)
  /-- the window of the next row: base samples, channels, row flags -/
  count : Nat
  acc : List ChanAcc
  flags : Nat
  /-- last sample index (CLK 1) or stroke (CLK 2) taken -/
  lastIdx : Option Int
  /-- earliest trigger accepted, and its row once that is fixed -/
  best : Option FolTrig
  row : Option Nat
  /-- UTC word and time quality at the trigger row -/
  utc : Nat
  quality : Nat
  /-- the level was below LTHR − LHYS; it was above LTHR + LHYS -/
  wasBelow : Bool
  wasAbove : Bool
  /-- bytes of the record streamed, while a stream runs (R393) -/
  streamed : Option Nat
  deriving DecidableEq, Repr

def FolioRun.reset : FolioRun :=
  { armed := 0, rows := 0, times := [], count := 0, acc := [], flags := 0, lastIdx := none, best := none, row := none,
    utc := 0, quality := 0, wasBelow := false, wasAbove := false, streamed := none }

/-- Hidden state of the FOL block. -/
structure FolioState where
  runs : Tab FolioRun
  /-- levels of TRIGIN0 and TRIGIN1, and the time of the last stamped edge in tenths of a ns, plus 1 -/
  levels : Nat
  stamped : Tab Nat
  deriving DecidableEq, Repr

def FolioState.reset : FolioState := { runs := [], levels := 0, stamped := [] }

end Sys2Proof.Machine
end

