-- ==== Sys2Proof/Machine/StHost.lean ====
section
/-!
DEFINITION. State of the host endpoint: hub windows, MSI-X and the data port (R441-R453).
-/

namespace Sys2Proof.Machine

/-- One request that a hub window holds (R446). -/
structure HubReq where
  /-- requester: 0 the host, q + 1 Quill pair q -/
  who : Nat
  /-- register of a Quill that waits for a read -/
  dest : Nat
  isRead : Bool
  /-- window offset of the first DWORD -/
  ofs : Nat
  /-- number of DWORDs -/
  count : Nat
  /-- transaction number -/
  tid : Nat
  deriving DecidableEq, Repr

/-- Hidden state of the HST block. -/
structure HostState where
  /-- MSI-X table, eight entries of four words (R452) -/
  msixTable : Tab Word
  /-- vector masks and pending bits -/
  msixMask : Nat
  msixPend : Nat
  /-- requests sent per hub window and not yet answered, oldest first (at most 16) -/
  windows : Tab (List HubReq)
  /-- next transaction number -/
  tid : Nat
  /-- the link to the host is in L0 -/
  linkUp : Bool
  deriving DecidableEq, Repr

/-- Reset of the endpoint: all vectors masked, as the PCIe specification resets them (PRESUMED, log entry 9). -/
def HostState.reset : HostState :=
  { msixTable := [], msixMask := 255, msixPend := 0, windows := [], tid := 0, linkUp := false }

end Sys2Proof.Machine
end

