-- ==== Sys2Proof/Machine/StHub.lean ====
section
/-!
DEFINITION. State of a hub's stroke traffic and management (R178-R180, R188, R337).
-/

namespace Sys2Proof.Machine

/-- A word queued on a cell port: its target, the pair of the frame that brought it, its bits [95:0] (R179, R180). -/
structure HubWord where
  port : Nat
  t : Nat
  claim : Nat
  twin : Nat
  bits : Nat
  deriving DecidableEq, Repr

/-- A cell request that the hub has relayed (R188). -/
structure HubRelay where
  uplink : Nat
  tid : Nat
  port : Nat
  write : Bool
  addr : Nat
  count : Nat
  deriving DecidableEq, Repr

/-- Hidden state of the hub. -/
structure HubState where
  /-- slot buffers, two per port: (port, stroke, report) (R178) -/
  slots : List (Nat × Nat × Nat)
  /-- target of the latest valid word frame, and words dropped for it (R180, R176) -/
  lastT : Option Nat
  wdrop : Nat
  /-- valid word frames for strokes still to come: target and uplink (R180) -/
  seen : List (Nat × Nat)
  /-- words queued on the cell ports, first out first -/
  queue : List HubWord
  /-- cell requests in progress, oldest first -/
  relays : List HubRelay
  /-- failed attempts to read a cell's Blotter records, by port (R371) -/
  blotFail : Tab Nat
  /-- number of the next time marker on each cell port (R171) -/
  marks : Tab Nat
  /-- image blocks for the cells that have not left: port, block, words (R471) -/
  blocks : List (Nat × Nat × List Nat)
  /-- bytes of the hub image taken so far (R470) -/
  imgNext : Nat
  /-- a rail is outside its limits (R456) -/
  railBad : Bool
  deriving DecidableEq, Repr

def HubState.reset : HubState :=
  { slots := [], lastT := none, wdrop := 0, seen := [], queue := [], relays := [], blotFail := [], marks := [], blocks := [], imgNext := 0,
    railBad := false }

end Sys2Proof.Machine
end

