-- ==== Sys2Proof/Machine/StInkwell.lean ====
section
/-!
DEFINITION. State of Inkwell: its bytes, poisoned words, scrub and sparing (R306-R324).
-/

namespace Sys2Proof.Machine

/-- Hidden state of Inkwell. -/
structure InkwellState where
  /-- bytes by fabric address; an unlisted byte reads as 0 (log entry 2) -/
  mem : Tab Byte
  /-- poisoned 64-bit words, by word number (R309) -/
  poison : Tab Bool
  /-- next line of the scrubber, 64 bytes each -/
  scrubLine : Nat
  /-- corrected errors by bank in this scrub pass (R311) -/
  passErr : Tab Nat
  /-- banks that have had an uncorrectable error (R311) -/
  ueBanks : List Nat
  /-- the bank whose copy to the spare runs -/
  copying : Option Nat
  deriving DecidableEq, Repr

def InkwellState.reset : InkwellState :=
  { mem := [], poison := [], scrubLine := 0, passErr := [], ueBanks := [], copying := none }

end Sys2Proof.Machine
end

