-- ==== Sys2Proof/Machine/Parts.lean ====
section
/-!
DEFINITION. The three parts as plain data: register files, hidden state block by block, memories, and what each part
has sent. The model holds one Gloesk, one Stanak and one Ihloon (log entry 1).
-/

namespace Sys2Proof.Machine

/-- The two part numbers of the Gloesk (R1, R2). -/
inductive Variant where
  | gk9664 | gk9632
  deriving DecidableEq, Repr

/-- The central controller. -/
structure Gloesk where
  variant : Variant
  regs : RegFile
  /-- latched higher words: key = requester × 2^24 + address (R451) -/
  latches : Tab Word
  sent : List Sent
  /-- edges of fault sources reported in this step and not yet taken by the Blotter; empty between steps -/
  edges : List Edge
  /-- compare hits of this step for Ductus, channel and signed count; empty between steps -/
  hits : List (Nat × Int)
  /-- counter of the free values taken so far (the model's own field, log entry 4) -/
  fresh : Nat
  map : StationMap
  time : TimeState
  rul : RulingState
  svi : SviState
  ink : InkwellState
  /-- staging by block number (R53) -/
  staged : Tab Staged
  hst : HostState
  blt : BlotterState
  fol : FolioState
  twin : TwinState
  disp : DispatchState
  lpe : LoopState
  flr : FlourishState
  rank : RankState
  lan : LaneExt
  /-- auxiliary acquisition and the reference arbiters -/
  aq : AqState
  arb : ArbiterState
  /-- the Quill pairs by number, and Ductus -/
  cores : Tab Core
  duc : DuctusState
  trust : PartSec
  pos : GloeskSec
  pwr : PowerState
  deriving DecidableEq, Repr

/-- The arm hub. -/
structure Stanak where
  regs : RegFile
  latches : Tab Word
  sent : List Sent
  fresh : Nat
  stroke : Nat
  blt : LocalBlotter
  follow : Follower
  lan : LaneExt
  hub : HubState
  trust : PartSec
  deriving DecidableEq, Repr

/-- The cell controller. -/
structure Ihloon where
  regs : RegFile
  latches : Tab Word
  sent : List Sent
  /-- its cell address (R11) -/
  addr : Nat
  fresh : Nat
  stroke : Nat
  blt : LocalBlotter
  follow : Follower
  lan : LaneExt
  cell : CellState
  trust : PartSec
  deriving DecidableEq, Repr

/-- The registers of a part number that differ from the reset values of the register tables: the GK-9632's device ID (R1). -/
def partRegs (v : Variant) : RegFile :=
  match v with
  | .gk9664 => []
  | .gk9632 => RegFile.setFld [] F.HST_ID_DEVID 0x9632 0

/-- The Gloesk right after a power-on reset: every register at its reset value, the counters of reset (R4, R465). -/
def Gloesk.reset (v : Variant) : Gloesk :=
  { variant := v, regs := partRegs v, latches := [], sent := [], edges := [], hits := [], fresh := 0, map := StationMap.reset,
    time := TimeState.reset, rul := RulingState.reset, svi := SviState.reset, ink := InkwellState.reset, staged := [],
    hst := HostState.reset, blt := BlotterState.reset, fol := FolioState.reset, twin := TwinState.reset,
    disp := DispatchState.reset, lpe := LoopState.reset, flr := FlourishState.reset, rank := RankState.reset,
    lan := LaneExt.reset, aq := AqState.reset, arb := ArbiterState.reset, cores := [], duc := DuctusState.reset,
    trust := PartSec.reset, pos := GloeskSec.reset, pwr := PowerState.reset }

/-- The Stanak right after its reset. -/
def Stanak.reset : Stanak :=
  { regs := [], latches := [], sent := [], fresh := 0, stroke := 0, blt := LocalBlotter.reset, follow := Follower.reset,
    lan := LaneExt.reset, hub := HubState.reset, trust := PartSec.reset }

/-- The Ihloon right after a power-on reset. -/
def Ihloon.reset : Ihloon :=
  { regs := [], latches := [], sent := [], addr := 0, fresh := 0, stroke := 0, blt := LocalBlotter.reset,
    follow := Follower.reset, lan := LaneExt.reset, cell := CellState.reset, trust := PartSec.reset }

end Sys2Proof.Machine
end

