-- ==== Sys2Proof/Machine/Ops.lean ====
section
/-!
DEFINITION. The named operations over the parts: reading and writing fields, counters that saturate (R6), sending,
raising and lowering fault sources, latching reads (R451).
-/

namespace Sys2Proof.Machine

/-! ### Gloesk -/

namespace Gloesk

/-- The value of a field (entry `i` of an array register). -/
def rd (g : Gloesk) (f : Fld) (i : Nat := 0) : Nat := g.regs.fld f i

/-- The value of a signed field. -/
def rdS (g : Gloesk) (f : Fld) (i : Nat := 0) : Int := toS f.wid (g.rd f i)

/-- Whether a field is not 0. -/
def on (g : Gloesk) (f : Fld) (i : Nat := 0) : Bool := g.rd f i != 0

/-- Hardware writes a field. -/
def wr (g : Gloesk) (f : Fld) (v : Nat) (i : Nat := 0) : Gloesk := { g with regs := g.regs.setFld f v i }

/-- Hardware writes a signed field, wrapping. -/
def wrS (g : Gloesk) (f : Fld) (v : Int) (i : Nat := 0) : Gloesk := g.wr f (ofS f.wid v) i

/-- Hardware writes a signed field, saturating. -/
def wrSat (g : Gloesk) (f : Fld) (v : Int) (i : Nat := 0) : Gloesk := g.wr f (ofS f.wid (satS f.wid v)) i

/-- Hardware sets a bit or a sticky bit. -/
def up (g : Gloesk) (f : Fld) (i : Nat := 0) : Gloesk := g.wr f 1 i

/-- Hardware clears a field. -/
def down (g : Gloesk) (f : Fld) (i : Nat := 0) : Gloesk := g.wr f 0 i

/-- Hardware adds to a counter that holds its maximum (R6). -/
def inc (g : Gloesk) (f : Fld) (i : Nat := 0) (n : Nat := 1) : Gloesk := { g with regs := g.regs.addSat f n i }

/-- Hardware writes bit `b` of a field. -/
def wrBit (g : Gloesk) (f : Fld) (b : Nat) (x : Bool) (i : Nat := 0) : Gloesk := g.wr f (setBit (g.rd f i) b x) i

/-- The word of a register. -/
def reg (g : Gloesk) (r : Reg) (i : Nat := 0) : Nat := (g.regs.reg r i).toNat

/-- Write the word of a register. -/
def setReg (g : Gloesk) (r : Reg) (v : Nat) (i : Nat := 0) : Gloesk :=
  { g with regs := g.regs.setReg r i (BitVec.ofNat 32 v) }

/-- Send something. -/
def send (g : Gloesk) (k : SentKind) (args : List Nat) : Gloesk := { g with sent := g.sent ++ [⟨k, args⟩] }

/-- Report a rising edge of a fault source; the Blotter takes it at the end of the step. -/
def raise (g : Gloesk) (src : Nat) (who : Who := .none) : Gloesk := { g with edges := g.edges ++ [⟨src, true, who⟩] }

/-- Report that the condition of a fault source has ended. -/
def lower (g : Gloesk) (src : Nat) (who : Who := .none) : Gloesk := { g with edges := g.edges ++ [⟨src, false, who⟩] }

/-- Report the level of a fault source's condition. -/
def level (g : Gloesk) (src : Nat) (x : Bool) (who : Who := .none) : Gloesk :=
  { g with edges := g.edges ++ [⟨src, x, who⟩] }

/-- Send MSI-X vector `v`, or set its pending bit while it is masked (R452). -/
def msix (g : Gloesk) (v : Nat) : Gloesk :=
  if bit g.hst.msixMask v then { g with hst := { g.hst with msixPend := setBit g.hst.msixPend v true } }
  else g.send .msix [v]

/-- A latch of a requester. -/
def latch (g : Gloesk) (who : Nat) (r : Reg) (v : Nat) (i : Nat := 0) : Gloesk :=
  { g with latches := Tab.set 0 g.latches (who * 2 ^ 24 + r.at i) (BitVec.ofNat 32 v) }

/-- What a requester reads from its latch. -/
def latched (g : Gloesk) (who : Nat) (r : Reg) (i : Nat := 0) : Nat :=
  (Tab.get 0 g.latches (who * 2 ^ 24 + r.at i)).toNat

/-- Answer a read. -/
def answer (g : Gloesk) (who : Nat) (ws : List Nat) : Gloesk := g.send .readData (who :: ws)

/-- The free value of this moment (log entry 4). -/
def free (g : Gloesk) : Nat := Config.freeNat g.fresh

/-- Move on to the next free value. -/
def nextFree (g : Gloesk) : Gloesk := { g with fresh := g.fresh + 1 }

/-- Log a tamper cause with the attestation counter, 16 entries (R432). -/
def tamper (g : Gloesk) (cause : Nat) : Gloesk :=
  let l := g.trust.tamper ++ [(g.trust.counter, cause)]
  { g with trust := { g.trust with tamper := l.drop (l.length - 16) } }

/-- Apply a function when a condition holds. -/
def iff (g : Gloesk) (c : Bool) (f : Gloesk → Gloesk) : Gloesk := if c then f g else g

/-- The stroke period T in ns (R28). -/
def period (g : Gloesk) : Nat := g.rd F.PTP_PERIOD_PERIOD

/-- The stroke cycle runs (R186). -/
def running (g : Gloesk) : Bool := g.on F.STK_STATUS_RUN

/-- The present stroke. -/
def stroke (g : Gloesk) : Nat := g.time.stroke

/-- Baseline nanoseconds since the epoch. -/
def ns (g : Gloesk) : Nat := g.time.bl / 2 ^ 32

/-- Baseline seconds. -/
def sec (g : Gloesk) : Nat := g.ns / 1000000000

/-- The nanoseconds within the second. -/
def nsOfSec (g : Gloesk) : Nat := g.ns % 1000000000

/-- Apply a function for each number of a list. -/
def each (g : Gloesk) (l : List Nat) (f : Gloesk → Nat → Gloesk) : Gloesk := l.foldl f g

/-- An event that makes the twin suspect (R334). -/
def suspect (g : Gloesk) : Gloesk :=
  ({ g with twin := { g.twin with newSusp := true } }.up F.TWN_STATUS_SUSP).inc F.TWN_DIGCNT_SUSPEV

end Gloesk

/-- Stroke numbers are taken modulo 2^48 (R28). -/
def strokeMod (n : Nat) : Nat := n % 2 ^ 48

/-- The signed distance from stroke `a` to stroke `b`, modulo 2^48. -/
def strokeDiff (a b : Nat) : Int := toS 48 (b + 2 ^ 48 - a % 2 ^ 48)

/-! ### The station map (R10, R11, R13) -/

namespace Gloesk

/-- The arm of a cell, 12-15 when it is unassigned (R13). -/
def armOf (g : Gloesk) (addr : Nat) : Nat := Tab.get 15 g.map.arms addr

/-- Whether a cell is assigned to an arm. -/
def assigned (g : Gloesk) (addr : Nat) : Bool := decide (g.armOf addr < 12)

/-- The cells of an arm in rising address order. -/
def cellsOf (g : Gloesk) (a : Nat) : List Nat := (g.map.arms.filter (fun e => e.2 = a)).map (·.1)

/-- Lane of a hub (R9): HL0-HL31 plane P, HL32-HL63 plane Q. -/
def laneOf (pair plane : Nat) : Nat := plane * 32 + pair

/-- Whether a hub lane is present on this part (R2). -/
def lanePresent (g : Gloesk) (n : Nat) : Bool := g.variant == .gk9664 || decide (n % 32 < 16)

/-- Whether a lane's pair is listed in the station map (R10). -/
def listed (g : Gloesk) (n : Nat) : Bool := g.map.pairs.contains (n % 32) && decide (n < 64) && g.lanePresent n

/-- The populated ports of a hub lane, in rising order. -/
def ports (g : Gloesk) (n : Nat) : List Nat := below 192 (fun c => bit (Tab.get 0 g.map.population n) c)

/-- The listed hub lanes. -/
def lanes (g : Gloesk) : List Nat := below 64 g.listed

/-! ### Hub images (R470): the hubs that wait, as this twin knows them (DESIGN CHOICE, log entry 180) -/

/-- PWR_IMGSTAT.HUBS. -/
def showHubs (g : Gloesk) : Gloesk :=
  g.wr F.PWR_IMGSTAT_HUBS (if g.on F.PWR_IMG_HUBAUTO then min 63 g.pwr.hubLoads.length else 0)

/-- The hub of lane `l` has attested: it goes to WAIT. -/
def hubWaits (g : Gloesk) (l : Nat) : Gloesk :=
  if g.listed l && !(g.pwr.hubLoads.contains l) then
    ({ g with pwr := { g.pwr with hubLoads := g.pwr.hubLoads ++ [l] } }).showHubs
  else g

/-- Messages over link `l`, a hub lane or the Ligature link (64), are accepted: its receiver, or that of a twin lane, is UP
(R404), and it has keys (R428). -/
def linkOpen (g : Gloesk) (l : Nat) : Bool :=
  g.trust.keyed.contains l && (if l < 64 then g.rd F.LAN_L_STAT_RXST l == 4 else g.rd F.LAN_UP2_UP != 0)

/-- A message received over link `l`: it is discarded while the link is not open. -/
def linked (g : Gloesk) (l : Nat) (f : Gloesk → Gloesk) : Gloesk := g.iff (g.linkOpen l) f

/-- The hub at the far end of lane `l` is a stranger (R430). -/
def hubStranger (g : Gloesk) (l : Nat) : Bool :=
  (Tab.get Position.reset g.pos.positions (256 * (l % 32) + 0xC0 + l / 32)).stand == 3

/-- The hub of lane `l` forwards, or its lane has fallen: it takes no image. -/
def hubLoadEnds (g : Gloesk) (l : Nat) : Gloesk :=
  if g.pwr.hubLoads.contains l then
    ({ g with pwr := { g.pwr with hubLoads := g.pwr.hubLoads.filter (· ≠ l) } }).showHubs
  else g

/-- PWR_IMG was written; `was` is HUBAUTO before. A stream that is enabled begins at offset 0. -/
def hubAuto (g : Gloesk) (was : Bool) : Gloesk :=
  ({ g with pwr := { g.pwr with imgOfs := if g.on F.PWR_IMG_HUBAUTO && !was then 0 else g.pwr.imgOfs } }).showHubs

end Gloesk

/-! ### Stanak -/

namespace Stanak

def rd (h : Stanak) (f : Fld) (i : Nat := 0) : Nat := h.regs.fld f i
def on (h : Stanak) (f : Fld) (i : Nat := 0) : Bool := h.rd f i != 0
def wr (h : Stanak) (f : Fld) (v : Nat) (i : Nat := 0) : Stanak := { h with regs := h.regs.setFld f v i }
def up (h : Stanak) (f : Fld) (i : Nat := 0) : Stanak := h.wr f 1 i
def down (h : Stanak) (f : Fld) (i : Nat := 0) : Stanak := h.wr f 0 i
def inc (h : Stanak) (f : Fld) (i : Nat := 0) (n : Nat := 1) : Stanak := { h with regs := h.regs.addSat f n i }
def wrBit (h : Stanak) (f : Fld) (b : Nat) (x : Bool) (i : Nat := 0) : Stanak := h.wr f (setBit (h.rd f i) b x) i
def reg (h : Stanak) (r : Reg) (i : Nat := 0) : Nat := (h.regs.reg r i).toNat
def setReg (h : Stanak) (r : Reg) (v : Nat) (i : Nat := 0) : Stanak :=
  { h with regs := h.regs.setReg r i (BitVec.ofNat 32 v) }
def send (h : Stanak) (k : SentKind) (args : List Nat) : Stanak := { h with sent := h.sent ++ [⟨k, args⟩] }
/-- Log a tamper cause with the attestation counter, 16 entries (R432). -/
def tamper (h : Stanak) (cause : Nat) : Stanak :=
  let l := h.trust.tamper ++ [(h.trust.counter, cause)]
  { h with trust := { h.trust with tamper := l.drop (l.length - 16) } }
def iff (h : Stanak) (c : Bool) (f : Stanak → Stanak) : Stanak := if c then f h else h
def each (h : Stanak) (l : List Nat) (f : Stanak → Nat → Stanak) : Stanak := l.foldl f h

/-- Its pair and plane, from the station map (R191). -/
def pair (h : Stanak) : Nat := h.rd F.HUB_FCTRL_PAIR
def plane (h : Stanak) : Nat := h.rd F.HUB_FCTRL_PLANE

/-- The hub lane it sits on (R9). -/
def lane (h : Stanak) : Nat := h.plane * 32 + h.pair

/-- The Stanak's event sources (R358). -/
def eventSources : List Nat := [3, 4, 5, 7, 8, 9, 10, 12, 14]

/-- A change of a source is shown in both changed bitmaps, one per link or uplink (R370). -/
def markChanged (h : Stanak) (n : Nat) : Stanak :=
  if n < 32 then h.wrBit F.HBLT_CHGP0_CHG n true
  else if n < 64 then h.wrBit F.HBLT_CHGP1_CHG (n - 32) true
  else if n < 96 then h.wrBit F.HBLT_CHGQ0_CHG (n - 64) true
  else h.wrBit F.HBLT_CHGQ1_CHG (n - 96) true

/-- A source's cause rises (R358, R370): status, count and times follow every rising edge; with EN = 1 and class A or B
the edge is reported. An event that comes while the cause is 1 only keeps it at 1. -/
def rise (h : Stanak) (n : Nat) : Stanak :=
  if h.on F.HBLT_SRC_STAT_CAUSE n then h else
  let first := h.rd F.HBLT_SRC_STAT_COUNT n == 0
  let h := h.up F.HBLT_SRC_STAT_SET n |>.up F.HBLT_SRC_STAT_CAUSE n |>.inc F.HBLT_SRC_STAT_COUNT n
  let h := if first then h.wr F.HBLT_SRC_FIRST_STK (h.stroke % 2 ^ 32) n else h
  let h := h.wr F.HBLT_SRC_LAST_STK (h.stroke % 2 ^ 32) n
  let h := if h.on F.HBLT_SRC_CFG_EN n && decide (h.rd F.HBLT_SRC_CFG_CLASS n < 2) then
    h.wr F.HBLT_EVCNT_EVCNT (h.rd F.HBLT_EVCNT_EVCNT + 1) else h
  h.markChanged n

/-- A source's condition begins. -/
def raise (h : Stanak) (n : Nat) : Stanak :=
  let h := if eventSources.contains n then
    { h with blt := { h.blt with eventLeft := Tab.set 0 h.blt.eventLeft n 3 } } else h
  ({ h with blt := { h.blt with held := without h.blt.held n ++ [n] } }).rise n

/-- A source's condition ends: its cause falls, unless the force bit holds it. -/
def lower (h : Stanak) (n : Nat) : Stanak :=
  let h := { h with blt := { h.blt with held := without h.blt.held n } }
  if h.on F.HBLT_SRC_STAT_CAUSE n && !(h.on F.HBLT_SRC_STAT_FORCE n) then
    (h.down F.HBLT_SRC_STAT_CAUSE n).markChanged n
  else h

def level (h : Stanak) (n : Nat) (x : Bool) : Stanak := if x then h.raise n else h.lower n

/-- A condition at port `c` begins: the source's record carries the port of its last edge (R361). -/
def raiseAt (h : Stanak) (n c : Nat) : Stanak :=
  (if h.on F.HBLT_SRC_STAT_CAUSE n then h else { h with blt := { h.blt with port := Tab.set 0 h.blt.port n c } }).raise n

/-- Messages over link `l`, uplink 0 or 1 or cell port c as 2 + c, are accepted: its receiver is UP and it has keys (R404,
R411, R428). -/
def linkOpen (h : Stanak) (l : Nat) : Bool :=
  h.trust.keyed.contains l && (if l < 2 then h.rd F.HLAN_L_STAT_RXST l == 4 else h.rd F.HLNK_LK_STAT_RXST (l - 2) == 3)

/-- A message received over link `l`: it is discarded while the link is not open. -/
def linked (h : Stanak) (l : Nat) (f : Stanak → Stanak) : Stanak := if h.linkOpen l then f h else h

end Stanak

/-! ### Ihloon -/

namespace Ihloon

def rd (c : Ihloon) (f : Fld) (i : Nat := 0) : Nat := c.regs.fld f i
def rdS (c : Ihloon) (f : Fld) (i : Nat := 0) : Int := toS f.wid (c.rd f i)
def on (c : Ihloon) (f : Fld) (i : Nat := 0) : Bool := c.rd f i != 0
def wr (c : Ihloon) (f : Fld) (v : Nat) (i : Nat := 0) : Ihloon := { c with regs := c.regs.setFld f v i }
def wrS (c : Ihloon) (f : Fld) (v : Int) (i : Nat := 0) : Ihloon := c.wr f (ofS f.wid v) i
def wrSat (c : Ihloon) (f : Fld) (v : Int) (i : Nat := 0) : Ihloon := c.wr f (ofS f.wid (satS f.wid v)) i
def up (c : Ihloon) (f : Fld) (i : Nat := 0) : Ihloon := c.wr f 1 i
def down (c : Ihloon) (f : Fld) (i : Nat := 0) : Ihloon := c.wr f 0 i
def inc (c : Ihloon) (f : Fld) (i : Nat := 0) (n : Nat := 1) : Ihloon := { c with regs := c.regs.addSat f n i }
def wrBit (c : Ihloon) (f : Fld) (b : Nat) (x : Bool) (i : Nat := 0) : Ihloon := c.wr f (setBit (c.rd f i) b x) i
def reg (c : Ihloon) (r : Reg) (i : Nat := 0) : Nat := (c.regs.reg r i).toNat
def setReg (c : Ihloon) (r : Reg) (v : Nat) (i : Nat := 0) : Ihloon :=
  { c with regs := c.regs.setReg r i (BitVec.ofNat 32 v) }
def send (c : Ihloon) (k : SentKind) (args : List Nat) : Ihloon := { c with sent := c.sent ++ [⟨k, args⟩] }
def iff (c : Ihloon) (x : Bool) (f : Ihloon → Ihloon) : Ihloon := if x then f c else c
def each (c : Ihloon) (l : List Nat) (f : Ihloon → Nat → Ihloon) : Ihloon := l.foldl f c
def latch (c : Ihloon) (who : Nat) (r : Reg) (v : Nat) (i : Nat := 0) : Ihloon :=
  { c with latches := Tab.set 0 c.latches (who * 2 ^ 24 + r.at i) (BitVec.ofNat 32 v) }
def latched (c : Ihloon) (who : Nat) (r : Reg) (i : Nat := 0) : Nat :=
  (Tab.get 0 c.latches (who * 2 ^ 24 + r.at i)).toNat

/-- The Ihloon's event sources (R358). -/
def eventSources : List Nat := [10, 15, 16, 17, 18, 20, 21, 22, 23, 24]

/-- A change of a source is shown in the bitmap of each link (R370). -/
def markChanged (c : Ihloon) (n : Nat) : Ihloon :=
  if n < 32 then (c.wrBit F.CBLT_CHGP0_CHG n true).wrBit F.CBLT_CHGQ0_CHG n true
  else (c.wrBit F.CBLT_CHGP1_CHG (n - 32) true).wrBit F.CBLT_CHGQ1_CHG (n - 32) true

/-- A source's cause rises (R358, R370). -/
def rise (c : Ihloon) (n : Nat) : Ihloon :=
  if c.on F.CBLT_SRC_STAT_CAUSE n then c else
  let first := c.rd F.CBLT_SRC_STAT_COUNT n == 0
  let c := c.up F.CBLT_SRC_STAT_SET n |>.up F.CBLT_SRC_STAT_CAUSE n |>.inc F.CBLT_SRC_STAT_COUNT n
  let c := if first then c.wr F.CBLT_SRC_FIRST_STK (c.stroke % 2 ^ 32) n else c
  let c := c.wr F.CBLT_SRC_LAST_STK (c.stroke % 2 ^ 32) n
  let c := if c.on F.CBLT_SRC_CFG_EN n && decide (c.rd F.CBLT_SRC_CFG_CLASS n < 2) then
    c.wr F.CBLT_EVCNT_EVCNT (c.rd F.CBLT_EVCNT_EVCNT + 1) else c
  c.markChanged n

/-- A source's condition begins. -/
def raise (c : Ihloon) (n : Nat) : Ihloon :=
  let c := if eventSources.contains n then
    { c with blt := { c.blt with eventLeft := Tab.set 0 c.blt.eventLeft n 3 } } else c
  ({ c with blt := { c.blt with held := without c.blt.held n ++ [n] } }).rise n

/-- A source's condition ends: its cause falls, unless the force bit holds it. SET of sources 0-7 follows the PRT latches
(R379). -/
def lower (c : Ihloon) (n : Nat) : Ihloon :=
  let c := { c with blt := { c.blt with held := without c.blt.held n } }
  if c.on F.CBLT_SRC_STAT_CAUSE n && !(c.on F.CBLT_SRC_STAT_FORCE n) then
    ((c.down F.CBLT_SRC_STAT_CAUSE n).iff (decide (n < 8)) (·.down F.CBLT_SRC_STAT_SET n)).markChanged n
  else c

def level (c : Ihloon) (n : Nat) (x : Bool) : Ihloon := if x then c.raise n else c.lower n

end Ihloon

/-- An exact quotient whose rounding the manual does not state: one of the two neighbouring integers, left free. -/
def quotFree (num den : Int) : Int :=
  if den = 0 then 0 else if num % den = 0 then num / den else num / den + (if Config.roundUp num den then 1 else 0)

end Sys2Proof.Machine
end

