-- ==== Sys2Proof/Machine/Time.lean ====
section
/-!
DEFINITION. Baseline time, PTP and its servo, and the discipline of the following twin, hubs and cells (R26-R46).
-/

namespace Sys2Proof.Machine

/-- Fine units (1/13107200 ns) in one ns. -/
def fineNs : Int := 13107200

/-- 2^-16 ns in fine units. -/
def fine16 (t : Int) : Int := t * 200

/-- 2^-8 ns in fine units. -/
def fine8 : Int := 51200

/-- Fine units as a number of 2^-32 ns. -/
def fineToBl (x : Int) : Int := quotFree (x * 8192) 25

/-- Ingress delay from the balls to the MAC stamp, fine units (R32). -/
def ingressDelay (speed : Nat) : Int :=
  if speed = 0 then 2422210560 else if speed = 1 then 1090519040 else if speed = 2 then 671088640 else 0

/-- Egress delay from the MAC stamp to the balls, fine units (R32). -/
def egressDelay (speed : Nat) : Int :=
  if speed = 0 then 1258291200 else if speed = 1 then 545259520 else if speed = 2 then 503316480 else 0

/-- States of the servo as PTP_STATUS.STATE encodes them (R45). -/
def stFree : Nat := 0
def stAcquire : Nat := 1
def stLocked : Nat := 2
def stHoldover : Nat := 3
def stSuspect : Nat := 4
def stFollow : Nat := 5

namespace Gloesk

/-- Mode of the pair of a port: 0 independent, 1 PRP, 2 HSR; 3 is treated as 0 (R72, R97). -/
def pairMode (g : Gloesk) (port : Nat) : Nat :=
  let m := if port < 2 then g.rd F.SVI_PAIR_PAIRA else g.rd F.SVI_PAIR_PAIRB
  if m = 3 then 0 else m

/-- A port's role: 4-7 are treated as 0, disabled (R46). -/
def portRole (g : Gloesk) (port : Nat) : Nat :=
  let r := g.rd F.PTP_P_CFG_ROLE port
  if r < 4 then r else 0

/-- PTP frames pass between the port and the other one of its HSR pair (R34, R46). -/
def hsrPasses (g : Gloesk) (port : Nat) : Bool :=
  g.on F.PTP_CTRL_EN && g.pairMode port == 2 && g.portRole port != 0 && g.portRole (port ^^^ 1) != 0

/-- A receive timestamp referred to the medium: the ingress constant and ICORR are delays between the medium and the MAC
stamp, so both are taken from it (R32; the sign is a DESIGN CHOICE, log entry 206). -/
def rxRef (g : Gloesk) (port : Nat) (stamp : Int) : Int :=
  fine16 stamp - ingressDelay (g.rd F.PTP_P_CFG_SPEED port) - g.rdS F.PTP_P_ICORR_CORR port * fine8

/-- A transmit timestamp referred to the medium (R32). -/
def txRef (g : Gloesk) (port : Nat) (stamp : Int) : Int :=
  fine16 stamp + egressDelay (g.rd F.PTP_P_CFG_SPEED port) + g.rdS F.PTP_P_ECORR_CORR port * fine8

/-- The peer link delay of a port, fine units. -/
def peerDelay (g : Gloesk) (port : Nat) : Int := g.rdS F.PTP_P_PDELAY_DELAY port * fine8

/-- The servo's state. -/
def servoState (g : Gloesk) : Nat := g.rd F.PTP_STATUS_STATE

/-- The stroke number of Baseline time, modulo 2^48 (R28). -/
def strokeOfTime (g : Gloesk) : Nat := strokeMod (g.ns / g.period)

/-- Take the stroke number from Baseline time. -/
def syncStroke (g : Gloesk) : Gloesk := { g with time := { g.time with stroke := g.strokeOfTime } }

/-- Move Baseline time by a number of 2^-32 ns; it never passes below the epoch. -/
def moveTime (g : Gloesk) (d : Int) : Gloesk :=
  { g with time := { g.time with bl := ((g.time.bl : Int) + d).toNat % (2 ^ 48 * 1000000000 * 2 ^ 32) } }

/-- The servo enters a state: vector 6 on a change (R452), source 16 while SUSPECT (R39, R360), source 17 ends with
HOLDOVER (R38). -/
def enterServo (g : Gloesk) (st : Nat) : Gloesk :=
  if g.servoState = st then g else
  let old := g.servoState
  let g := (g.wr F.PTP_STATUS_STATE st).msix 6
  let g := { g with time := { g.time with good := 0, bad := 0, clean := 0 } }
  let g : Gloesk := if st = stSuspect then g.raise 16 else if old = stSuspect then g.lower 16 else g
  if old = stHoldover then { g with time := { g.time with holdExc := false } }.lower 17 else g

/-- The mean of the last 64 rate values (R38). -/
def meanRate (g : Gloesk) : Int :=
  if g.time.rates.isEmpty then g.rdS F.PTP_RATE_ADJ else quotFree g.time.rates.sum g.time.rates.length

/-- The rate without slewing: the recovered TL0 clock's while this twin follows its partner, else PTP_RATE (R36, R40). -/
def baseRate (g : Gloesk) : Int := if g.servoState = stFollow then g.time.tlRate else g.rdS F.PTP_RATE_ADJ

/-- A stroke begins: the rate in effect, and in it the part of a following twin's correction that this stroke slews, at most
2^-10 of it (R27, R40; DEDUCED, log entry 33). -/
def strokeRate (g : Gloesk) : Gloesk :=
  let part := clampI (-(2 ^ 30)) (2 ^ 30) (g.time.slew * 256 / g.period)
  { g with time := { g.time with rate := g.baseRate + part, slew := g.time.slew - part * g.period / 256 } }

/-- Hold the rate as HOLDOVER and SUSPECT do (R38, R39). -/
def holdRate (g : Gloesk) : Gloesk := g.wrSat F.PTP_RATE_ADJ g.meanRate

/-- The rate unit: a rate is a number of 1/servoDen; 2^-40 is servoLsb of them. -/
def servoDen : Int := 25600000000000 * 2 ^ 40
def servoLsb : Int := 25600000000000

/-- The grandmaster's frequency estimate over servoDen (R36). -/
def freqNum (integ : Int) (negLog : Nat) : Int := -integ * 2 ^ negLog

/-- The grandmaster's own statement of quality is out of tolerance (R39). -/
def gmClassBad (g : Gloesk) : Bool :=
  !([6, 7, 13, 14].contains g.time.gmClass) || (g.on F.PTP_CTRL_PROFILE && decide (1000 < g.time.gmInaccuracy))

/-- PTP_STATUS shows the conditions of R39 that are broken: the frequency window, the grandmaster's own statement, an offset
beyond 1 ms. -/
def showSuspect (g : Gloesk) (freq cls far : Bool) : Gloesk :=
  ((g.iff freq (·.up F.PTP_STATUS_SUSPECT_FREQ)).iff cls (·.up F.PTP_STATUS_SUSPECT_CLASS)).iff far (·.up F.PTP_STATUS_SUSPECT_OFS)

/-- Enter SUSPECT with its reasons (R39). -/
def toSuspect (g : Gloesk) (freq cls far : Bool) : Gloesk := ((g.showSuspect freq cls far).holdRate).enterServo stSuspect

/-- A frequency estimate lies outside ±FREQ_WIN (R39). -/
def freqBad (g : Gloesk) (fr : Int) : Bool :=
  decide ((g.rd F.PTP_GMWIN_FREQ_WIN : Int) * servoDen < (fr.natAbs : Int) * 1000000)

/-- The grandmaster's frequency while the servo is SUSPECT and its integral stands still: the held rate less the drift of the
offset since the Sync before (DEDUCED, log entry 33). -/
def driftFreq (g : Gloesk) (ofs : Int) (n : Nat) : Int :=
  g.rdS F.PTP_RATE_ADJ * servoLsb - (ofs - g.time.lastOfs) * 2 ^ (31 + n)

/-- The verifier's challenge to the far end of a link, 64 for the Ligature link (R428): its keys are generated afresh, which an
entropy failure stops (R420). -/
def challengeLink (g : Gloesk) (l : Nat) : Gloesk :=
  if g.trust.entropyBad then g else g.send .secure [if l < 64 then 256 * (l % 32) + 0xC0 + l / 32 else 0xFF - g.rd F.TWN_STATUS_TWIN, 0]

/-- Every link that holds keys is attested afresh (R434). -/
def attestLinks (g : Gloesk) : Gloesk := g.each g.trust.keyed (fun g l => g.challengeLink l)

/-- Step Baseline time by `-ofs` (R36): permitted only while the stroke cycle is stopped. -/
def stepBaseline (g : Gloesk) (ofs : Int) : Gloesk := ((g.moveTime (-(fineToBl ofs))).syncStroke).attestLinks

/-- 0 is treated as 1 (R45). -/
def atLeast1 (n : Nat) : Nat := if n = 0 then 1 else n

/-- Lock and unlock counting (R37). -/
def servoLock (g : Gloesk) (ofs : Int) : Gloesk :=
  let a := ofs.natAbs
  let inside := decide (a < g.rd F.PTP_GMWIN_LOCK_NS * 4 * 13107200)
  let beyond := decide (250 * 13107200 < a)
  let g := { g with time := { g.time with good := if inside then g.time.good + 1 else 0,
                                          bad := if beyond then g.time.bad + 1 else 0 } }
  if g.servoState = stAcquire ∧ 16 ≤ g.time.good then g.enterServo stLocked
  else if g.servoState = stLocked ∧ 4 ≤ g.time.bad then g.enterServo stAcquire else g

/-- The proportional-integral step of R36 for an accepted offset. -/
def servoRate (g : Gloesk) (ofs : Int) (n : Nat) : Gloesk :=
  let fr := freqNum g.time.integ n
  let want := fr - ofs * 2 ^ (31 - g.rd F.PTP_SERVO_KP_SHIFT) * 2 ^ n
  let lim : Int := atLeast1 (g.rd F.PTP_SERVO_RATE_CLAMP) * (servoDen / 1000000)
  let want := clampI (-lim) lim want
  let slew : Int := atLeast1 (g.rd F.PTP_SERVO_SLEW) * (servoDen / 1000000000) / 2 ^ n
  let rate := g.rdS F.PTP_RATE_ADJ * servoLsb
  let rate := rate + clampI (-slew) slew (want - rate)
  let g := g.wrSat F.PTP_RATE_ADJ (quotFree rate servoLsb)
  { g with time := { g.time with rates := keepLast 64 (g.time.rates ++ [g.rdS F.PTP_RATE_ADJ]) } }

/-- The servo acts on an accepted Sync with offset `ofs` (R36, R37, R38, R39). The first Sync it accepts in FREE takes it to
ACQUIRE, and with SERVO_EN = 0 its state stands still (R45): both are a DESIGN CHOICE, log entry 206. -/
def servo (g : Gloesk) (ofs : Int) (n : Nat) : Gloesk :=
  let g := g.wrSat F.PTP_OFFSET_OFS (quotFree ofs fine8)
  let drift := g.driftFreq ofs n
  let g := { g with time := { g.time with negLog := n, lastOfs := ofs } }
  let integ := g.time.integ + ofs * 2 ^ (31 - g.rd F.PTP_SERVO_KI_SHIFT)
  let tooFar := g.running && decide (1000000 * 13107200 < ofs.natAbs)
  let cls := g.gmClassBad
  if !(g.on F.PTP_CTRL_SERVO_EN) then g
  else if g.servoState = stFollow then { g with time := { g.time with integ := integ } }
  else if g.servoState = stHoldover then g.enterServo stAcquire
  else if g.servoState = stSuspect then
    let freq := g.freqBad drift
    let g := g.showSuspect freq cls tooFar
    let g := { g with time := { g.time with clean := if tooFar || freq || cls then 0 else g.time.clean + 1 } }
    if 16 ≤ g.time.clean then g.enterServo stAcquire else g
  else if !g.running ∧ 1000 * 13107200 < ofs.natAbs then
    let g := g.stepBaseline ofs
    { g with time := { g.time with integ := 0, good := 0, bad := 0 } }.enterServo stAcquire
  else if tooFar then g.toSuspect (g.freqBad (freqNum g.time.integ n)) cls true
  else
    let g := { g with time := { g.time with integ := integ } }
    let freq := g.freqBad (freqNum integ n)
    if freq || cls then g.toSuspect freq cls false
    else
      let g : Gloesk := if g.servoState = stFree then g.enterServo stAcquire else g
      (g.servoRate ofs n).servoLock ofs

/-- The portState values of IEEE 1588-2019 (R46; PRESUMED, log entry 10). -/
def psDisabled : Nat := 3
def psListening : Nat := 4
def psMaster : Nat := 6
def psPassive : Nat := 7
def psSlave : Nat := 9

/-- The portState of a port: a slave-capable port that has heard an Announce is SLAVE or PASSIVE (R33, R46). -/
def portState (g : Gloesk) (p : Nat) : Nat :=
  if !(g.on F.PTP_CTRL_EN) then psDisabled
  else if g.portRole p = 1 ∧ g.rd F.PTP_STATUS_SLAVE_PORT = p then psSlave
  else if g.portRole p = 1 ∧ g.time.announces.any (fun e => e.1 = p) then psPassive
  else if g.rd F.PTP_P_CFG_SPEED p = 3 then psDisabled
  else if g.portRole p = 1 then psListening
  else if g.portRole p = 2 then psMaster else psDisabled

/-- PTP_Pn_STATE of every port. -/
def showPorts (g : Gloesk) : Gloesk :=
  g.each (List.range 4) (fun g p => g.wr F.PTP_P_STATE_PORT_STATE (g.portState p) p)

/-- The data-set comparison of the BMCA: the key to compare, smaller is better (R33; PRESUMED, log entry 10). -/
def annKey (a : Announce) : List Nat :=
  [a.priority1, a.clockClass, a.accuracy, a.variance, a.priority2, a.identity, a.steps, a.sender]

/-- Lexicographic order of keys. -/
def keyLess : List Nat → List Nat → Bool
  | [], _ => false
  | _ :: _, [] => false
  | a :: as, b :: bs => if a < b then true else if b < a then false else keyLess as bs

/-- The better of two announced ports. -/
def betterPort (x y : Nat × Announce) : Nat × Announce :=
  if keyLess (annKey y.2 ++ [y.1]) (annKey x.2 ++ [x.1]) then y else x

/-- The slave-capable ports that heard an Announce and did not lose the SLAVE role for want of Syncs (R33). -/
def candidates (g : Gloesk) : List (Nat × Announce) :=
  g.time.announces.filter (fun e => g.portRole e.1 = 1 ∧ !(g.time.deaf.contains e.1))

/-- The BMCA picks the SLAVE port; the other slave-capable ports become PASSIVE (R33). With no candidate no port is SLAVE. -/
def bmca (g : Gloesk) : Gloesk :=
  match g.candidates with
  | [] => (g.wr F.PTP_STATUS_SLAVE_PORT 7).showPorts
  | c :: cs =>
    let best := cs.foldl betterPort c
    let changed := decide (g.rd F.PTP_STATUS_SLAVE_PORT ≠ 7 ∧ g.time.gmIdentity ≠ best.2.identity)
    let g := (g.wr F.PTP_STATUS_SLAVE_PORT best.1).iff changed (·.up F.PTP_STATUS_GM_CHANGED)
    { g with time := { g.time with gmIdentity := best.2.identity, gmClass := best.2.clockClass,
                                   gmInaccuracy := best.2.inaccuracy } }.showPorts

/-- A port's Announce no longer counts: its link is down, or it is not slave-capable any more (R33). -/
def dropPort (g : Gloesk) (port : Nat) : Gloesk :=
  let g : Gloesk := { g with time := { g.time with
    announces := g.time.announces.filter (fun e => e.1 ≠ port), passiveLive := without g.time.passiveLive port,
    deaf := without g.time.deaf port, syncs := g.time.syncs.filter (fun e => e.1 ≠ port) } }
  if g.rd F.PTP_STATUS_SLAVE_PORT = port then g.bmca else g.showPorts

/-- A write of a port's CFG or of PTP_CTRL has taken effect: ports that are no longer slave-capable drop out (R33, R46). -/
def rolesChanged (g : Gloesk) : Gloesk :=
  (((List.range 4).filter (fun p => g.portRole p != 1 &&
    (g.time.announces.any (fun e => e.1 = p) || g.rd F.PTP_STATUS_SLAVE_PORT == p))).foldl
      (fun (g : Gloesk) p => g.dropPort p) g).showPorts

/-- A Sync on a port that had lost the SLAVE role: it takes part in the BMCA again (R33). -/
def hearsAgain (g : Gloesk) (port : Nat) : Gloesk :=
  if g.time.deaf.contains port then { g with time := { g.time with deaf := without g.time.deaf port } }.bmca else g

/-- A complete Sync measurement on a port: the SLAVE port feeds the servo, a PASSIVE port is measured only (R33). -/
def syncMeasured (g : Gloesk) (port : Nat) (rx origin corr : Int) (n : Nat) : Gloesk :=
  let ofs := rx - (origin + corr) - g.peerDelay port
  if !(g.on F.PTP_CTRL_EN) then g
  else
    let g := g.hearsAgain port
    if g.rd F.PTP_STATUS_SLAVE_PORT = port then
      { g with time := { g.time with passiveLive := [] } }.servo ofs n
    else if g.rd F.PTP_P_STATE_PORT_STATE port = psPassive then
      { g with time := { g.time with passive := Tab.set 0 g.time.passive port ofs,
                                     passiveLive := port :: without g.time.passiveLive port } }
    else g

/-- A Sync arrives: one-step at once, two-step held for its Follow_Up (R30). -/
def sync (g : Gloesk) (port : Nat) (twoStep : Bool) (seq : Nat) (stamp origin corr : Int) (n : Nat) : Gloesk :=
  let rx := g.rxRef port stamp
  if twoStep then
    let rest := g.time.syncs.filter (fun e => e.1 ≠ port)
    { g with time := { g.time with syncs := rest ++ [(port, ⟨seq, rx, fine16 corr, n⟩)] } }
  else g.syncMeasured port rx (fine16 origin) (fine16 corr) n

/-- A Follow_Up completes the two-step Sync of its sequence number (R30), and passes unchanged between the ports of an HSR pair
(R34). -/
def followUp (g : Gloesk) (port seq : Nat) (origin corr : Int) : Gloesk :=
  let g := g.iff (g.hsrPasses port) (·.send .ptpForward [port ^^^ 1, 2, seq, ofS 80 origin, ofS 64 corr])
  match g.time.syncs.find? (fun e => e.1 = port ∧ e.2.seq = seq) with
  | none => g
  | some (_, p) =>
    let g := { g with time := { g.time with syncs := g.time.syncs.filter (fun e => e.1 ≠ port) } }
    g.syncMeasured port p.rx (fine16 origin) (p.corr + fine16 corr) p.negLog

/-- An Announce feeds the BMCA, the class check of R39 and PTP_UTC (R45). `utc` is the word of PTP_UTC. -/
def announce (g : Gloesk) (port : Nat) (a : Announce) (utc : Nat) : Gloesk :=
  if !(g.on F.PTP_CTRL_EN) || decide (g.portRole port ≠ 1) then g else
  let rest := g.time.announces.filter (fun e => e.1 ≠ port)
  let g := { g with time := { g.time with announces := rest ++ [(port, a)] } }.bmca
  let g := g.iff (decide (g.rd F.PTP_STATUS_SLAVE_PORT = port)) (·.setReg R.PTP_UTC (utc % 2 ^ 19))
  if !(g.gmClassBad && g.on F.PTP_CTRL_SERVO_EN) then g
  else if g.servoState = stAcquire ∨ g.servoState = stLocked then g.toSuspect false true false
  else g.iff (g.servoState == stSuspect) (·.showSuspect false true false)

/-- HOLD_TO Sync intervals without a Sync on the SLAVE port: the SLAVE role moves to a PASSIVE port that still hears
Syncs, or the servo enters HOLDOVER (R33, R38). A FREE servo that has no SLAVE port stays FREE (R37). -/
def syncTimeout (g : Gloesk) : Gloesk :=
  let old := g.rd F.PTP_STATUS_SLAVE_PORT
  match g.time.passiveLive with
  | p :: _ =>
    let g := g.wr F.PTP_STATUS_SLAVE_PORT p
    { g with time := { g.time with
      passiveLive := [], deaf := if old < 4 then without g.time.deaf old ++ [old] else g.time.deaf } }.showPorts
  | [] =>
    if g.servoState = stFollow ∨ g.servoState = stHoldover ∨ (g.servoState = stFree ∧ 4 ≤ old) then g
    else g.holdRate.enterServo stHoldover

/-- PTP_HOLDSPEC seconds have passed in HOLDOVER (R38). -/
def holdspecExpiry (g : Gloesk) : Gloesk :=
  if g.servoState = stHoldover then
    { g with time := { g.time with holdExc := true } }.up F.PTP_STATUS_HOLDSPEC_EXC |>.raise 17
  else g

/-- The clockClass a master port advertises (R35). In FOLLOW, which the table of R35 leaves out, it is the grandmaster's
(DESIGN CHOICE, log entry 206). -/
def clockClass (g : Gloesk) : Nat :=
  if g.servoState = stLocked then g.time.gmClass
  else if g.servoState = stHoldover then (if g.time.holdExc then 52 else 7)
  else if g.servoState = stSuspect then 52
  else if g.servoState = stFollow then g.time.gmClass else 255

/-- The next sequence number of a kind of message on a port. -/
def seqOf (g : Gloesk) (k : Nat) : Nat := Tab.get 0 g.time.seqs k

/-- Advance a sequence number. -/
def seqNext (g : Gloesk) (k m : Nat) : Gloesk :=
  { g with time := { g.time with seqs := Tab.set 0 g.time.seqs k ((g.seqOf k + 1) % m) } }

/-- A master port sends Sync from Baseline time, referred to the medium (R32, R33). -/
def masterSync (g : Gloesk) (port : Nat) : Gloesk :=
  if g.on F.PTP_CTRL_EN && g.rd F.PTP_P_CFG_ROLE port == 2 then
    (g.send .ptpSync [port, g.seqOf port, ((g.time.bl : Int) + fineToBl (g.txRef port 0)).toNat]).seqNext port 65536
  else g

/-- A master port sends Announce (R35). -/
def announceTransmit (g : Gloesk) (port : Nat) : Gloesk :=
  if g.on F.PTP_CTRL_EN && g.rd F.PTP_P_CFG_ROLE port == 2 then
    (g.send .ptpAnnounce [port, g.seqOf (4 + port), g.clockClass, g.reg R.PTP_UTC]).seqNext (4 + port) 65536
  else g

/-- A received Pdelay_Req is answered one-step; `rx` and `tx` are MAC stamps in 2^-16 ns (R30). -/
def pdelayReq (g : Gloesk) (port seq : Nat) (rx tx : Int) : Gloesk :=
  if g.on F.PTP_CTRL_EN && g.portRole port != 0 then
    g.send .ptpPdelayResp [port, seq, ofS 64 ((g.txRef port tx - g.rxRef port rx) / 200)]
  else g

/-- This twin's own Pdelay_Req is sent at MAC stamp `tx` (R30, R46). -/
def pdelayReqTransmit (g : Gloesk) (port : Nat) (tx : Int) : Gloesk :=
  if g.on F.PTP_CTRL_EN && g.portRole port != 0 && g.on F.PTP_P_CFG_PDELAY_EN port then
    let seq := g.seqOf (8 + port)
    let g := (g.send .ptpPdelayReq [port, seq]).seqNext (8 + port) 65536
    let rest := g.time.pdelays.filter (fun e => e.1 ≠ port)
    { g with time := { g.time with pdelays := rest ++ [(port, ⟨seq, g.txRef port tx, 0, 0⟩)] } }
  else g

/-- A Pdelay_Resp (one-step or two-step) or its Follow_Up: the mean peer link delay is half the round trip less the
turn-around at the peer (R30). `kind` 0 one-step response, 1 two-step response, 2 follow-up. -/
def pdelayResp (g : Gloesk) (port seq kind : Nat) (rx turn : Int) : Gloesk :=
  match g.time.pdelays.find? (fun e => e.1 = port ∧ e.2.seq = seq) with
  | none => g
  | some (_, p) =>
    let rest := g.time.pdelays.filter (fun e => e.1 ≠ port)
    if kind = 1 then
      { g with time := { g.time with pdelays := rest ++ [(port, { p with t4 := g.rxRef port rx, turn := fine16 turn })] } }
    else
      let t4 := if kind = 0 then g.rxRef port rx else p.t4
      let d := t4 - p.t1 - (p.turn + fine16 turn)
      ({ g with time := { g.time with pdelays := rest } }).wrSat F.PTP_P_PDELAY_DELAY (quotFree d (2 * fine8)) port

/-- PTP frames the Gloesk discards are counted; those it ignores are not (R31). `kind` 0 Delay_Req, 1 Delay_Resp,
2 management, 3 Signaling, 4 another domain, 5 over UDP. -/
def ptpDiscard (g : Gloesk) (kind : Nat) : Gloesk := if kind < 3 then g.inc F.PTP_ERRCNT_DROP else g

/-- One-step transparent clock on an HSR pair (R34): the residence between the stamps of R32, scaled to the grandmaster's rate,
and for Sync the peer link delay of the ingress port, are added to correctionField (2^-16 ns). -/
def transparentForward (g : Gloesk) (port : Nat) (isSync : Bool) (rx tx corr : Int) : Gloesk :=
  let spent := g.txRef (port ^^^ 1) tx - g.rxRef port rx
  let res := quotFree (spent * (servoDen + freqNum g.time.integ g.time.negLog)) (servoDen * 200)
  let link := if isSync then quotFree (g.peerDelay port) 200 else 0
  g.iff (g.hsrPasses port) (·.send .ptpForward [port ^^^ 1, if isSync then 1 else 0, ofS 64 (corr + res + link)])

/-- A requested step by the last measured offset (R36, R45). -/
def stepReq (g : Gloesk) : Gloesk :=
  let g := g.down F.PTP_CTRL_STEP_REQ
  if g.running then g.inc F.PTP_ERRCNT_REJ else g.stepBaseline g.time.lastOfs

/-- Legal stroke periods (R28). -/
def periodLegal (t : Nat) : Bool := decide (500 ≤ t) && decide (t ≤ 20000) && 1000000000 % t == 0

/-- A write of PTP_PERIOD (R29). -/
def periodWrite (g : Gloesk) (v : Nat) : Gloesk :=
  if g.running || !(periodLegal v) then g.inc F.PTP_ERRCNT_REJ else (g.wr F.PTP_PERIOD_PERIOD v).syncStroke

/-- A host write of PTP_RATE (R36, R45). -/
def rateWrite (g : Gloesk) (v : Nat) : Gloesk :=
  if g.on F.PTP_CTRL_SERVO_EN then g.inc F.PTP_ERRCNT_REJ else g.wr F.PTP_RATE_ADJ v

/-- A read of PTP_TIME0 returns the sub-nanoseconds and latches the rest (R26, R45). -/
def time0Read (g : Gloesk) (who : Nat) : Gloesk :=
  let g := g.latch who R.PTP_TIME1 g.nsOfSec |>.latch who R.PTP_TIME2 (g.sec % 2 ^ 32)
    |>.latch who R.PTP_TIME3 (g.sec / 2 ^ 32 % 2 ^ 16)
  g.answer who [g.time.bl / 2 ^ 16 % 2 ^ 16]

/-- A read of PTP_STROKE0 returns the low word and latches PTP_STROKE1 (R45). -/
def stroke0Read (g : Gloesk) (who : Nat) : Gloesk :=
  (g.latch who R.PTP_STROKE1 (g.stroke / 2 ^ 32)).answer who [g.stroke % 2 ^ 32]

end Gloesk

/-- The offset of a two-way exchange (R41), fine units; the stamps are in 2^-16 ns and `a` in 10 ps. -/
def exchangeOffset (t1 t2 t3 t4 a : Int) : Int :=
  200 * (t2 - t1) - (100 * ((t4 - t1) - (t3 - t2)) + a * 65536)

/-- Limits of a follower (R41), fine units. -/
structure FollowLimits where
  lockN : Nat
  lock : Nat
  unlockN : Nat
  unlock : Nat
  slew : Nat
  deriving DecidableEq, Repr

/-- The Stanak's row of R41. -/
def stanakLimits : FollowLimits := ⟨8, 6553600, 4, 26214400, 655360⟩

/-- The Ihloon's row of R41. -/
def ihloonLimits : FollowLimits := ⟨4, 13107200, 4, 39321600, 819200⟩

namespace Follower

/-- An exchange over side `side` with offset `ofs` (R41): lock counting and correction on the followed side only. -/
def exchange (f : Follower) (l : FollowLimits) (side : Nat) (ofs : Int) : Follower :=
  let f := if side = 0 then { f with ofs0 := ofs, has0 := true } else { f with ofs1 := ofs, has1 := true }
  if side ≠ f.side then f else
  let inside := decide (ofs.natAbs ≤ l.lock)
  let beyond := decide (l.unlock < ofs.natAbs)
  let f := { f with inCnt := if inside then f.inCnt + 1 else 0, outCnt := if beyond then f.outCnt + 1 else 0 }
  let was := f.locked
  let f := if !was && decide (l.lockN ≤ f.inCnt) then { f with locked := true, outCnt := 0 }
           else if was && decide (l.unlockN ≤ f.outCnt) then { f with locked := false, inCnt := 0 } else f
  if was then { f with phase := ofs } else { f with applied := f.applied + ofs, phase := 0 }

/-- One stroke of slewing once locked (R41). -/
def slewStroke (f : Follower) (l : FollowLimits) : Follower :=
  let d := clampI (-(l.slew : Int)) l.slew f.phase
  { f with phase := f.phase - d, applied := f.applied + d }

/-- The offsets over the two planes differ by more than 3 ns (R44). -/
def disagree (f : Follower) : Bool := f.has0 && f.has1 && decide (39321600 < (f.ofs0 - f.ofs1).natAbs)

end Follower

namespace Stanak

/-- A completed exchange with the twin on uplink `u` (R41, R44). -/
def timeExchange (h : Stanak) (u : Nat) (ofs : Int) : Stanak :=
  let was := h.follow.locked
  let h := { h with follow := h.follow.exchange stanakLimits u ofs }
  if was = h.follow.locked then h else h.level 0 was

end Stanak

namespace Ihloon

/-- A completed exchange over a plane (R41, R44). -/
def timeExchange (c : Ihloon) (plane : Nat) (ofs : Int) : Ihloon :=
  let was := c.follow.locked
  let c := { c with follow := c.follow.exchange ihloonLimits plane ofs }
  let c : Ihloon := if was = c.follow.locked then c else c.level 11 was
  c.level 12 c.follow.disagree

end Ihloon

end Sys2Proof.Machine
end

