-- ==== Sys2Proof/Machine/Standing.lean ====
section
/-!
DEFINITION. The standing of a twin: its role, claims and their order, suspicion, and who leads Baseline time (R40,
R326-R334).
-/

namespace Sys2Proof.Machine

/-- `higher(a, b)` of R330. -/
def higher (a b : Nat) : Bool :=
  let d := (a + 65536 - b % 65536) % 65536
  decide (1 ≤ d) && decide (d ≤ 32767)

/-- `above` of R330: pairs of claim and twin number. -/
def above (ca na cb nb : Nat) : Bool := higher ca cb || (!(higher cb ca) && na == 0 && nb == 1)

/-- Roles as TWN_STATUS.ROLE encodes them (R328). -/
def roleStandby : Nat := 0
def roleActive : Nat := 1
def roleOut : Nat := 2
def roleStarting : Nat := 3

namespace Gloesk

/-- The role of this twin. -/
def role (g : Gloesk) : Nat := g.rd F.TWN_STATUS_ROLE

/-- The number of this twin. -/
def twinNo (g : Gloesk) : Nat := g.rd F.TWN_STATUS_TWIN

/-- The claim of this twin. -/
def claim (g : Gloesk) : Nat := g.rd F.TWN_CLAIM_CLAIM

/-- A partner heartbeat has arrived and the partner is not declared failed (R338). -/
def peerAlive (g : Gloesk) : Bool := g.twin.heard.isSome && !g.twin.failed

/-- The partner takes the role `r`, as its heartbeats and the common outcomes show. -/
def peerIs (g : Gloesk) (r : Nat) : Bool := g.peerAlive && g.twin.peerRole == r

/-- This twin is in step: STANDBY, or ACTIVE with a STANDBY partner (R328). -/
def inStep (g : Gloesk) : Bool := g.role == roleStandby || (g.role == roleActive && g.peerIs roleStandby)

/-- TWN_STATUS.INSTEP shows whether the twin is in step. -/
def showStep (g : Gloesk) : Gloesk := g.wr F.TWN_STATUS_INSTEP (if g.inStep then 1 else 0)

/-- A join is in its SHADOW phase (R351). -/
def shadow (g : Gloesk) : Bool := g.rd F.TWN_JOIN_PHASE == 3

/-- This twin expects summaries and digests of its partner (R328, R338): as STANDBY, as ACTIVE with a STANDBY or
shadowing partner, and as the joiner in SHADOW. -/
def expectPeer (g : Gloesk) : Bool :=
  (g.role == roleStandby && !g.twin.failed) || (g.role == roleActive && (g.peerIs roleStandby || g.shadow || (g.peerIs roleActive
    && g.twin.handover.isSome))) || (g.role == roleOut && g.shadow)

/-- The role changes: vector 2 (R452), INSTEP, and PROV, which only a STANDBY twin shows. -/
def enterRole (g : Gloesk) (r : Nat) : Gloesk :=
  if g.role = r then g.showStep
  else
    let g := (g.wr F.TWN_STATUS_ROLE r).msix 2
    let g := g.down F.TWN_STATUS_PROV
    { g with twin := { g.twin with provFrom := none, outranked := 0 } }.showStep

/-- This twin's pair ranks above its partner's, or there is no live partner (R40, R85, R95). -/
def leadsClaim (g : Gloesk) : Bool :=
  !g.peerAlive || above g.claim g.twinNo (g.rd F.TWN_PEER_CLAIM) (1 - g.twinNo)

/-- A claim has been seen: CLMAX keeps the highest (R331). -/
def seeClaim (g : Gloesk) (c : Nat) : Gloesk :=
  if higher c (g.rd F.TWN_CLAIM_CLMAX) then g.wr F.TWN_CLAIM_CLMAX c else g

/-- Take the claim CLMAX + 1 (R331). -/
def takeClaim (g : Gloesk) : Gloesk :=
  let c := (g.rd F.TWN_CLAIM_CLMAX + 1) % 65536
  (g.wr F.TWN_CLAIM_CLAIM c).wr F.TWN_CLAIM_CLMAX c

/-- The partner's role changes as both twins know it will (R335, R345). The drill interval counts from the moment it became
STANDBY (R347). -/
def peerTurns (g : Gloesk) (r : Nat) : Gloesk :=
  let from_ := if r = roleStandby ∧ g.twin.peerRole ≠ roleStandby then g.ns else g.twin.drillFrom
  { g with twin := { g.twin with peerRole := r, drillFrom := from_ } }.showStep

/-- A provisional standby: what it shows (R339). -/
def provisional (g : Gloesk) (j : Nat) : Gloesk :=
  if g.role = roleStandby ∧ g.twin.provFrom = none then
    { g with twin := { g.twin with provFrom := some j } }.up F.TWN_STATUS_PROV
  else g

/-- Whether this twin sends publications (R85, R328); while a handover runs they are the incoming twin's (R345), unless the
partner has failed and this twin continues alone (R338). -/
def transmits (g : Gloesk) : Bool :=
  g.role == roleActive && (match g.twin.handover with
    | none => true
    | some h => h.incoming || g.twin.failed)

/-- A twin number conflict (R326): the twin stays STARTING. -/
def numConflict (g : Gloesk) : Gloesk :=
  (({ g with twin := { g.twin with numClash := true } }).up F.TWN_STATUS_NUM_CONFLICT).raise 64

/-- This twin's servo follows its partner (R40). -/
def startFollow (g : Gloesk) : Gloesk :=
  ({ g with time := { g.time with leads := false, takeLead := false, twinBad := 0 } }).enterServo stFollow

/-- The lead of Baseline time passes to this twin at the next stroke boundary (R40). -/
def claimLead (g : Gloesk) : Gloesk :=
  if g.time.leads then g else { g with time := { g.time with takeLead := true } }

/-- At a stroke boundary a twin that takes the lead switches its servo to its own SLAVE port, from the shadow frequency
estimate and without a step (R40). -/
def takeLead (g : Gloesk) : Gloesk :=
  if g.time.takeLead then
    let g := g.wrSat F.PTP_RATE_ADJ (quotFree (freqNum g.time.integ g.time.negLog) servoLsb)
    let g := ({ g with time := { g.time with leads := true, takeLead := false, twinBad := 0, slew := 0 } }).enterServo
      (if g.rd F.PTP_STATUS_SLAVE_PORT < 4 then stAcquire else stFree)
    g.strokeRate
  else g

/-- Whether this twin leads or follows is settled by the claims: the higher leads, and while both hold themselves active each
leads (R40). -/
def settleLead (g : Gloesk) : Gloesk :=
  if g.role = roleActive ∨ (g.role = roleStarting ∧ g.leadsClaim) then g.claimLead
  else if !g.leadsClaim ∧ g.time.leads then g.startFollow else g

/-- An exchange with the leading twin on TL0, whose recovered clock runs at the rate `freq` (2^-40) (R40). The follower takes
that frequency, reports the offset, removes a part of it that the manual does not state (a free value between none and all of
it), by slewing while the stroke cycle runs (R27), and leaves in-step operation after 4 exchanges beyond 10 ns. -/
def twinTimeExchange (g : Gloesk) (t1 t2 t3 t4 freq : Int) : Gloesk :=
  if g.time.leads then g else
  let ofs := exchangeOffset t1 t2 t3 t4 0
  let g := g.wrSat F.PTP_TWIN_OFS (quotFree (ofs * 64) fineNs)
  let wide := decide (2 * fineNs < (ofs.natAbs : Int))
  let g := (g.iff wide (·.up F.PTP_STATUS_TWIN_OFS)).level 18 wide
  let part : Int := (g.free % (ofs.natAbs + 1) : Nat)
  let move := -(fineToBl (if ofs < 0 then -part else part))
  let g := g.nextFree
  let g := if g.running then { g with time := { g.time with slew := move } } else g.moveTime move
  let bad := if 10 * fineNs < (ofs.natAbs : Int) then g.time.twinBad + 1 else 0
  let g : Gloesk := { g with time := { g.time with twinBad := bad, tlRate := satS 32 freq } }
  if 4 ≤ bad ∧ g.role = roleStandby then g.enterRole roleOut else g

end Gloesk

end Sys2Proof.Machine
end

