-- ==== Sys2Proof/Machine/Frames.lean ====
section
/-!
DEFINITION. Ink frames as they leave a Gloesk or a Stanak: the header with its HCRC, the IV and tag of each section, the
sections bit by bit, and the lane that takes a Ligature frame (R174-R176, R187, R402).
-/

namespace Sys2Proof.Machine

/-- The message is framed as R170 says. -/
def LinkMsg.framed (m : LinkMsg) : Bool := m.startOk && m.endOk

/-- Its tag verifies against stroke `t`. -/
def LinkMsg.tagFor (m : LinkMsg) (t : Nat) : Bool := m.madeAt == some t

/-- Its tag verifies against the receiver's present stroke or one of the 8 before it (R171, R172). -/
def LinkMsg.recent (m : LinkMsg) (stroke : Nat) : Bool :=
  m.framed && match m.madeAt with
    | some j => decide (0 ≤ strokeDiff j stroke ∧ strokeDiff j stroke ≤ 8)
    | none => false

/-- A message as it starts on a cell link: link, start character K28.n, payload, tag over the stroke in which it starts (R170,
R171, R172). -/
def linkMessage (stroke link start body : Nat) : Sent :=
  ⟨.cell, [link, start, body, Config.crypto (30 + start) [link, stroke, body] % 2 ^ 32]⟩

/-- CRC-8 of R174 over bits [n-1:0] of `v`: polynomial 0x07, initial value 0x00, the most significant bit first (DESIGN CHOICE, log
entry 212). -/
def crc8 (n v : Nat) : Nat :=
  (List.range n).foldl (fun c i =>
    let x := (2 * c) % 256
    if bit c 7 == bit v (n - 1 - i) then x else x ^^^ 7) 0

/-- Fields side by side, the first at bit 0: value and width. -/
def packFields : List (Nat × Nat) → Nat
  | [] => 0
  | e :: l => e.1 % 2 ^ e.2 + 2 ^ e.2 * packFields l

/-- Bits that a list of fields takes. -/
def fieldBits (l : List (Nat × Nat)) : Nat := (l.map (·.2)).sum

/-- Values of one width side by side. -/
def packed (width : Nat) (l : List Nat) : List (Nat × Nat) := l.map (fun v => (v, width))

/-- A bit as a field. -/
def flagField (b : Bool) : Nat × Nat := (if b then 1 else 0, 1)

/-- The header of an ink frame without its HCRC (R174). -/
structure FrameHeader where
  typ : Nat
  fseq : Nat
  len : Nat
  stroke : Nat
  hub : Nat
  plane : Nat
  dir : Nat
  twin : Nat
  claim : Nat
  keyid : Nat
  nslot : Nat
  deriving DecidableEq, Repr

namespace FrameHeader

/-- Bits [119:0]. -/
def body (h : FrameHeader) : Nat :=
  packFields [(h.typ, 8), (h.fseq, 8), (h.len, 16), (h.stroke, 48), (h.hub, 5), (h.plane, 1), (h.dir, 1), (h.twin, 1),
    (h.claim, 16), (h.keyid, 8), (h.nslot, 8)]

/-- The 128 bits, HCRC in [127:120]. -/
def bits (h : FrameHeader) : Nat := h.body + crc8 120 h.body * 2 ^ 120

/-- The IV of section `s` on a lane (R174). -/
def iv (h : FrameHeader) (lane s : Nat) : Nat :=
  packFields [(0, 8), (lane, 8), (h.dir, 1), (0, 7), (h.fseq, 8), (s, 8), (h.typ, 8), (h.stroke, 48)]

/-- Bytes after the header: report and word sections at their exact length, every other body padded to a multiple of 128
bits, and a tag of 128 bits behind each (R174, R175). -/
def lenOf (typ : Nat) (secs : List (List (Nat × Nat))) : Nat :=
  (secs.map (fun s =>
    let n := fieldBits s
    (if typ = 0x01 ∨ typ = 0x02 then n / 8 else (n + 127) / 128 * 16) + 16)).sum

end FrameHeader

/-- The HCRC of a received header is right (R174). -/
def headerOk (v : Nat) : Bool := v / 2 ^ 120 % 256 == crc8 120 (v % 2 ^ 120)

/-- What follows a header: each section's bits and its GCM tag, spoiled where `bad`. -/
def sectionArgs (h : FrameHeader) (lane : Nat) (bad : Bool) (secs : List (List (Nat × Nat))) : List Nat :=
  (secs.zip (List.range secs.length)).flatMap (fun e =>
    let tag := Config.crypto 31 [h.iv lane e.2, h.bits, packFields e.1] % 2 ^ 128
    [packFields e.1, if bad then (tag + 1) % 2 ^ 128 else tag])

/-- A MGMT body (R188): OP, TID, COUNT, TARGET, PORT, ADDR, STATUS, then the data words. -/
def mgmtBody (op tid count target port addr status : Nat) (ws : List Nat) : List (Nat × Nat) :=
  [(op, 8), (tid, 8), (count, 8), (target, 1), (0, 7), (port, 8), (0, 24), (addr, 32), (status, 32)] ++ packed 32 ws

/-- A TIME body, shared with the cell links (R171). -/
def timeBody (ta tb seq dir : Nat) : List (Nat × Nat) := [(ta, 46), (tb, 46), (seq, 8), (dir, 1), (0, 27)]

/-- The header and the data words of a management message (R172). -/
def mgmtMessage (op cnt tid addr : Nat) (ws : List Nat) : Nat :=
  packFields ([(op, 4), (cnt, 4), (tid, 8), (addr, 16)] ++ packed 32 ws)

/-- A heartbeat body; HTAG is under the twin pair's key (R176). -/
def heartBody (claim twin role pref stroke seq : Nat) : List (Nat × Nat) :=
  let l := [(claim, 16), (twin, 1), (role, 3), (pref, 1), (0, 11), (stroke, 48), (seq, 16)]
  l ++ [(Config.crypto 32 [packFields l], 32)]

/-- Frame types that wait for their lane: MGMT, IMAGE, BULK. -/
def waits (typ : Nat) : Bool := has [0x10, 0x11, 0x12] typ

namespace Gloesk

/-- The lane that takes the twin's messages to a cell: of plane P while it is up, else of plane Q. -/
def cellLane (g : Gloesk) (x : Nat) : Nat := if g.rd F.LAN_L_STAT_RXST (x / 256) = 4 then x / 256 else x / 256 + 32

/-- The link whose keys protect a lane: each hub lane its own, the Ligature link 64 (R433). -/
def laneLink (lane : Nat) : Nat := min 64 lane

/-- An ink frame leaves on a lane in DATA (R174, R403). In a window, and before the lane has come to DATA, it is not started
(R187): a management, image or bulk frame then waits, any other is lost (DESIGN CHOICE, log entry 212). -/
def frame (g : Gloesk) (lane typ stroke claim nslot : Nat) (secs : List (List (Nat × Nat))) (bad : Bool := false) : Gloesk :=
  let i := lane * 256 + typ
  let h : FrameHeader :=
    { typ := typ, fseq := Tab.get 0 g.lan.fseq i, len := FrameHeader.lenOf typ secs, stroke := stroke,
      hub := if lane < 64 then lane % 32 else 0, plane := if lane < 64 then lane / 32 else 0,
      dir := if lane < 64 then 0 else g.twinNo, twin := g.twinNo, claim := claim,
      keyid := Tab.get 0 g.trust.epochs (laneLink lane), nslot := nslot }
  let args := [lane, typ, h.bits] ++ sectionArgs h lane bad secs
  let lan : LaneExt := { g.lan with fseq := Tab.set 0 g.lan.fseq i ((h.fseq + 1) % 256) }
  match g.rd F.LAN_L_STAT_TXST lane, waits typ with
  | 3, _ => ({ g with lan := lan }).send .ink args
  | 0, _ => g
  | _, true => { g with lan := { lan with waiting := lan.waiting ++ [⟨.ink, args⟩] } }
  | _, false => g

/-- A lane has come to DATA: the frames that wait for it start. -/
def frameGo (g : Gloesk) (lane : Nat) : Gloesk :=
  let mine (x : Sent) : Bool := x.args.head? == some lane
  { g with sent := g.sent ++ g.lan.waiting.filter mine, lan := { g.lan with waiting := g.lan.waiting.filter (fun x => !(mine x)) } }

/-- A frame of the sending stroke on a hub lane, under the twin's claim. -/
def hubFrame (g : Gloesk) (lane typ : Nat) (body : List (Nat × Nat)) : Gloesk := g.frame lane typ g.stroke g.claim 0 [body]

/-- A MGMT request on a hub lane, with a TID of its own (R188). -/
def mgmtFrame (g : Gloesk) (lane op count target port addr : Nat) (ws : List Nat) : Gloesk :=
  let tid := g.hst.tid
  let g : Gloesk := { g with hst := { g.hst with tid := (tid + 1) % 256 } }
  g.hubFrame lane 0x10 (mgmtBody op tid count target port addr 0 ws)

/-- A twin lane is up. -/
def twinLaneUp (g : Gloesk) (n : Nat) : Bool := g.rd F.LAN_L_STAT_RXST n == 4

/-- The lanes that take a Ligature frame (R402): two for the frames sent twice, the third-lowest for CRCSUM, TL0 or the lowest
for TIME, the lanes in turn for the others. A lane in a window passes its frame to the next that is up and in none, not to the
lane of the other copy where there is a choice (R187). -/
def ligatureLanes (g : Gloesk) (typ : Nat) : List Nat :=
  let up := [64, 65, 66, 67].filter g.twinLaneUp
  let chosen :=
    if has [0x20, 0x21, 0x22, 0x24, 0x26, 0x27] typ then up.take 2
    else if typ = 0x28 then (up.drop 2).take 1 ++ (if up.length < 3 then up.take 1 else [])
    else if typ = 0x05 then up.take 1
    else (up.drop (g.lan.turn % up.length)).take 1
  chosen.filterMap (fun n =>
    if g.rd F.LAN_L_STAT_TXST n ≠ 4 then some n
    else
      let rest := ((up.filter (n < ·)) ++ (up.filter (· < n))).filter (fun m => g.rd F.LAN_L_STAT_TXST m ≠ 4)
      ((rest.filter (fun m => !(has chosen m))) ++ rest).head?)

/-- A frame leaves on the Ligature link (R175, R187, R402). -/
def ligature (g : Gloesk) (typ : Nat) (body : List (Nat × Nat)) : Gloesk :=
  let g' := g.each (g.ligatureLanes typ) (fun g n => g.frame n typ g.stroke g.claim 0 [body])
  if typ = 0x23 ∨ typ = 0x25 then { g' with lan := { g'.lan with turn := g'.lan.turn + 1 } } else g'

/-- A block in the layout of STATE: object, offset, length in bytes, then the words (R175). -/
def stateBody (object ofs : Nat) (ws : List Nat) : List (Nat × Nat) :=
  [(object, 32), (ofs, 32), (4 * ws.length, 32)] ++ packed 32 ws

end Gloesk

namespace Stanak

/-- An ink frame leaves on uplink `u`, under the hub's accepted claim (R174). -/
def frame (h : Stanak) (u typ stroke nslot : Nat) (secs : List (List (Nat × Nat))) : Stanak :=
  let i := u * 256 + typ
  let d : FrameHeader :=
    { typ := typ, fseq := Tab.get 0 h.lan.fseq i, len := FrameHeader.lenOf typ secs, stroke := stroke, hub := h.pair,
      plane := h.plane, dir := 1, twin := u, claim := h.rd F.HUB_STAT_ACC_CLAIM, keyid := Tab.get 0 h.trust.epochs u, nslot := nslot }
  let args := [u, typ, d.bits] ++ sectionArgs d h.lane false secs
  let lan : LaneExt := { h.lan with fseq := Tab.set 0 h.lan.fseq i ((d.fseq + 1) % 256) }
  match h.rd F.HLAN_L_STAT_TXST u, waits typ with
  | 3, _ => ({ h with lan := lan }).send .ink args
  | 0, _ => h
  | _, true => { h with lan := { lan with waiting := lan.waiting ++ [⟨.ink, args⟩] } }
  | _, false => h

/-- An uplink has come to DATA: the frames that wait for it start. -/
def frameGo (h : Stanak) (u : Nat) : Stanak :=
  let mine (x : Sent) : Bool := x.kind == .ink && x.args.head? == some u
  { h with sent := h.sent ++ h.lan.waiting.filter mine, lan := { h.lan with waiting := h.lan.waiting.filter (fun x => !(mine x)) } }

/-- A message other than a word may start on a cell port: in DATA and outside the word window, which the model takes as the time
from the queueing of a word to its start (R173; DESIGN CHOICE, log entry 213). -/
def portFree (h : Stanak) (c : Nat) : Bool :=
  h.rd F.HLNK_LK_STAT_TXST c == 3 && !(h.hub.queue.any (fun w => w.port == c))

/-- The messages that waited for a cell port start (R173, R413). -/
def messagesGo (h : Stanak) : Stanak :=
  let go (x : Sent) : Bool := x.kind == .cell && h.portFree (nth 0 x.args 0)
  { h with
    sent := h.sent ++ (h.lan.waiting.filter go).map (fun x => linkMessage h.stroke (nth 0 x.args 0) (nth 0 x.args 1) (nth 0 x.args 2))
    lan := { h.lan with waiting := h.lan.waiting.filter (fun x => !(go x)) } }

/-- A management or time message on a cell port: it waits for the end of a window (R173). -/
def message (h : Stanak) (c start body : Nat) : Stanak :=
  if has [3, 4] (h.rd F.HLNK_LK_STAT_TXST c) then
    ({ h with lan := { h.lan with waiting := h.lan.waiting ++ [(⟨.cell, [c, start, body]⟩ : Sent)] } } : Stanak).messagesGo
  else h

end Stanak

namespace Ihloon

/-- A message other than a report may start on a link: in DATA and outside the report window, which the model takes as the time
from the boundary to the report (R173; DESIGN CHOICE, log entry 213). -/
def linkFree (c : Ihloon) (n : Nat) : Bool := c.rd F.LNK_LK_STAT_TXST n == 3 && !c.lan.held

/-- The messages that waited start (R173, R413). -/
def messagesGo (c : Ihloon) : Ihloon :=
  let go (x : Sent) : Bool := c.linkFree (nth 0 x.args 0)
  { c with
    sent := c.sent ++ (c.lan.waiting.filter go).map (fun x => linkMessage c.stroke (nth 0 x.args 0) (nth 0 x.args 1) (nth 0 x.args 2))
    lan := { c.lan with waiting := c.lan.waiting.filter (fun x => !(go x)) } }

/-- A management or time message on link `n`: it waits while the transmitter is in a window and while the report is due (R173,
R413). -/
def message (c : Ihloon) (n start body : Nat) : Ihloon :=
  if has [3, 4] (c.rd F.LNK_LK_STAT_TXST n) then
    ({ c with lan := { c.lan with waiting := c.lan.waiting ++ [(⟨.cell, [n, start, body]⟩ : Sent)] } } : Ihloon).messagesGo
  else c

end Ihloon

end Sys2Proof.Machine
end

