-- ==== Sys2Proof/Machine/Ruling.lean ====
section
/-!
DEFINITION. The Ruling: accumulator, sources, segment table, encoders, gearing and compare channels (R47-R71).
-/

namespace Sys2Proof.Machine

/-- Rounding to the nearest integer; an exact tie, which the manual does not settle, is free. -/
def roundFree (num den : Int) : Int :=
  if den ≤ 0 then 0
  else if (2 * num + den) % (2 * den) = 0 then
    (2 * num + den) / (2 * den) - (if Config.roundUp num den then 0 else 1)
  else (2 * num + den) / (2 * den)

/-- Move a geared target, and the targets that ff looks back to, by the same angle. -/
def GearState.move (s : GearState) (d : Int) : GearState := { s with g := s.g + d, hist := s.hist.map (· + d) }

namespace Gloesk

/-- The Ruling angle in whole units, unwrapped. -/
def theta (g : Gloesk) : Int := g.rul.acc / 2 ^ 32

/-- Baseline time of one fabric clock at the rate in effect, in 2^-32 ns (R27). -/
def clockInc (g : Gloesk) : Int := 5368709120 + quotFree (5 * g.time.rate) 1024

/-- n_clk of the present stroke: the fabric clocks from now to the next boundary, called at SB(j) (R47). -/
def nClk (g : Gloesk) : Int :=
  let stop : Int := ((g.ns / g.period + 1) * g.period * 2 ^ 32 : Nat)
  (stop - g.time.bl + g.clockInc - 1) / g.clockInc

/-- n_clk of the next stroke, at the rate that stands now (R47, R67). -/
def nClkNext (g : Gloesk) : Int :=
  let stop : Int := ((g.ns / g.period + 2) * g.period * 2 ^ 32 : Nat)
  let inc : Int := 5368709120 + quotFree (5 * g.baseRate) 1024
  (stop - (g.time.bl + g.nClk * g.clockInc) + inc - 1) / inc

/-- Word `w` of entry `i` of a segment bank (R57). -/
def segWord (g : Gloesk) (bank i w : Nat) : Nat := (Tab.get 0 g.rul.seg (bank * 256 + i * 4 + w)).toNat

/-- End stroke, end angle (48 bits, signed) and end velocity of an entry. -/
def segEnd (g : Gloesk) (bank i : Nat) : Nat := g.segWord bank i 0
def segAngle (g : Gloesk) (bank i : Nat) : Int := toS 48 (g.segWord bank i 2 % 2 ^ 16 * 2 ^ 32 + g.segWord bank i 1)
def segVel (g : Gloesk) (bank i : Nat) : Int := toS 32 (g.segWord bank i 3)

/-- The clamp of R49. -/
def clampVel (g : Gloesk) (v : Int) : Gloesk × Int :=
  let c := clampI (g.rdS F.RUL_VMIN_V) (g.rdS F.RUL_VMAX_V) v
  if c = v then (g, v) else ((g.up F.RUL_STATUS_VCLAMP).raise 20, c)

/-- The Hermite evaluation of R57 for stroke `j`. Velocities become angle units per stroke with the n_clk of stroke `j` (DESIGN
CHOICE, log entry 207). -/
def hermite (g : Gloesk) (t : SegTable) (j : Nat) : Int :=
  let n := g.nClk
  let jRel : Int := strokeDiff t.start j
  let d : Int := (g.segEnd t.bank t.idx : Int) - t.j0
  let a : Int := jRel + 1 - t.j0
  let p1 := g.segAngle t.bank t.idx
  let m1 := g.segVel t.bank t.idx * n
  let num := (2 * a ^ 3 - 3 * a ^ 2 * d + d ^ 3) * t.p0 * 2 ^ 16 + (a ^ 3 - 2 * a ^ 2 * d + a * d ^ 2) * d * t.m0
    + (3 * a ^ 2 * d - 2 * a ^ 3) * p1 * 2 ^ 16 + (a ^ 3 - a ^ 2 * d) * d * m1
  roundFree (num - (g.theta - t.theta0) * d ^ 3 * 2 ^ 16) (d ^ 3 * n)

/-- Move the running table to the entry that holds stroke `j` (R57, R59); the n_clk of its first velocity is that of stroke `j`
(DESIGN CHOICE, log entry 207). -/
def segAdvance (g : Gloesk) (t : SegTable) (j : Nat) : SegTable :=
  if (g.segEnd t.bank t.idx : Int) ≤ strokeDiff t.start j then
    let p := if t.clamped then g.theta - t.theta0 else g.segAngle t.bank t.idx
    let m := if t.clamped then g.rul.vel * g.nClk else g.segVel t.bank t.idx * g.nClk
    { t with j0 := g.segEnd t.bank t.idx, p0 := p, m0 := m, idx := t.idx + 1, clamped := false }
  else t

/-- SRC_ACT. -/
def srcAct (g : Gloesk) : Nat := g.rd F.RUL_STATUS_SRC_ACT

/-- The encoder that gearing uses: that of the source in effect, else that of the source requested (R52). -/
def gearEnc (g : Gloesk) : Nat :=
  if g.srcAct = 4 then 1 else if g.srcAct = 3 then 0 else if g.rd F.RUL_CTRL_SRC = 4 then 1 else 0

/-- The agreed position of an encoder in 2^-15 counts (R65, R67). -/
def gearPosition (g : Gloesk) (n : Nat) : Option Int := (nth none g.svi.encAgreed n).map (fun e => e.1 * 2 ^ 15 + e.2)

/-- The gear engine on an encoder. -/
def gear (g : Gloesk) (n : Nat) : GearState := if n = 0 then g.rul.gear0 else g.rul.gear1

/-- Change the gear engine on an encoder. -/
def onGear (g : Gloesk) (n : Nat) (f : GearState → GearState) : Gloesk :=
  if n = 0 then { g with rul := { g.rul with gear0 := f g.rul.gear0 } } else { g with rul := { g.rul with gear1 := f g.rul.gear1 } }

/-- Change both gear engines. -/
def onGears (g : Gloesk) (f : GearState → GearState) : Gloesk := (g.onGear 0 f).onGear 1 f

/-- NUM × 2^32 × c / DEN in angle units; c in 2^-15 counts. -/
def geared (num den : Int) (c : Int) : Int := if den = 0 then 0 else num * 2 ^ 17 * c / den

/-- A switch of the steering source (R52, R54). The target is NUM × 2^32 × c / DEN + OFS at the last agreed position. -/
def switchSource (g : Gloesk) (src : Nat) : Gloesk :=
  let g := g.wr F.RUL_STATUS_SRC_ACT src
  if src = 3 ∨ src = 4 then
    let n := src - 3
    let c := if (g.gear n).c.isSome then (g.gear n).c else g.gearPosition n
    let base := geared (g.rdS F.RUL_GEAR_NUM_NUM) (g.rd F.RUL_GEAR_DEN_DEN) (c.getD 0)
    let old := g.rdS F.RUL_GEAR_OFS_OFS
    let g : Gloesk := if g.on F.RUL_CTRL_BUMPLESS then g.wrS F.RUL_GEAR_OFS_OFS (g.theta - base) else g
    let g := g.onGear (1 - n) (fun s => s.move (g.rdS F.RUL_GEAR_OFS_OFS - old))
    g.onGear n (fun s => { s.move (base + g.rdS F.RUL_GEAR_OFS_OFS - s.g) with rem := 0, c := c })
  else g

/-- At the last entry's end stroke the table ends (R58). `switched` says a committed switch fell on this stroke. -/
def segmentEnd (g : Gloesk) (t : SegTable) (switched : Bool) : Gloesk :=
  let g := ({ g with rul := { g.rul with table := none } }).up F.RUL_STATUS_SEG_DONE
  let next := g.rd F.RUL_SEG_CTRL_NEXT
  if switched then g
  else if next = 0 then (g.wr F.RUL_STATUS_SRC_ACT 0).wrS F.RUL_HOSTV_V (g.segVel t.bank (t.count - 1))
  else if next = 1 then g.wr F.RUL_STATUS_SRC_ACT 1
  else g.switchSource (next + 1)

/-- The table has reached the end stroke of its last entry at the present stroke. -/
def segmentOver (g : Gloesk) (t : SegTable) : Bool :=
  decide ((g.segEnd t.bank (t.count - 1) : Int) ≤ strokeDiff t.start g.stroke)

/-- The running table ends at SB(j) (R58). -/
def segmentFinish (g : Gloesk) (switched : Bool) : Gloesk :=
  match g.rul.table with
  | none => g
  | some t => if g.segmentOver t then g.segmentEnd t switched else g

/-- An armed table whose start stroke is reached takes over (R57, R58). -/
def segmentStart (g : Gloesk) : Gloesk :=
  match g.rul.armed with
  | none => g
  | some t =>
    if t.start = g.stroke then
      let t := { t with idx := 0, j0 := 0, theta0 := g.theta, p0 := 0, m0 := g.rul.vel * g.nClk, clamped := false }
      ({ g with rul := { g.rul with armed := none, table := some t } }).wr F.RUL_STATUS_SRC_ACT 2
    else g

/-- The running table gives the velocity of stroke j (R57). -/
def segmentStep (g : Gloesk) : Gloesk × Option Int :=
  match g.rul.table with
  | none => (g, none)
  | some t =>
    if g.segmentOver t then (g, none)
    else if g.srcAct ≠ 2 then ({ g with rul := { g.rul with table := none } }, none)
    else
      let t := g.segAdvance t g.stroke
      let g := ({ g with rul := { g.rul with table := some t } }).wr F.RUL_STATUS_SEG_IDX t.idx
      (g, some (g.hermite t g.stroke))

/-- The velocity that the source in effect gives this stroke (R52, R55, R67). -/
def sourceVel (g : Gloesk) (seg : Option Int) : Int :=
  match g.srcAct with
  | 0 => g.rdS F.RUL_HOSTV_V
  | 1 => g.rul.grid.getD g.rul.vel
  | 2 => seg.getD g.rul.vel
  | s => (g.gear (s - 3)).vel.getD g.rul.vel

/-- The Ruling's work at SB(k): velocity, clamp and record (R48, R49, R52, R57). -/
def rulingAtBoundary (g : Gloesk) (switched : Bool) : Gloesk :=
  let (g, sv) := ((g.segmentFinish switched).segmentStart).segmentStep
  let v := g.sourceVel sv
  let (g', c) := g.clampVel v
  let g' := if g'.srcAct = 2 ∧ c ≠ v then
      { g' with rul := { g'.rul with table := g'.rul.table.map (fun t => { t with clamped := true }) } } else g'
  let nxt := g'.rul.acc + c * 2 ^ 16 * g'.nClk
  let r : RulRecord := ⟨g'.stroke, ofS 64 g'.rul.acc, c, ofS 64 nxt⟩
  let g' : Gloesk := { g' with rul := { g'.rul with
      vel := c, grid := none, record := r, records := (r :: g'.rul.records).take 16 } }
  g'.onGears (fun s => { s with vel := none })

/-- The Ruling record of stroke `k` (R48). -/
def recordOf (g : Gloesk) (k : Nat) : RulRecord := (g.rul.records.find? (fun r => r.stroke = k)).getD g.rul.record

/-- An encoder's state. -/
def enc (g : Gloesk) (n : Nat) : EncState := if n = 0 then g.rul.enc0 else g.rul.enc1

/-- Write an encoder's state. -/
def setEnc (g : Gloesk) (n : Nat) (e : EncState) : Gloesk :=
  if n = 0 then { g with rul := { g.rul with enc0 := e } } else { g with rul := { g.rul with enc1 := e } }

/-- The fraction of R65 in 2^-15 count. Two counts at one Baseline time give the largest one (DESIGN CHOICE, log entry 207). -/
def encFraction (g : Gloesk) (n : Nat) : Int :=
  match (g.enc n).times with
  | t1 :: t2 :: _ =>
    let sb : Int := (g.ns / g.period * g.period * 2 ^ 32 : Nat)
    let q := if t1 = t2 then 0x7FFF else quotFree ((sb - t1) * 2 ^ 15) ((t1 : Int) - t2)
    let q := clampI 0 0x7FFF q
    if g.on F.RUL_ENC_STAT_DIR n then q else -q
  | _ => 0

/-- The latch of stroke `k`. -/
def latchOf (g : Gloesk) (k : Nat) : SbLatch := (g.rul.latches.find? (fun l => l.stroke = k)).getD ⟨k, [], []⟩

/-- At SB(k) each active encoder latches position and fraction (R65, R95); a compare channel with ROUTE_FLR delivers its IDX to
Flourish, another one leaves what it delivered before (R70, R128). -/
def encoderLatch (g : Gloesk) : Gloesk :=
  let old := (g.rul.latches.head?.map (·.idx)).getD []
  let one (n : Nat) : Int × Int × Bool :=
    ((g.enc n).p, g.encFraction n, g.rd F.RUL_ENC_CFG_MODE n != 0 && !(g.enc n).bad)
  let idx := (List.range 16).map (fun n => if g.on F.RUL_CMP_CFG_ROUTE_FLR n then g.rd F.RUL_CMP_IDX_IDX n else nth 0 old n)
  let l : SbLatch := ⟨g.stroke, [one 0, one 1], idx⟩
  let g : Gloesk := { g with rul := { g.rul with latches := (l :: g.rul.latches).take 16 } }
  g.each [0, 1] (fun g n => g.setEnc n { g.enc n with bad := false })

/-- The hysteresis of R62; `d` true is up. -/
def hysteresis (r p : Int) (d : Bool) : Int × Bool :=
  let p := if d && decide (p + 1 ≤ r) then r else p
  let p := if !d && decide (r ≤ p - 1) then r else p
  let (p, d) := if !d && decide (p + 2 ≤ r) then (r - 1, true) else (p, d)
  if d && decide (r ≤ p - 2) then (r + 1, false) else (p, d)

/-- Apply a raw count change of an encoder (R61, R62). The counters wrap at 32 bits (DESIGN CHOICE, log entry 207). `again` says
that the count replaces one of the same fabric clock. -/
def encApply (g : Gloesk) (n : Nat) (delta : Int) (again : Bool) : Gloesk :=
  let e := g.enc n
  let delta := if g.on F.RUL_ENC_CFG_INV n then -delta else delta
  if delta = 0 then g else
  let close := match e.last with
    | some t => decide ((g.time.bl : Int) - t < 16 * 2 ^ 32)
    | none => false
  let g : Gloesk := if close && !again then (g.inc F.RUL_ENC_ERRCNT_OVERRATE n).up F.RUL_ENC_STAT_OVERRATE n else g
  let r := toS 32 (ofS 32 (e.r + delta))
  let d0 := g.on F.RUL_ENC_STAT_DIR n
  let (p, d) := hysteresis r e.p d0
  let p := toS 32 (ofS 32 p)
  let times := if p = e.p then e.times else if d = d0 then (g.time.bl :: e.times).take 2 else [g.time.bl]
  let g := g.setEnc n { e with r := r, p := p, last := some g.time.bl, times := times }
  g.wr F.RUL_ENC_STAT_DIR (if d then 1 else 0) n |>.wrS F.RUL_ENC_POS_P p n |>.wrS F.RUL_ENC_RAW_R_CNT r n

/-- Quadrature position of the levels A and B within one cycle, up when A leads B (PRESUMED, log entry 12). -/
def quadPhase (a b : Bool) : Int :=
  match a, b with
  | false, false => 0
  | true, false => 1
  | true, true => 2
  | false, true => 3

/-- The encoder as it was before the input changes of the present fabric clock, and whether there was one before (R61). -/
def encRewind (g : Gloesk) (n : Nat) : Gloesk × Bool :=
  let e := g.enc n
  match e.mark with
  | some m =>
    if m.time = g.time.bl then
      (((g.setEnc n { e with a := m.a, b := m.b, r := m.r, p := m.p, times := m.times, last := m.last }).wr F.RUL_ENC_STAT_DIR
        (if m.up then 1 else 0) n).wrS F.RUL_ENC_POS_P m.p n |>.wrS F.RUL_ENC_RAW_R_CNT m.r n, true)
    else (g, false)
  | none => (g, false)

/-- ENCODER_COUNT: the inputs A and B have had these levels for `held` fabric clocks (R60, R61). The ENCO outputs repeat them
ahead of the filter (R64). All changes of one fabric clock are judged together. -/
def encoderCount (g : Gloesk) (n : Nat) (a b : Bool) (held : Nat) : Gloesk :=
  let bit (x : Bool) : Nat := if x then 1 else 0
  let g := g.iff (g.on F.RUL_ENC_CFG_ENCO_EN n) (·.send .enco [n, bit a, bit b, bit (g.enc n).z])
  if held < g.rd F.RUL_ENC_CFG_FILT n then g
  else
    let (g, again) := g.encRewind n
    let e := g.enc n
    let mark : EncMark := ⟨g.time.bl, e.a, e.b, e.r, e.p, g.on F.RUL_ENC_STAT_DIR n, e.times, e.last⟩
    let g' := g.setEnc n { e with a := a, b := b, mark := some mark }
    match g.rd F.RUL_ENC_CFG_MODE n with
    | 1 =>
      if e.a ≠ a ∧ e.b ≠ b then
        ((g'.setEnc n { g'.enc n with bad := true }).inc F.RUL_ENC_ERRCNT_ILLEGAL n).up F.RUL_ENC_STAT_ILLEGAL n
      else
        let d := (quadPhase a b - quadPhase e.a e.b) % 4
        g'.encApply n (if d = 1 then 1 else if d = 3 then -1 else 0) again
    | 2 => if !e.a && a then g'.encApply n (if b then 1 else -1) again else g'
    | 3 => g'.encApply n ((if !e.a && a then 1 else 0) - (if !e.b && b then 1 else 0)) again
    | _ => g'

/-- ENCODER_INDEX: the input Z has had level `z` for `held` fabric clocks (R61, R63); ENCO_Z repeats it (R64). -/
def encoderIndex (g : Gloesk) (n : Nat) (z : Bool) (held : Nat) : Gloesk :=
  let bit (x : Bool) : Nat := if x then 1 else 0
  let g := g.iff (g.on F.RUL_ENC_CFG_ENCO_EN n) (·.send .enco [n, bit (g.enc n).a, bit (g.enc n).b, bit z])
  let e := g.enc n
  let edge := held ≥ g.rd F.RUL_ENC_CFG_FILT n ∧ e.z ≠ z
  let g := if edge then g.setEnc n { e with z := z } else g
  if ¬ edge ∨ z = g.on F.RUL_ENC_CFG_IDX_POL n ∨ g.rd F.RUL_ENC_CFG_MODE n = 0 then g else
  let e := g.enc n
  let g := g.up F.RUL_ENC_STAT_IDX_SEEN n |>.wrS F.RUL_ENC_IDXPOS_IDX e.r n
  if g.on F.RUL_ENC_CFG_IDX_ZERO n then
    let g : Gloesk := { g with rul := { g.rul with zeroed := keepLast 16 (g.rul.zeroed ++ [(strokeMod (g.stroke + 1), n, e.p)]) } }
    (g.setEnc n { e with r := 0, p := 0, bad := true, mark := none }).down F.RUL_ENC_CFG_IDX_ZERO n |>.up F.RUL_ENC_STAT_ZERO_DONE n
      |>.wr F.RUL_ENC_POS_P 0 n |>.wr F.RUL_ENC_RAW_R_CNT 0 n
  else g

/-- A change of MODE clears counter, hysteresis and history (R60). -/
def encoderMode (g : Gloesk) (n mode : Nat) : Gloesk :=
  if g.rd F.RUL_ENC_CFG_MODE n = mode % 4 then g else
  let e := g.enc n
  (g.setEnc n { EncState.reset with a := e.a, b := e.b, z := e.z }).wr F.RUL_ENC_CFG_MODE mode n
    |>.wr F.RUL_ENC_POS_P 0 n |>.wr F.RUL_ENC_RAW_R_CNT 0 n |>.wr F.RUL_ENC_STAT_DIR 0 n

/-- A write of RUL_ANGLE (R50). -/
def angleWrite (g : Gloesk) (v : Nat) : Gloesk :=
  if g.running || decide (g.srcAct ≠ 0) then (g.up F.RUL_STATUS_SET_REJ).inc F.RUL_ERRCNT_REJ
  else { g with rul := { g.rul with acc := (v % 2 ^ 32 : Nat) * 2 ^ 32 } }

/-- A read of RUL_ANGLE latches RUL_FRAC and RUL_VEL (R71). -/
def angleRead (g : Gloesk) (who : Nat) : Gloesk :=
  let g := g.latch who R.RUL_FRAC (ofS 32 g.rul.acc) |>.latch who R.RUL_VEL (ofS 32 g.rul.vel)
  g.answer who [ofS 32 g.theta]

/-- A read of RUL_ENCn_POS latches RAW and IDXPOS (R71). -/
def encPosRead (g : Gloesk) (who n : Nat) : Gloesk :=
  let g := g.latch who R.RUL_ENC_RAW (g.reg R.RUL_ENC_RAW n) n |>.latch who R.RUL_ENC_IDXPOS (g.reg R.RUL_ENC_IDXPOS n) n
  g.answer who [g.reg R.RUL_ENC_POS n]

/-- END_STROKE values rise strictly and every END_VEL lies inside the clamp (R58). -/
def segTableOk (g : Gloesk) (bank count : Nat) : Bool :=
  (List.range count).all (fun i =>
    (i == 0 || decide (g.segEnd bank (i - 1) < g.segEnd bank i)) && decide (0 < g.segEnd bank i)
    && decide (g.rdS F.RUL_VMIN_V ≤ g.segVel bank i) && decide (g.segVel bank i ≤ g.rdS F.RUL_VMAX_V))

/-- The arm of the written bank takes effect; a rejected one is counted (R58, R71). -/
def segmentArm (g : Gloesk) : Gloesk :=
  let bank := g.rd F.RUL_SEG_CTRL_WBANK
  let count := g.rd F.RUL_SEG_CTRL_COUNT + 1
  let start := g.rd F.RUL_SEG_START1_KS_HI * 2 ^ 32 + g.rd F.RUL_SEG_START0_KS_LO
  if strokeDiff g.stroke start < 16 ∨ ¬ (g.segTableOk bank count = true) then (g.up F.RUL_STATUS_SEG_REJ).inc F.RUL_ERRCNT_REJ
  else
    let t : SegTable := ⟨bank, count, start, 0, 0, 0, 0, 0, false⟩
    ({ g with rul := { g.rul with armed := some t } }).wr F.RUL_SEG_CTRL_WBANK (1 - bank)

/-- The abort takes effect (R59). It ends the running table and leaves an armed one; with none running it disarms the armed one
(DESIGN CHOICE, log entry 207). -/
def segmentAbort (g : Gloesk) : Gloesk :=
  match g.rul.table with
  | none => { g with rul := { g.rul with armed := none } }
  | some _ => ({ g with rul := { g.rul with table := none } }).wr F.RUL_STATUS_SRC_ACT 0 |>.wrS F.RUL_HOSTV_V g.rul.vel

/-- The arm of a ratio change takes effect (R68). -/
def gearArm (g : Gloesk) : Gloesk :=
  if g.rd F.RUL_GEAR_ADEN_ADEN = 0 ∨ g.rd F.RUL_GEAR_ANUM_ANUM = 0 then g.inc F.RUL_ERRCNT_REJ
  else
    let enc := (g.svi.keySets.getLast?.map (·.enc)).getD []
    let at_ (n : Nat) : Bool := (nth none enc n).map (·.1) == some (g.rdS F.RUL_GEAR_APOS_APOS)
    ((g.onGear 0 (fun s => { s with due := at_ 0 })).onGear 1 (fun s => { s with due := at_ 1 })).up F.RUL_GEAR_ARM_ARMED

/-- An armed change is cancelled (R71). -/
def gearCancel (g : Gloesk) : Gloesk := g.down F.RUL_GEAR_ARM_ARMED

/-- Advance the gear target by a count increment in 2^-15 counts at a ratio; exact, with the remainder carried. -/
def gearAdd (s : GearState) (num den dc : Int) : GearState :=
  if den = 0 then s else
  let total := dc * num * 2 ^ 32 + s.rem
  { s with g := s.g + total / (den * 2 ^ 15), rem := total % (den * 2 ^ 15) }

/-- gear_step of R67 and R68 on encoder `n` for an agreed position `c1`. The armed change fires on the encoder that gearing
uses; the target on the other one moves with OFS. -/
def gearStep (g : Gloesk) (n : Nat) (c0 c1 : Int) : Gloesk :=
  let num := g.rdS F.RUL_GEAR_NUM_NUM
  let den : Int := g.rd F.RUL_GEAR_DEN_DEN
  let apos := g.rdS F.RUL_GEAR_APOS_APOS * 2 ^ 15
  let crosses := n == g.gearEnc && g.on F.RUL_GEAR_ARM_ARMED &&
    ((g.gear n).due || decide (c0 ≤ apos ∧ apos ≤ c1) || decide (c1 ≤ apos ∧ apos ≤ c0))
  if crosses then
    let s := gearAdd (g.gear n) num den (apos - c0)
    let at_ := s.g
    let anum := g.rdS F.RUL_GEAR_ANUM_ANUM
    let aden : Int := g.rd F.RUL_GEAR_ADEN_ADEN
    let s := gearAdd { s with rem := 0 } anum aden (c1 - apos)
    let ofs := at_ - geared anum aden apos
    let other (s : GearState) : GearState := { s.move (geared anum aden (s.c.getD 0) + ofs - s.g) with rem := 0 }
    (((g.onGear n (fun _ => s)).onGear (1 - n) other).wrS F.RUL_GEAR_NUM_NUM anum)
      |>.wr F.RUL_GEAR_DEN_DEN (g.rd F.RUL_GEAR_ADEN_ADEN)
      |>.wrS F.RUL_GEAR_OFS_OFS ofs
      |>.down F.RUL_GEAR_ARM_ARMED |>.up F.RUL_GEAR_ARM_FIRED
  else g.onGear n (fun s => gearAdd s num den (c1 - c0))

/-- Zeroings before the latch of stroke `k` move the positions that gearing counts from, and nothing else (R63). -/
def gearZero (g : Gloesk) (k : Nat) : Gloesk :=
  let met := g.rul.zeroed.filter (fun z => decide (0 ≤ strokeDiff z.1 k))
  let by_ (n : Nat) : Int := (met.map (fun z => if z.2.1 = n then z.2.2 * 2 ^ 15 else 0)).sum
  let g : Gloesk := { g with rul := { g.rul with zeroed := g.rul.zeroed.filter (fun z => !(decide (0 ≤ strokeDiff z.1 k))) } }
  (g.onGear 0 (fun s => { s with c := s.c.map (· - by_ 0) })).onGear 1 (fun s => { s with c := s.c.map (· - by_ 1) })

/-- The target of the engine on encoder `n` at an agreed position, and ff (R67). -/
def gearTarget (g : Gloesk) (n : Nat) (c : Option Int) : Gloesk :=
  match c with
  | none => g
  | some c1 =>
    let g := match (g.gear n).c with
      | some c0 => g.gearStep n c0 c1
      | none =>
        let base := geared (g.rdS F.RUL_GEAR_NUM_NUM) (g.rd F.RUL_GEAR_DEN_DEN) c1 + g.rdS F.RUL_GEAR_OFS_OFS
        g.onGear n (fun s => { s with g := base, rem := 0, hist := [] })
    let m : Int := 2 ^ g.rd F.RUL_GEAR_CFG_WIN
    g.onGear n (fun s =>
      let hist := (s.g :: s.hist).take 65
      let old := nth (hist.getLast?.getD s.g) hist m.toNat
      { s with c := c, hist := hist, ffNum := s.g - old, ffDen := m, due := false })

/-- The gear engine on encoder `n` at the writeback of input set `k` (R67). `c` is the agreed position in 2^-15 counts, none
when the input set marks the encoder invalid: ff is then held without a correction. The engine of the encoder that gearing
uses reports its tracking error. -/
def gearWriteback (g : Gloesk) (k n : Nat) (c : Option Int) : Gloesk :=
  let d := strokeDiff k g.stroke
  let clk := g.nClkNext
  let g := g.gearTarget n c
  let s := g.gear n
  let nextTheta := toS 32 (g.rul.record.thetaNext / 2 ^ 32)
  let err := toS 32 (ofS 32 (s.g + quotFree ((d + 1) * s.ffNum) s.ffDen - nextTheta))
  let bad := c.isNone || decide (2 ^ 28 < err.natAbs)
  let lim : Int := g.rd F.RUL_NUDGE_LIM
  let corr := if c.isSome then clampI (-lim) lim (err / 2 ^ g.rd F.RUL_GEAR_CFG_TRACK) else 0
  let v := roundFree ((s.ffNum + s.ffDen * corr) * 2 ^ 16) (s.ffDen * clk)
  let g := if n = g.gearEnc then
      (((g.iff c.isSome (·.wrS F.RUL_GEAR_TERR_ERR err)).iff bad (·.up F.RUL_STATUS_GEAR_ERR))).level 21 bad
    else g
  g.onGear n (fun s => { s with vel := some v })

/-- The gear engines at the writeback of input set `k`: each whose encoder counts or steers (DEDUCED, R52, R67). -/
def gearWritebacks (g : Gloesk) (k : Nat) : Gloesk :=
  (g.gearZero k).each [0, 1] (fun g n =>
    if g.rd F.RUL_ENC_CFG_MODE n ≠ 0 ∨ g.srcAct = 3 + n then g.gearWriteback k n (g.gearPosition n)
    else g.iff (n == g.gearEnc) (·.lower 21))

/-- The hits of a compare channel in a clock that moves the angle from `old` to `new` (R69): the number crossed. -/
def crossings (old new val space : Int) : Int :=
  if old < new then
    let x := (new - val) % 2 ^ 32
    if x < new - old then x / space + 1 else 0
  else if new < old then
    let x := (val - new) % 2 ^ 32
    if x < old - new then -(x / space + 1) else 0
  else 0

/-- One compare channel in one clock (R69, R70). -/
def compareChannel (g : Gloesk) (old new : Int) (n : Nat) : Gloesk :=
  if !(g.on F.RUL_CMP_CFG_EN n) then g else
  let space : Int := g.rd F.RUL_CMP_SPACE_SPACE n
  if space = 0 then g else
  let h := crossings old new (g.rd F.RUL_CMP_VAL_VAL n) space
  if h = 0 then g else
  let m : Int := if g.rd F.RUL_CMP_CFG_MOD n = 0 then 65536 else g.rd F.RUL_CMP_CFG_MOD n
  let g := g.wrS F.RUL_CMP_VAL_VAL (g.rd F.RUL_CMP_VAL_VAL n + h * space) n
  let g := g.wr F.RUL_CMP_IDX_IDX (((g.rd F.RUL_CMP_IDX_IDX n : Int) + h) % m).toNat n
  let g := g.inc F.RUL_CMP_IDX_MISS n (h.natAbs - 1)
  let g : Gloesk := if g.on F.RUL_CMP_CFG_ROUTE_DUC n then { g with hits := g.hits ++ [(n, h)] } else g
  if g.on F.RUL_CMP_CFG_ROUTE_FOL n then
    { g with rul := { g.rul with folHits := g.rul.folHits ++ [(g.stroke, n, g.time.bl, h)] } } else g

/-- One fabric clock: Baseline time, the accumulator and the compare channels (R27, R47, R69). -/
def fabricClock (g : Gloesk) : Gloesk :=
  let g := g.moveTime g.clockInc
  let old := g.theta
  let g := { g with rul := { g.rul with acc := g.rul.acc + g.rul.vel * 2 ^ 16 } }
  g.each (List.range 16) (fun g n => g.compareChannel old g.theta n)

/-- Writes that the Ruling rejects: SRC 2 and 5-7, DEN 0, SPACE 0 (R52, R71). -/
def rulRejects (a v : Nat) : Bool :=
  (a == R.RUL_CTRL.addr && (v % 8 == 2 || decide (5 ≤ v % 8))) || (a == R.RUL_GEAR_DEN.addr && v % 2 ^ 24 == 0) ||
    (decide (R.RUL_CMP_CFG.addr ≤ a ∧ a < R.RUL_CMP_CFG.at 16) && (a - R.RUL_CMP_CFG.addr) % 16 == 8 && v % 2 ^ 32 == 0)

/-- A write of one RUL register takes effect (R52, R58, R59, R60, R63, R68, R71). -/
def rulApply (g : Gloesk) (a v : Nat) : Gloesk :=
  let fields (g : Gloesk) (l : List Fld) (i : Nat) : Gloesk := l.foldl (fun g f => g.wr f (bits v f.lo f.wid) i) g
  if a = R.RUL_CTRL.addr then
    let src := v % 8
    let g := (fields g [F.RUL_CTRL_BUMPLESS] 0).wr F.RUL_CTRL_SRC src
    if g.srcAct = src then g else g.switchSource src
  else if a = R.RUL_SEG_CTRL.addr then
    let g := fields g [F.RUL_SEG_CTRL_COUNT, F.RUL_SEG_CTRL_NEXT] 0
    let g := g.iff (bit v 9) (·.segmentArm)
    g.iff (bit v 10) (·.segmentAbort)
  else if a = R.RUL_GEAR_ARM.addr then
    let g := g.iff (bit v 0) (·.gearArm)
    g.iff (bit v 1) (·.gearCancel)
  else if a = R.RUL_GEAR_DEN.addr then
    let den : Int := max 1 (g.rd F.RUL_GEAR_DEN_DEN)
    let g := g.onGears (fun s => { s with rem := s.rem * (v % 2 ^ 24 : Nat) / den })
    g.wr F.RUL_GEAR_DEN_DEN v
  else if a = R.RUL_GEAR_OFS.addr then
    let d := toS 32 v - g.rdS F.RUL_GEAR_OFS_OFS
    (g.onGears (·.move d)).wr F.RUL_GEAR_OFS_OFS v
  else if a = R.RUL_ENC_CFG.addr ∨ a = R.RUL_ENC_CFG.at 1 then
    let n := if a = R.RUL_ENC_CFG.addr then 0 else 1
    let g := g.encoderMode n (v % 4)
    let g := fields g [F.RUL_ENC_CFG_INV, F.RUL_ENC_CFG_FILT, F.RUL_ENC_CFG_IDX_POL] n
    g.iff (bit v 8) (fun g => g.up F.RUL_ENC_CFG_IDX_ZERO n)
  else if R.RUL_CMP_CFG.addr ≤ a ∧ a < R.RUL_CMP_CFG.at 16 then
    let n := (a - R.RUL_CMP_CFG.addr) / 16
    let w := (a - R.RUL_CMP_CFG.addr) % 16
    if w = 0 then fields g [F.RUL_CMP_CFG_EN, F.RUL_CMP_CFG_ROUTE_DUC, F.RUL_CMP_CFG_ROUTE_FLR,
        F.RUL_CMP_CFG_ROUTE_FOL, F.RUL_CMP_CFG_MOD] n
    else if w = 4 then g.wr F.RUL_CMP_VAL_VAL v n
    else if w = 8 then g.wr F.RUL_CMP_SPACE_SPACE v n
    else g
  else
    ([(R.RUL_HOSTV, F.RUL_HOSTV_V), (R.RUL_VMIN, F.RUL_VMIN_V), (R.RUL_VMAX, F.RUL_VMAX_V),
      (R.RUL_NUDGE, F.RUL_NUDGE_LIM), (R.RUL_GEAR_CFG, F.RUL_GEAR_CFG_WIN), (R.RUL_GEAR_CFG, F.RUL_GEAR_CFG_TRACK),
      (R.RUL_GEAR_NUM, F.RUL_GEAR_NUM_NUM),
      (R.RUL_GEAR_ANUM, F.RUL_GEAR_ANUM_ANUM), (R.RUL_GEAR_ADEN, F.RUL_GEAR_ADEN_ADEN),
      (R.RUL_GEAR_APOS, F.RUL_GEAR_APOS_APOS), (R.RUL_SEG_START0, F.RUL_SEG_START0_KS_LO),
      (R.RUL_SEG_START1, F.RUL_SEG_START1_KS_HI)] : List (Reg × Fld)).foldl
      (fun g e => if e.1.addr = a then g.wr e.2 (bits v e.2.lo e.2.wid) else g) g

/-- A write to the segment entries; the running bank's are ignored and counted (R57, R71). END_CYC has 16 bits: the others
of its word are reserved (R5). -/
def segEntryWrite (g : Gloesk) (i v : Nat) : Gloesk :=
  let runs := match g.rul.table with
    | some t => t.bank == i / 256
    | none => false
  if runs then g.inc F.RUL_ERRCNT_REJ
  else { g with rul := { g.rul with seg := Tab.set 0 g.rul.seg i (BitVec.ofNat 32 (if i % 4 = 2 then v % 2 ^ 16 else v)) } }

end Gloesk

end Sys2Proof.Machine
end

