-- ==== Sys2Proof/Machine/Inkwell.lean ====
section
/-!
DEFINITION. Inkwell: addresses and banks (R306, R307), bytes and words, error correction, scrub and sparing (R309-R311),
the layout and its resizes (R317-R319).
-/

namespace Sys2Proof.Machine

namespace Memory

/-- What a byte that nothing has written reads as (log entry 2). -/
def blank : Byte := 0

/-- The byte at an address. -/
def byte (m : Tab Byte) (a : Nat) : Byte := Tab.get blank m a

/-- Write the byte at an address. -/
def setByte (m : Tab Byte) (a : Nat) (b : Byte) : Tab Byte := Tab.set blank m a b

/-- The canonical form of a memory. -/
def wf (m : Tab Byte) : Bool := Tab.wf blank m

/-- `n` bytes from address `a`, little-endian, as a number. -/
def read (m : Tab Byte) (a : Nat) : Nat → Nat
  | 0 => 0
  | n + 1 => (byte m a).toNat + 256 * read m (a + 1) n

/-- Write the low `n` bytes of a number from address `a`, little-endian. -/
def write (m : Tab Byte) (a : Nat) : Nat → Nat → Tab Byte
  | 0, _ => m
  | n + 1, v => write (setByte m a (BitVec.ofNat 8 v)) (a + 1) n (v / 256)

/-- Copy `n` bytes of one memory into another. -/
def copy (src : Tab Byte) (a : Nat) (dst : Tab Byte) (b : Nat) : Nat → Tab Byte
  | 0 => dst
  | n + 1 => copy src (a + 1) (setByte dst b (byte src a)) (b + 1) n

/-- Write a list of byte values from address `a`. -/
def writeList (m : Tab Byte) (a : Nat) : List Nat → Tab Byte
  | [] => m
  | v :: vs => writeList (setByte m a (BitVec.ofNat 8 v)) (a + 1) vs

/-- `n` bytes from address `a` as a list. -/
def readList (m : Tab Byte) (a : Nat) : Nat → List Nat
  | 0 => []
  | n + 1 => (byte m a).toNat :: readList m (a + 1) n

end Memory

/-- One bit step of CRC-32C (Castagnoli, reflected). -/
def crc32cBit (c : Nat) : Nat := if c % 2 = 1 then (c / 2) ^^^ 0x82F63B78 else c / 2

/-- One byte of CRC-32C. -/
def crc32cByte (c b : Nat) : Nat := (List.range 8).foldl (fun c _ => crc32cBit c) (c ^^^ (b % 256))

/-- CRC-32C of a list of bytes. -/
def crc32c (l : List Nat) : Nat := l.foldl crc32cByte 0xFFFFFFFF ^^^ 0xFFFFFFFF

namespace Gloesk

/-- Whether the part is the depopulated GK-9632 (R2). -/
def small (g : Gloesk) : Bool := g.variant == .gk9632

/-- Number of banks (R307). -/
def banks (g : Gloesk) : Nat := if g.small then 32 else 64

/-- Size of the general view (R306). -/
def generalSize (g : Gloesk) : Nat := if g.small then 0x03800000 else 0x07000000

/-- Size of the staging view (R306). -/
def stagingSize (g : Gloesk) : Nat := if g.small then 0x00800000 else 0x01000000

/-- An address in the general view. -/
def inGeneral (g : Gloesk) (a : Nat) : Bool := decide (a < g.generalSize)

/-- An address in the staging view. -/
def inStaging (g : Gloesk) (a : Nat) : Bool := decide (0x07000000 ≤ a) && decide (a < 0x07000000 + g.stagingSize)

/-- The bank of an address (R307). -/
def bankOf (g : Gloesk) (a : Nat) : Nat := if g.inStaging a then (a - 0x07000000) / 2 ^ 18 else a / 256 % g.banks

/-- The bank of a hub lane's staging area (R88, R314). -/
def laneBank (g : Gloesk) (lane : Nat) : Nat := if g.small && decide (32 ≤ lane) then lane - 16 else lane

/-- An address within the staging band of a bank (R314). -/
def stagingAddr (bank ofs : Nat) : Nat := 0x07000000 + 0x40000 * bank + ofs

/-- Bytes of Inkwell as a number, little-endian. -/
def peek (g : Gloesk) (a n : Nat) : Nat := Memory.read g.ink.mem a n

/-- Write bytes of Inkwell. -/
def poke (g : Gloesk) (a n v : Nat) : Gloesk := { g with ink := { g.ink with mem := Memory.write g.ink.mem a n v } }

/-- Whether any 64-bit word of a range is poisoned (R309). -/
def poisoned (g : Gloesk) (a n : Nat) : Bool :=
  (List.range ((a + n + 7) / 8 - a / 8)).any (fun i => Tab.get false g.ink.poison (a / 8 + i))

/-- Mark the word of an address poisoned or clean. -/
def setPoison (g : Gloesk) (a : Nat) (x : Bool) : Gloesk :=
  { g with ink := { g.ink with poison := Tab.set false g.ink.poison (a / 8) x } }

/-- A write by a fabric requester (R309): whole 64-bit words lose their poison, a smaller part of a poisoned word stays
poisoned. -/
def store (g : Gloesk) (a n v : Nat) : Gloesk :=
  let g := g.poke a n v
  g.each (List.range ((a + n) / 8 - (a + 7) / 8)) (fun g i => g.setPoison (((a + 7) / 8 + i) * 8) false)

/-- Whole lines that hardware writes lose their poison: `n` 64-bit words from `a` (R308, R309). -/
def clean (g : Gloesk) (a n : Nat) : Gloesk := g.each (List.range n) (fun g i => g.setPoison (a + 8 * i) false)

/-- The present Ruling record goes to its staging slot (R48, R314). -/
def storeRecord (g : Gloesk) : Gloesk :=
  let r := g.rul.record
  g.store (stagingAddr 1 (0x30000 + 0x40 * (r.stroke % 16))) 64 (Config.rulingLine r.stroke r.theta r.vel r.thetaNext).toNat

/-- First byte of a partition (R317). -/
def partBase (g : Gloesk) (p : Nat) : Nat := g.rd F.INK_PART_BASE_GRAN p * 65536

/-- Bytes of a partition. -/
def partSize (g : Gloesk) (p : Nat) : Nat := g.rd F.INK_PART_SIZE_GRAN p * 65536

/-- An address inside a partition. -/
def inPart (g : Gloesk) (p a : Nat) : Bool := decide (g.partBase p ≤ a) && decide (a < g.partBase p + g.partSize p)

/-- Start sparing a bank (R311). The bank whose copy runs needs no second spare. -/
def spareStart (g : Gloesk) (b : Nat) : Gloesk :=
  if g.ink.copying = some b ∨ g.banks ≤ b then g
  else if g.on F.INK_STATUS_SPARE_USED || g.ink.copying.isSome then (g.up F.INK_STATUS_NOSPARE).raise 57
  else ({ g with ink := { g.ink with copying := some b } }).up F.INK_STATUS_SPARING |>.wr F.INK_SPARE_PROG 0

/-- A single-bit error met at an address: corrected, written back and counted (R309, R311). -/
def eccCorrect (g : Gloesk) (a : Nat) : Gloesk :=
  let b := g.bankOf a
  let n := Tab.get 0 g.ink.passErr b + 1
  let g := (g.inc F.INK_ERRCNT_CE).inc F.INK_BANK_CE b
  let g : Gloesk := { g with ink := { g.ink with passErr := Tab.set 0 g.ink.passErr b n } }
  if n = g.rd F.INK_SPARE_THR + 1 then g.spareStart b else g

/-- A double-bit error met at an address by a reader of class `cls`: the word is poisoned (R309, R311). -/
def eccUncorrectable (g : Gloesk) (a cls : Nat) : Gloesk :=
  let g := g.setPoison a true
  let g : Gloesk := if g.on F.INK_STATUS_UE then g else
    g.wr F.INK_UEADDR_ADDR (a / 8 * 8) |>.wr F.INK_UEINFO_BANK (g.bankOf a) |>.wr F.INK_UEINFO_CLASS cls
  let b := g.bankOf a
  let g := ((g.up F.INK_STATUS_UE).inc F.INK_ERRCNT_UE).raise 56
  if g.ink.ueBanks.contains b then g
  else ({ g with ink := { g.ink with ueBanks := g.ink.ueBanks ++ [b] } }).spareStart b

/-- The ECC's finding at a read: 0 none, 1 single-bit, 2 double-bit (R309). -/
def ecc (g : Gloesk) (finding a cls : Nat) : Gloesk :=
  if finding = 1 then g.eccCorrect a else if finding = 2 then g.eccUncorrectable a cls else g

/-- Address of the scrubber's line. -/
def scrubAddr (g : Gloesk) : Nat :=
  let a := g.ink.scrubLine * 64
  if a < g.generalSize then a else 0x07000000 + (a - g.generalSize)

/-- The scrubber reads its next line (R310): words with single-bit errors are corrected, poisoned words counted and
left. `singles` and `doubles` are the words of the line in which the ECC finds a new error. -/
def scrubStep (g : Gloesk) (singles doubles : List Nat) : Gloesk :=
  if !(g.on F.INK_CTRL_SCRUB_EN) then g else
  let base := g.scrubAddr
  let g := g.each singles (fun g i => g.eccCorrect (base + 8 * (i % 8)))
  let g := g.each doubles (fun g i => g.eccUncorrectable (base + 8 * (i % 8)) 2)
  let bad := below 8 (fun i => g.poisoned (base + 8 * i) 8)
  let g := g.inc F.INK_BANK_UE (g.bankOf base) bad.length
  let nxt := g.ink.scrubLine + 1
  if nxt * 64 < g.generalSize + g.stagingSize then { g with ink := { g.ink with scrubLine := nxt } }
  else
    let g : Gloesk := { g with ink := { g.ink with scrubLine := 0, passErr := [] } }
    g.wr F.INK_SCRUB_PASSES (g.rd F.INK_SCRUB_PASSES + 1)

/-- A requested sparing (R311). -/
def spareReq (g : Gloesk) (rbank : Nat) : Gloesk := (g.wr F.INK_SPARE_RBANK rbank).spareStart (rbank % 64)

/-- The copy is complete and the spare takes the bank's number (R311). -/
def spareComplete (g : Gloesk) : Gloesk :=
  match g.ink.copying with
  | none => g
  | some b =>
    ({ g with ink := { g.ink with copying := none } }).down F.INK_STATUS_SPARING |>.up F.INK_STATUS_SPARE_USED
      |>.wr F.INK_SPARE_SBANK b |>.wr F.INK_SPARE_PROG 255 |>.up F.INK_BANK_SPARED b

/-- Least size of a partition in granules (R317). -/
def leastSize (p : Nat) : Nat := nth 0 [0, 16, 1, 1, 1, 1, 1, 32] p

/-- The size floor of a partition: least size and MIN (R317). -/
def floorSize (g : Gloesk) (p : Nat) : Nat := max (leastSize p) (g.rd F.INK_PART_MIN_GRAN p)

/-- Granules of the general view. -/
def granules (g : Gloesk) : Nat := g.generalSize / 65536

/-- Two partitions of nonzero size overlap, with the sizes given. -/
def partsOverlap (g : Gloesk) (size : Nat → Nat) (p q : Nat) : Bool :=
  decide (size p ≠ 0 ∧ size q ≠ 0) &&
  decide (g.rd F.INK_PART_BASE_GRAN p < g.rd F.INK_PART_BASE_GRAN q + size q) &&
  decide (g.rd F.INK_PART_BASE_GRAN q < g.rd F.INK_PART_BASE_GRAN p + size p)

/-- A layout is legal (R318). -/
def layoutOk (g : Gloesk) (size : Nat → Nat) : Bool :=
  (List.range 16).all (fun p => decide (g.rd F.INK_PART_BASE_GRAN p + size p ≤ g.granules)
    && decide (g.floorSize p ≤ size p)
    && (List.range p).all (fun q => !(g.partsOverlap size p q)))

/-- The lock of the layout (R318). -/
def layoutLock (g : Gloesk) : Gloesk :=
  if g.on F.INK_STATUS_LOCKED then g
  else if g.layoutOk (fun p => g.rd F.INK_PART_SIZE_GRAN p) then
    (g.up F.INK_STATUS_LOCKED).each (List.range 16)
      (fun g p => g.wr F.INK_PART_STAT_VALID (if g.rd F.INK_PART_SIZE_GRAN p = 0 then 0 else 1) p)
  else g.up F.INK_STATUS_LAYOUT_BAD

/-- Size of a partition after the resizes of a record, the last one deciding (R319). -/
def resized (g : Gloesk) (ws : List (Nat × Nat)) (p : Nat) : Nat :=
  ws.foldl (fun n w => if w.2 % 16 = p then bits w.2 16 11 else n) (g.rd F.INK_PART_SIZE_GRAN p)

/-- The resize record applies whole or is rejected (R319). `used p` is the end of the highest registered object. -/
def resizeApply (g : Gloesk) (used : Nat → Nat) (ws : List (Nat × Nat)) : Gloesk :=
  let ok := g.layoutOk (g.resized ws) && (List.range 16).all (fun p => decide (used p ≤ g.resized ws p)
    || decide (g.rd F.INK_PART_SIZE_GRAN p ≤ g.resized ws p))
  if ok then
    g.each (List.range 16) (fun g' p => (g'.wr F.INK_PART_SIZE_GRAN (g.resized ws p) p).wr F.INK_PART_STAT_VALID
      (if g.resized ws p = 0 then 0 else 1) p)
  else (g.up F.INK_STATUS_RESIZE_REJ).inc F.INK_ERRCNT1_RSZREJ

end Gloesk

end Sys2Proof.Machine
end

