-- ==== Sys2Proof/Machine/Svi.lean ====
section
/-!
DEFINITION. Measured values in: process-bus frames, sampled values, GOOSE, cell reports into staging, and the agreement
of the input set (R72-R97).
-/

namespace Sys2Proof.Machine

/-- Samples per second of a stream (R76). -/
def svRate (code : Nat) : Nat := nth 4000 [4000, 4800, 14400, 96000] code

/-- Validity of a quality word: 0 good, 1 invalid, 2 reserved, 3 questionable (PRESUMED, log entry 13). -/
def qValidity (q : Nat) : Nat := bits q 0 2

/-- detailQual.failure, test and operatorBlocked of a quality word (PRESUMED, log entry 13). -/
def qFailure (q : Nat) : Bool := bit q 6
def qTest (q : Nat) : Bool := bit q 11
def qBlocked (q : Nat) : Bool := bit q 12

/-- A 16-bit value extended to the full value nearest to `own` (R93). -/
def extend16 (own low : Nat) : Nat := ((own : Int) + toS 16 (low + 65536 - own % 65536)).toNat

/-- (stNum, sqNum) order of GOOSE messages (R82). -/
def gooseNewer (st sq st' sq' : Nat) : Bool := decide (st' < st) || (st == st' && decide (sq' < sq))

/-- A member's content as a number. -/
def GooseVal.code : GooseVal → Nat
  | .bool b => if b then 1 else 0
  | .dbpos n => n
  | .int32 i => ofS 32 i
  | .float32 w => w
  | .quality q => q
  | .timestamp t => t

/-- A member of the same type with the content that a number gives. -/
def GooseVal.ofCode (v : GooseVal) (n : Nat) : GooseVal :=
  match v with
  | .bool _ => .bool (n % 2 == 1)
  | .dbpos _ => .dbpos (n % 4)
  | .int32 _ => .int32 (toS 32 n)
  | .float32 _ => .float32 (n % 2 ^ 32)
  | .quality _ => .quality n
  | .timestamp _ => .timestamp n

/-- What a mode does with an item (R79). -/
inductive ModeAct where
  | good
  | bad
  | drop
  deriving DecidableEq, Repr

namespace Gloesk

/-- Change the SVI state. -/
def onSvi (g : Gloesk) (f : SviState → SviState) : Gloesk := { g with svi := f g.svi }

/-- SB(k) in Baseline ns, for the stroke nearest to the present one with this number (R28). -/
def boundary (g : Gloesk) (k : Nat) : Int :=
  (((g.ns / g.period : Nat) : Int) + strokeDiff g.stroke k) * g.period

/-! ### Ports (R72-R75) -/

/-- The two ports of a pair run at different speeds while the pair is redundant (R72). -/
def speedDiffers (g : Gloesk) (pair : Nat) : Bool :=
  g.pairMode (2 * pair) != 0 && g.rd F.PTP_P_CFG_SPEED (2 * pair) != g.rd F.PTP_P_CFG_SPEED (2 * pair + 1)
    && g.rd F.PTP_P_CFG_SPEED (2 * pair) != 3 && g.rd F.PTP_P_CFG_SPEED (2 * pair + 1) != 3

/-- SVI_STATUS.PAIR_SPEED shows the condition. -/
def showPairSpeed (g : Gloesk) : Gloesk :=
  g.wr F.SVI_STATUS_PAIR_SPEED (if g.speedDiffers 0 || g.speedDiffers 1 then 1 else 0)

/-- A pair of different speeds accepts frames on its lower port only (R72). -/
def portAccepts (g : Gloesk) (port : Nat) : Bool := !(g.speedDiffers (port / 2)) || port % 2 == 0

/-- A process-bus port loses its link (R72, source 85). -/
def portLinkDown (g : Gloesk) (port : Nat) : Gloesk :=
  let g := (g.wr F.PTP_P_CFG_SPEED 3 port).onSvi (fun v => { v with linkDown := port :: without v.linkDown port })
  ((g.raise 85).showPairSpeed).dropPort port

/-- A process-bus port has its link, at the speed its partner offers (R72). -/
def portLinkUp (g : Gloesk) (port speed : Nat) : Gloesk :=
  let g := (g.wr F.PTP_P_CFG_SPEED speed port).onSvi (fun v => { v with linkDown := without v.linkDown port })
  ((g.iff g.svi.linkDown.isEmpty (·.lower 85)).showPairSpeed).showPorts

/-- HSR ring traffic is forwarded to the other port of its pair, except frames this node sent (R73). -/
def hsrForward (g : Gloesk) (port kind srcMac : Nat) (tag : Option Nat) (own : Bool) : Gloesk :=
  if g.pairMode port = 2 ∧ !own ∧ !(g.speedDiffers (port / 2)) then
    g.send .pbFrame [port ^^^ 1, kind, srcMac, tag.getD 0]
  else g

/-- The duplicate table of a port's pair. -/
def dupTable (g : Gloesk) (port : Nat) : List (Nat × Nat) := if port < 2 then g.svi.dupA else g.svi.dupB

/-- Write the duplicate table of a port's pair. -/
def setDup (g : Gloesk) (port : Nat) (t : List (Nat × Nat)) : Gloesk :=
  g.onSvi (fun v => if port < 2 then { v with dupA := t } else { v with dupB := t })

/-- SVI_DDTAB.OCC shows the larger occupancy. -/
def showOcc (g : Gloesk) : Gloesk := g.wr F.SVI_DDTAB_OCC (max g.svi.dupA.length g.svi.dupB.length)

/-- Duplicate discard (R74): the new state, and whether the frame goes on. -/
def dupCheck (g : Gloesk) (port srcMac : Nat) (tag : Option Nat) : Gloesk × Bool :=
  match tag with
  | none => (g, true)
  | some sq =>
    if g.pairMode port = 0 then (g, true)
    else if (g.dupTable port).contains (srcMac, sq) then (g.inc F.SVI_P_DUP_CNT port, false)
    else
      let t := g.dupTable port
      let full := decide (1024 ≤ t.length)
      let g := g.iff full (·.inc F.SVI_DDTAB_OVF)
      ((g.setDup port (keepLast 1023 t ++ [(srcMac, sq)])).showOcc, true)

/-- The oldest entry of a pair's table reaches its forget time (R74). -/
def duplicateForget (g : Gloesk) (pair : Nat) : Gloesk := (g.setDup (2 * pair) ((g.dupTable (2 * pair)).drop 1)).showOcc

/-- The next sequence number of a pair's redundancy trailers and tags. -/
def pairSeqOf (g : Gloesk) (pair : Nat) : Nat := Tab.get 0 g.svi.pairSeq pair

/-- What a frame sent on a port carries for redundancy: 0 none, 2^16 + number for a PRP trailer, 2^17 + number for an HSR tag
(R73). -/
def sendTag (g : Gloesk) (port : Nat) : Nat :=
  if g.pairMode port = 0 then 0 else g.pairMode port * 2 ^ 16 + g.pairSeqOf (port / 2)

/-- A frame has been sent on the ports `ps`: each redundant pair among them takes its next sequence number (R73). -/
def pairSent (g : Gloesk) (ps : List Nat) : Gloesk :=
  g.each ((ps.map (· / 2)).eraseDups.filter (fun h => g.pairMode (2 * h) != 0)) (fun g h =>
    g.onSvi (fun v => { v with pairSeq := Tab.set 0 v.pairSeq h ((g.pairSeqOf h + 1) % 65536) }))

/-- PB_OTHER_FRAME: a frame of another EtherType, or one with a bad FCS (R75). Ring traffic of an HSR pair passes on (R73). -/
def pbOther (g : Gloesk) (port kind srcMac : Nat) (tag : Option Nat) (own fcsBad : Bool) : Gloesk :=
  (g.iff (!fcsBad) (·.hsrForward port kind srcMac tag own)).inc F.SVI_P_DROP_CNT port

/-- A PRP or HSR pair sends its supervision frame on both ports (R73). -/
def supervision (g : Gloesk) (pair : Nat) : Gloesk :=
  if g.pairMode (2 * pair) = 0 then g
  else
    let t := g.sendTag (2 * pair)
    ((g.send .pbFrame [2 * pair, 0, t]).send .pbFrame [2 * pair + 1, 0, t]).pairSent [2 * pair, 2 * pair + 1]

/-! ### Tags, modes and staging of samples (R76-R80, R86) -/

/-- The tag policy passes a frame (R86). `gmac` 0 none, 1 valid, 2 invalid. -/
def tagPasses (sec gmac : Nat) : Bool :=
  if sec = 0 then true else if sec = 1 then gmac != 2 else gmac == 1

/-- A frame discarded for its tag (R86). -/
def tagFail (g : Gloesk) (port : Nat) : Gloesk := ((g.inc F.SVI_P_TAGF_CNT port).up F.SVI_STATUS_TAG_FAIL).raise 26

/-- The mode in effect; 3 is treated as 0 (R97). -/
def sviMode (g : Gloesk) : Nat := if g.rd F.SVI_STATUS_MODE_ACT = 3 then 0 else g.rd F.SVI_STATUS_MODE_ACT

/-- The mode filter (R79). An item in Live mode with both bits meets two rows: it is discarded, and both flags are set (DESIGN
CHOICE, log entry 208). `seen`: a simulated item of the stream has been seen in Simulation mode. -/
def modeFilter (mode : Nat) (test sim seen : Bool) : ModeAct :=
  if mode = 0 then (if sim then .drop else if test then .bad else .good)
  else if mode = 1 then (if sim then .bad else .good)
  else (if sim then .good else if seen then .drop else .good)

/-- smpSynch is accepted; a gmIdentity other than that of the grandmaster the servo follows counts as smpSynch 1 (R76, R79). -/
def synchOk (g : Gloesk) (n : Nat) (a : SvAsdu) : Bool :=
  let s := if a.gmIdentity.all (· == g.time.gmIdentity) then a.smpSynch else 1
  if s = 0 then g.on F.SVI_SUB_CFG_SYNC0_OK n
  else if s = 1 then bit (g.rd F.SVI_SUB_CFG_SYNC_MASK n) 0
  else if s = 2 then bit (g.rd F.SVI_SUB_CFG_SYNC_MASK n) 1
  else if s = 3 ∨ s = 4 ∨ 254 < s then false
  else bit (g.rd F.SVI_SUB_CFG_SYNC_MASK n) 2 && s == g.rd F.SVI_SUB_ID_GMID n

/-- Second s of a sample: the TAI second nearest to its receive time less smpCnt / rate (R78); `rx` in fine units. -/
def sampleSecond (rx : Int) (rate smpCnt : Nat) : Int :=
  let second : Int := 1000000000 * fineNs
  roundFree (rx * rate - smpCnt * second) (rate * second)

/-- Sample index (R78). -/
def sampleIndex (rx : Int) (rate smpCnt : Nat) : Nat := (sampleSecond rx rate smpCnt * rate + smpCnt).toNat

/-- Latency in fine units; the sample instant is carried to 2^-16 ns (R78, R80). -/
def sampleLatency (rx : Int) (rate smpCnt : Nat) : Int :=
  let ticks := sampleSecond rx rate smpCnt * rate + smpCnt
  rx - 200 * quotFree (ticks * 1000000000 * 65536) rate

/-- The ring of a stream. -/
def ring (g : Gloesk) (n : Nat) : List Sample := Tab.get [] g.svi.rings n

/-- Stage a sample of stream `n` (R78-R80). `rx` is its receive timestamp in fine units, `arrival` its arrival in
2^-32 ns. The result says whether the sample is new. -/
def stageSample (g : Gloesk) (n : Nat) (a : SvAsdu) (sim : Bool) (rx : Int) (arrival : Nat) : Gloesk × Bool :=
  let rate := svRate (g.rd F.SVI_SUB_CFG_RATE n)
  let idx := sampleIndex rx rate a.smpCnt
  let vals := a.vals.take (g.rd F.SVI_SUB_CFG_NCH n)
  let test := vals.any (fun v => qTest v.2)
  let m := modeFilter g.sviMode test sim (has g.svi.simSeen n)
  let g := g.iff (g.sviMode == 0 && test) (·.up F.SVI_SUB_STAT_TEST_SEEN n)
  let g := g.iff (g.sviMode == 0 && sim) (·.up F.SVI_SUB_STAT_SIM_SEEN n)
  let g := g.iff (g.sviMode == 2 && sim) (·.onSvi (fun v => { v with simSeen := n :: without v.simSeen n }))
  if m = .drop then (g, false)
  else if (g.ring n).any (fun s => s.idx = idx) then
    let r := (g.ring n).map (fun s => if s.idx = idx then { s with arrival := min s.arrival arrival } else s)
    (g.onSvi (fun v => { v with rings := Tab.set [] v.rings n r }), false)
  else
    let quest := vals.any (fun v => qValidity v.2 = 3)
    let qual := vals.all (fun v => (qValidity v.2 = 0 || (qValidity v.2 = 3 && g.on F.SVI_SUB_CFG_QUEST_OK n))
      && !(qFailure v.2) && !(qBlocked v.2))
    let lat := sampleLatency rx rate a.smpCnt
    let late := decide (10 * g.rd F.SVI_SUB_LAT_LAT_BUD n * 1000 * fineNs < lat)
    let early := decide (lat < -(g.rd F.SVI_SKEW_LATNEG * 1000 * fineNs))
    let g := g.iff (!qual) (·.up F.SVI_SUB_STAT_QUAL_BAD n)
    let g := g.iff (late || early) (fun g => (g.up F.SVI_SUB_STAT_SKEW n).up F.SVI_STATUS_SKEW)
    let good := qual && g.synchOk n a && !late && !early && m == .good
    let s : Sample := ⟨idx, vals, good, quest, test, arrival⟩
    (g.onSvi (fun v => { v with rings := Tab.set [] v.rings n (keepLast 32 (Tab.get [] v.rings n ++ [s])) }), true)

/-- This twin cross-feeds what it accepts (R90): in step, or as the source of its partner's join (R328, R351). -/
def feeds (g : Gloesk) : Bool := g.inStep || (g.role == roleActive && g.peerAlive)

/-- The enabled subscription a frame belongs to (R77). -/
def svMatch (g : Gloesk) (port : Nat) (f : SvFrame) : Option Nat :=
  (List.range 256).find? (fun n => g.on F.SVI_SUB_CFG_EN n && g.rd F.SVI_SUB_ID_APPID n == f.appid
    && g.rd F.SVI_SUB_SVID_CRC_CRC n == f.svidCrc && g.rd F.SVI_SUB_CONFREV_REV n == f.confRev
    && bit (g.rd F.SVI_SUB_CFG_PORTS n) port)

/-- smpRate and smpMod, when present, agree with RATE (R76): a rate in samples per second where smpMod is 1, else in samples per
period of 50 Hz (PRESUMED, log entry 208). -/
def rateAgrees (a : SvAsdu) (rate : Nat) : Bool :=
  match a.smpRate with
  | none => a.smpMod.all (fun m => decide (m ≤ 1))
  | some r => if a.smpMod = some 1 then r == rate else (a.smpMod.getD 0 == 0 && r * 50 == rate)

/-- The frame keeps to the table of R76 and holds NCH channels. -/
def svFormatOk (g : Gloesk) (n : Nat) (f : SvFrame) : Bool :=
  let rate := svRate (g.rd F.SVI_SUB_CFG_RATE n)
  decide (1 ≤ f.asdus.length ∧ f.asdus.length ≤ 8) && f.asdus.all (fun a => rateAgrees a rate
    && decide (g.rd F.SVI_SUB_CFG_NCH n ≤ a.vals.length ∧ a.vals.length ≤ 16) && decide (a.smpCnt < rate))

/-- The bank of a process-bus port and of a twin lane (R88). -/
def portBank (g : Gloesk) (n : Nat) : Nat := if g.small then 4 + 8 * n else 8 + 16 * n
def twinBank (g : Gloesk) (m : Nat) : Nat := if g.small then 8 * m else 16 * m

/-- An accepted frame goes to the receive ring of its bank (R88, R314): its place and its 1,536 bytes are free (log entry 208). -/
def ringStore (g : Gloesk) (bank : Nat) : Gloesk :=
  (g.store (stagingAddr bank (0x30000 + 64 * (Config.ringSlot bank g.fresh % 1000))) 1536 g.free).nextFree

/-- A PTP frame that arrives while PTP runs is one of those that the port's receive ring takes (R314). -/
def ptpIn (g : Gloesk) (port : Nat) : Gloesk := g.iff (g.on F.PTP_CTRL_EN) (fun g => g.ringStore (g.portBank port))

/-- A cross-feed frame (R176): KIND, port, stream or subscription, byte length, receive timestamp (`rx` in 2^-16 ns / 200) and arrival
time, then what the item holds. The bytes of the ASDU or message stand for its content, and their number is free (log entry
212). -/
def feedFrame (g : Gloesk) (kind port n : Nat) (rx : Int) (item : List (Nat × Nat)) : Gloesk :=
  (g.ligature 0x23 ([(kind, 8), (port, 2), (0, 6), (n, 8), (0, 8), (g.free, 32), (ofS 64 (rx / 200), 64), (g.time.bl, 64), (0, 64)]
    ++ item)).nextFree

/-- Stage the ASDUs of a frame and cross-feed the new samples with their bodies (R78, R90, R176). -/
def stageAsdus (g : Gloesk) (port n : Nat) (f : SvFrame) (rx : Int) : Gloesk :=
  f.asdus.foldl (fun (g : Gloesk) a =>
    let (g, new) := g.stageSample n a f.sim rx g.time.bl
    if new && g.feeds then
      g.feedFrame 0 port n rx ([(a.smpCnt, 16), (a.smpSynch, 8), flagField f.sim]
        ++ a.vals.flatMap (fun v => [(ofS 32 v.1, 32), (v.2, 32)]))
    else g) g

/-- An SV frame arrives on a port (R73-R80, R86). -/
def svFrame (g : Gloesk) (port : Nat) (f : SvFrame) : Gloesk :=
  let g := g.hsrForward port 0x88BA f.srcMac f.tag f.own
  if !(g.portAccepts port) || f.own || f.unknownPath then g else
  let (g, first) := g.dupCheck port f.srcMac f.tag
  if !first then g else
  match (if g.on F.SVI_CTRL_EN then g.svMatch port f else none) with
  | none => g.inc F.SVI_P_DROP_CNT port
  | some n =>
    if !(tagPasses (g.rd F.SVI_SUB_CFG_SEC n) f.gmac) then g.tagFail port
    else if !(g.svFormatOk n f) then (g.inc F.SVI_P_DROP_CNT port).up F.SVI_SUB_STAT_FMT_ERR n
    else ((g.inc F.SVI_P_RX_CNT port).ringStore (g.portBank port)).stageAsdus port n f (g.rxRef port f.rx)

/-! ### GOOSE (R82-R85) -/

/-- The enabled subscription a GOOSE message belongs to (R82). -/
def gooseMatch (g : Gloesk) (port : Nat) (m : GooseMsg) : Option Nat :=
  (List.range 128).find? (fun n => g.on F.SVI_GS_CFG_EN n && g.rd F.SVI_GS_APPID_APPID n == m.appid
    && g.rd F.SVI_GS_REF_CRC_CRC n == m.refCrc && g.rd F.SVI_GS_DS_CRC_CRC n == m.dsCrc
    && g.rd F.SVI_GS_CONFREV_REV n == m.confRev && bit (g.rd F.SVI_GS_CFG_PORTS n) port)

/-- The newest message held for a subscription. -/
def gooseHeld (g : Gloesk) (n : Nat) : Option HeldGoose :=
  (g.svi.heldGoose.filter (fun e => e.1 = n)).foldl (fun b e => match b with
    | none => some e.2
    | some h => if gooseNewer e.2.msg.stNum e.2.msg.sqNum h.msg.stNum h.msg.sqNum then some e.2 else b) none

/-- Stage a GOOSE message (R79, R82). The result says whether it is new. -/
def stageGoose (g : Gloesk) (n : Nat) (m : GooseMsg) (arrival : Nat) : Gloesk × Bool :=
  if m.ndsCom then (g.up F.SVI_GS_STAT_NDSCOM n, false) else
  let act := modeFilter g.sviMode m.test m.sim (has g.svi.simGoose n)
  let g := g.iff (g.sviMode == 0 && m.test) (·.up F.SVI_GS_STAT_TEST_SEEN n)
  let g := g.iff (g.sviMode == 0 && m.sim) (·.up F.SVI_GS_STAT_SIM_SEEN n)
  let g := g.iff (g.sviMode == 2 && m.sim) (·.onSvi (fun v => { v with simGoose := n :: without v.simGoose n }))
  if act ≠ .good then (g, false) else
  if g.svi.heldGoose.any (fun e => e.1 = n ∧ e.2.msg.stNum = m.stNum ∧ e.2.msg.sqNum = m.sqNum ∧ arrival < e.2.arrival) then
    (g.onSvi (fun v => { v with heldGoose := v.heldGoose.map (fun e =>
      if e.1 = n ∧ e.2.msg.stNum = m.stNum ∧ e.2.msg.sqNum = m.sqNum then (e.1, { e.2 with arrival := arrival }) else e) }),
      false)
  else
    let older := match g.gooseHeld n with
      | none => false
      | some h => !(gooseNewer m.stNum m.sqNum h.msg.stNum h.msg.sqNum)
    if older then (g.inc F.SVI_GS_CNT_SEQERR n, false)
    else (g.onSvi (fun v => { v with heldGoose := v.heldGoose ++ [(n, ⟨m, arrival⟩)] }), true)

/-- A GOOSE message arrives on a port (R73-R75, R82, R86). -/
def gooseFrame (g : Gloesk) (port : Nat) (m : GooseMsg) : Gloesk :=
  let g := g.hsrForward port 0x88B8 m.srcMac m.tag m.own
  if !(g.portAccepts port) || m.own || m.unknownPath then g else
  let (g, first) := g.dupCheck port m.srcMac m.tag
  if !first then g else
  match (if g.on F.SVI_CTRL_EN then g.gooseMatch port m else none) with
  | none => g.inc F.SVI_P_DROP_CNT port
  | some n =>
    if !(tagPasses (g.rd F.SVI_GS_CFG_SEC n) m.gmac) then g.tagFail port
    else
      let rx := g.rxRef port m.rx
      let (g, new) := ((g.inc F.SVI_P_RX_CNT port).ringStore (g.portBank port)).stageGoose n m g.time.bl
      if new && g.feeds then
        g.feedFrame 1 port n rx ([(m.stNum, 32), (m.sqNum, 32), (m.ttl, 32), flagField m.test, flagField m.sim, flagField m.ndsCom]
          ++ packed 64 (m.members.map GooseVal.code))
      else g

/-- An item of the partner's cross-feed is staged as one of this twin's own, and lands in TL0's receive ring (R88, R90). `rx` in 2^-16 ns, referred to the
medium by the sender; `arrival` in 2^-32 ns. -/
def xfeed (g : Gloesk) (item : Feed) (sim : Bool) (rx : Int) (arrival : Nat) : Gloesk :=
  let g : Gloesk := if g.twin.feedSince = none then { g with twin := { g.twin with feedSince := some g.ns } } else g
  let g := g.ringStore (g.twinBank 0)
  match item with
  | .sv n a => if n < 256 ∧ g.on F.SVI_CTRL_EN ∧ g.on F.SVI_SUB_CFG_EN n then (g.stageSample n a sim (fine16 rx) arrival).1 else g
  | .goose n m => if n < 128 ∧ g.on F.SVI_CTRL_EN ∧ g.on F.SVI_GS_CFG_EN n then (g.stageGoose n m arrival).1 else g

/-- The message a subscription has agreed. -/
def gooseAgreed (g : Gloesk) (n : Nat) : Option HeldGoose := (g.svi.agreedGoose.find? (fun e => e.1 = n)).map (·.2)

/-- Address in Inkwell of the default of a subscription's member (R83). -/
def gooseDefaultAt (g : Gloesk) (n m : Nat) : Nat := g.partBase 7 + Config.gooseDefaultOfs n m % max 1 (g.partSize 7)

/-- Write a subscription's defaults to Inkwell, eight bytes a member (R83; DESIGN CHOICE, log entry 208). -/
def storeDefaults (g : Gloesk) (n : Nat) (vs : List GooseVal) : Gloesk :=
  let g := g.onSvi (fun v => { v with gooseDefaults := Tab.set [] v.gooseDefaults n vs })
  (vs.zip (List.range vs.length)).foldl (fun (g : Gloesk) e => g.store (g.gooseDefaultAt n e.2) 8 e.1.code) g

/-- The defaults of a subscription's members, as Inkwell holds them. -/
def gooseDefault (g : Gloesk) (n : Nat) : List GooseVal :=
  let vs := Tab.get [] g.svi.gooseDefaults n
  (vs.zip (List.range vs.length)).map (fun e => e.1.ofCode (g.peek (g.gooseDefaultAt n e.2) 8))

/-- A subscription becomes stale at the present boundary (R83): its newest agreed message's arrival plus
timeAllowedToLive lies before SB(k). -/
def gooseStale (g : Gloesk) (n : Nat) : Gloesk :=
  match g.gooseAgreed n with
  | none => g
  | some h =>
    let ends : Int := (h.arrival + h.msg.ttl * 1000000 * 2 ^ 32 : Nat)
    if g.rd F.SVI_GS_STAT_STATE n = 1 ∧ ends < g.boundary g.stroke * 2 ^ 32 then
      let g := ((g.wr F.SVI_GS_STAT_STATE 2 n).inc F.SVI_GS_CNT_STALE n).up F.SVI_STATUS_GOOSE_STALE |>.raise 25
      let vals := if g.on F.SVI_GS_CFG_DEF_ACT n then g.gooseDefault n else Tab.get [] g.svi.gooseIn n
      g.onSvi (fun v => { v with gooseIn := Tab.set [] v.gooseIn n vals, gooseBad := n :: without v.gooseBad n })
    else g

/-- A publication's source; 2 and 3 are treated as 0 (R84, R97). -/
def pubSrc (g : Gloesk) (n : Nat) : Nat := if g.rd F.SVI_GP_CFG_SRC n = 1 then 1 else 0

/-- APPID of a publication's frame template: bytes 14-15, or 18-19 behind a VLAN tag, most significant first
(PRESUMED, log entry 14). -/
def templateAppid (g : Gloesk) (n : Nat) : Nat :=
  let a := g.partBase 7 + g.rd F.SVI_GP_TMPL_OFS n
  let o := if g.peek (a + 12) 2 = 0x0081 then 18 else 14
  g.peek (a + o) 1 * 256 + g.peek (a + o + 1) 1

/-- The publishing key of a publication (R436). -/
def pubKey (g : Gloesk) (n : Nat) : Option GmacKey :=
  (g.svi.keys.filter (fun k => k.publish ∧ k.appid = g.templateAppid n ∧ k.start ≤ g.sec ∧ g.sec < k.stop)).foldl
    (fun b k => match b with
      | none => some k
      | some x => if x.start < k.start then some k else b) none

/-- Interval to a publication's next repeat after `i` ms (R84). -/
def nextInterval (g : Gloesk) (n i : Nat) : Nat :=
  let t0 := g.rd F.SVI_GP_CFG_T0 n
  if i = 0 then min (g.rd F.SVI_GP_TIM_TMIN n) t0 else min (2 * i) t0

/-- A publication's repeat state. -/
def pubState (g : Gloesk) (n : Nat) : PubState := ((g.svi.pubs.find? (fun e => e.1 = n)).map (·.2)).getD ⟨0, true⟩

/-- The first data member of a publication's template is encoded as BOOLEAN (R365): a predicate of the template's bytes
that the manual names and does not spell out (log entry 22). -/
def templateBool (g : Gloesk) (n : Nat) : Bool :=
  Config.crypto 20 (Memory.readList g.ink.mem (g.partBase 7 + g.rd F.SVI_GP_TMPL_OFS n) 1522) == 1

/-- Send a publication's next frame, its template from Inkwell with the fields of the state, on its ports, or shadow it (R84, R85,
R436). One that follows the Blotter carries
TRIPPED and is not sent when its template's first member is not BOOLEAN (R365). -/
def pubFrame (g : Gloesk) (n : Nat) : Gloesk :=
  let blt := g.pubSrc n == 0
  if blt && !(g.templateBool n) then (g.up F.SVI_STATUS_TMPL_ERR).raise 30 else
  let i := g.nextInterval n (g.pubState n).interval
  let g := g.onSvi (fun v => { v with pubs := v.pubs.filter (fun e => e.1 ≠ n) ++ [(n, ⟨i, false⟩)] })
  if !(g.transmits && g.leadsClaim) then g
  else match g.pubKey n with
    | none => g.up F.SEC_STATUS_NOKEY
    | some k =>
      let ports := below 4 (fun p => bit (g.rd F.SVI_GP_CFG_PORTS n) p)
      let body := Memory.readList g.ink.mem (g.partBase 7 + g.rd F.SVI_GP_TMPL_OFS n) 1522
      let g := g.each ports (fun g p => g.send .pbFrame ([p, 0x88B8, g.sendTag p, n, g.rd F.SVI_GP_STNUM_STNUM n,
        g.rd F.SVI_GP_SQNUM_SQNUM n, g.rd F.SVI_GP_TIM_TAL_MUL n * i, k.keyId,
        if blt then g.rd F.BLT_STATUS_TRIPPED else 0] ++ body))
      (g.pairSent ports).inc F.SVI_GP_TXCNT_CNT n ports.length

/-- A new state of a publication (R84): stNum advances, sqNum restarts, the first frame leaves. -/
def pubNew (g : Gloesk) (n : Nat) : Gloesk :=
  if !(g.on F.SVI_GP_CFG_EN n) then g else
  let g := (g.wr F.SVI_GP_STNUM_STNUM (g.rd F.SVI_GP_STNUM_STNUM n + 1) n).wr F.SVI_GP_SQNUM_SQNUM 0 n
  (g.onSvi (fun v => { v with pubs := v.pubs.filter (fun e => e.1 ≠ n) })).pubFrame n

/-- A publication's repeat interval ends (R84). -/
def pubRepeat (g : Gloesk) (n : Nat) : Gloesk :=
  if g.on F.SVI_GP_CFG_EN n && !(g.pubState n).first then
    (g.wr F.SVI_GP_SQNUM_SQNUM (g.rd F.SVI_GP_SQNUM_SQNUM n + 1) n).pubFrame n
  else g

/-! ### Cell reports into staging (R87, R89, R94, R326, R331) -/

/-- Address of the report set of a lane for stroke `k` (R87, R314). -/
def reportSet (g : Gloesk) (lane k : Nat) : Nat := stagingAddr (g.laneBank lane) (0x2000 * (k % 16))

/-- The set of a lane holds the report frame of stroke `k`. -/
def setHolds (g : Gloesk) (lane k : Nat) : Bool := Tab.get 0 g.svi.setStroke (lane * 16 + k % 16) == k + 1

/-- Section state of a lane for stroke `k`: bit 0 key section, bit 1 remainder (R87); a poisoned one is no section (R309). -/
def sectionState (g : Gloesk) (lane k : Nat) : Nat :=
  let a := g.reportSet lane k + 0x1418
  if g.setHolds lane k && !(g.poisoned a 8) then g.peek a 1 else 0

/-- Slot c of a lane's report was filled for stroke `k` (R87). -/
def slotPresent (g : Gloesk) (lane k c : Nat) : Bool :=
  g.setHolds lane k && bit (g.peek (g.reportSet lane k + 0x1400 + c / 8) 1) (c % 8)

/-- The presence bit of a slot or its `n` bytes at `ofs` of the set are poisoned: its report is absent on this twin (R309). -/
def slotPoisoned (g : Gloesk) (lane k c ofs n : Nat) : Bool :=
  let base := g.reportSet lane k
  g.poisoned (base + 0x1400 + c / 8) 1 || g.poisoned (base + ofs) n

/-- Place and bytes of a slot's rank bits, or of its remainder, in a report set (R87). -/
def slotPlace (rem : Bool) (c : Nat) : Nat × Nat := if rem then (0x400 + 20 * c, 20) else (4 * c, 4)

/-- A slot's rank bits or remainder; none where it is empty or poisoned. -/
def slotRead (g : Gloesk) (rem : Bool) (lane k c : Nat) : Option Nat :=
  let p := slotPlace rem c
  if g.slotPresent lane k c && !(g.slotPoisoned lane k c p.1 p.2) then some (g.peek (g.reportSet lane k + p.1) p.2) else none

/-- An empty slot's rank bits (R169). -/
def emptyKey : Nat := 0xF8002000

/-- Bytes of a list of words, least significant byte first. -/
def bytesOf (n v : Nat) : List Nat := (List.range n).map (fun i => v / 256 ^ i % 256)

/-- Write one lane's report frame of stroke `k` into its set (R87). `keys` and `rems` follow the populated ports in
increasing order; `state` holds the complete sections. -/
def stageReport (g : Gloesk) (lane k state : Nat) (keys rems : List Nat) : Gloesk :=
  let base := g.reportSet lane k
  let ports := g.ports lane
  let pairs := ports.zip keys
  let g := g.store (base + 0x1400) 40 0
  let g := if bit state 0 then
      let g := pairs.foldl (fun (g : Gloesk) e => g.poke (base + 4 * e.1) 4 e.2) (g.clean base 96)
      let map := pairs.foldl (fun m e => if e.2 = emptyKey then m else setBit m e.1 true) 0
      (g.poke (base + 0x1400) 24 map).poke (base + 0x141C) 4 (crc32c (keys.flatMap (bytesOf 4)))
    else g
  let g := if bit state 1 then
      let g := (ports.zip rems).foldl (fun (g : Gloesk) e => g.poke (base + 0x400 + 20 * e.1) 20 e.2) (g.clean (base + 0x400) 480)
      g.poke (base + 0x1420) 4 (crc32c (rems.flatMap (bytesOf 20)))
    else g
  (g.poke (base + 0x1418) 4 state).onSvi
    (fun v => { v with setStroke := Tab.set 0 v.setStroke (lane * 16 + k % 16) (k + 1) })

/-- A hub states its twin number (R326). -/
def hubTwin (g : Gloesk) (lane n : Nat) : Gloesk :=
  let g : Gloesk := { g with twin := { g.twin with hubSays := Tab.set 0 g.twin.hubSays lane (n + 1) } }
  if g.twin.hubSays.any (fun e => e.2 ≠ n + 1) then g.numConflict
  else if g.on F.TWN_STATUS_NUM_VALID then
    (if g.twinNo = n then g else g.numConflict)
  else if g.twin.numClash then g
  else (g.wr F.TWN_STATUS_TWIN n).up F.TWN_STATUS_NUM_VALID

/-- A twin that learns its number while its partner runs waits OUT_OF_STEP (R329). -/
def settleStarting (g : Gloesk) : Gloesk :=
  if g.role = roleStarting ∧ g.on F.TWN_STATUS_NUM_VALID ∧ g.twin.numClash = false ∧ (g.peerIs roleStandby || g.peerIs roleActive) then
    g.enterRole roleOut
  else g

/-- A lane's receive buffer overflows: a hardware fault of the lane (R89, R334). -/
def ingressOverrun (g : Gloesk) : Gloesk := (g.raise 27).suspect

/-- A REPORT frame arrives on a hub lane (R87, R89, R326, R331). `keyOk` and `remOk`: the section's GCM tag verified;
`overrun` 0 none, 1 in the key section, 2 in the remainder. -/
def reportFrame (g : Gloesk) (lane k twin claim : Nat) (keyOk remOk : Bool) (overrun : Nat) (keys rems : List Nat) :
    Gloesk :=
  if !(g.listed lane) then g else
  let g := ((g.hubTwin lane twin).settleStarting).seeClaim claim
  let g := g.iff (overrun != 0) (·.ingressOverrun)
  let key := keyOk && overrun != 1
  let rem := key && remOk && overrun == 0
  let g := g.stageReport lane k ((if key then 1 else 0) + (if rem then 2 else 0)) keys rems
  if rem then
    ((keys.zip rems).filter (fun e => e.1 ≠ emptyKey)).foldl (fun (g : Gloesk) e => g.seeClaim (bits e.2 58 16)) g
  else g

/-! ### Summaries and agreement (R90-R96) -/

/-- Bitmap of the lanes with a complete section in stroke `k`: section 0 key, 1 remainder (R176). -/
def sectionMap (g : Gloesk) (k sect : Nat) : Nat :=
  g.lanes.foldl (fun m l => if bit (g.sectionState l k) sect then setBit m l true else m) 0

/-- This twin's key summary, with the encoder values latched at SB(k) (R92, R95). -/
def keySummary (g : Gloesk) (k : Nat) : KeySummary := ⟨g.sectionMap k 0, (g.latchOf k).enc⟩

/-- The twin sends its key summary: the key sections, and for each encoder p, fraction and validity (R92, R176). -/
def keysumSend (g : Gloesk) (k : Nat) : Gloesk :=
  let s := g.keySummary k
  (g.onSvi (fun v => { v with ownKey := some (k, s) })).ligature 0x21
    ((s.bitmap, 64) :: s.enc.flatMap (fun e => [(ofS 32 e.1, 32), (ofS 16 e.2.1, 16), flagField e.2.2]) ++ [(0, 94)])

/-- The partner's key summary arrives. -/
def keysum (g : Gloesk) (k : Nat) (s : KeySummary) : Gloesk := g.onSvi (fun v => { v with peerKey := some (k, s) })

/-- What an option holds for stroke `k`. -/
def forStroke {α : Type} (k : Nat) (x : Option (Nat × α)) : Option α :=
  match x with
  | some (j, a) => if j = k then some a else none
  | none => none

/-- Without the partner's summary: NO_PEER, counted once in a stroke when a partner was expected (R96). -/
def missPeer (g : Gloesk) : Gloesk :=
  let g := g.iff g.expectPeer (fun g => (g.up F.SVI_STATUS_NO_PEER).iff (!g.twin.noPeer) (·.inc F.SVI_AGREE1_NO_PEER))
  { g with twin := { g.twin with noPeer := true } }

/-- Count the sections complete on one twin only (R93). -/
def oneSided (g : Gloesk) (a b : Nat) : Gloesk := g.inc F.SVI_AGREE0_ONE_SIDED 0 (popCount 64 (a ^^^ b))

/-- The copy of a cell's report: plane P, else plane Q, from agreed sections; none when both are agreed and differ
(R94). The Bool says that they differ. `w` is the number of low bits compared. -/
def cellCopy (map w : Nat) (get : Nat → Option Nat) (pair : Nat) : Option Nat × Bool :=
  let read (l : Nat) : Option Nat := if bit map l then get l else none
  match read pair, read (32 + pair) with
  | some p, some q => if p % 2 ^ w = q % 2 ^ w then (some p, false) else (none, true)
  | some p, none => (some p, false)
  | none, q => (q, false)

/-- The cells of the listed pairs that either plane lists as populated. -/
def stationCells (g : Gloesk) : List (Nat × Nat) :=
  g.map.pairs.flatMap (fun h => (below 192 (fun c => bit (Tab.get 0 g.map.population h) c
    || bit (Tab.get 0 g.map.population (32 + h)) c)).map (fun c => (h, c)))

/-- The poisoned slots that the agreement of lanes `map` reads make the twin suspect (R309, R334). -/
def stagedPoison (g : Gloesk) (k map : Nat) (rem : Bool) : Bool :=
  !g.ink.poison.isEmpty && g.stationCells.any (fun hc => [hc.1, 32 + hc.1].any (fun l => bit map l && g.slotPresent l k hc.2 &&
    g.slotPoisoned l k hc.2 (slotPlace rem hc.2).1 (slotPlace rem hc.2).2))

/-- Choose every cell's rank key or remainder and report plane differences (R94). -/
def agreeCells (g : Gloesk) (k map w : Nat) (rem : Bool) : Gloesk × Tab Nat :=
  let g := g.iff (g.stagedPoison k map rem) (·.suspect)
  g.stationCells.foldl (fun (x : Gloesk × Tab Nat) hc =>
    let (v, differ) := cellCopy map w (fun l => g.slotRead rem l k hc.2) hc.1
    (x.1.iff differ (·.raise 29), match v with
      | some n => Tab.set 0 x.2 (hc.1 * 256 + hc.2) (n + 1)
      | none => x.2)) (g, [])

/-- The agreed value of an encoder (R95), position and fraction in 2^-15 counts: the leader's where it is valid, else the follower's. -/
def encAgree (g : Gloesk) (own peer : Int × Int × Bool) : Gloesk × Option (Int × Int) :=
  let val (e : Int × Int × Bool) : Int := e.1 * 2 ^ 15 + e.2.1
  let both := own.2.2 && peer.2.2
  let g := g.iff (both && decide (g.rd F.SVI_CTRL_ENC_TOL * 2 ^ 15 < (val own - val peer).natAbs)) (·.up F.SVI_STATUS_ENC_DIFF)
  let first := if g.leadsClaim then own else peer
  let second := if g.leadsClaim then peer else own
  (g, if first.2.2 then some (first.1, first.2.1) else if second.2.2 then some (second.1, second.2.1) else none)

/-- An encoder value that is not there. -/
def noEnc : Int × Int × Bool := (0, 0, false)

/-- What the key agreement of input set `k` gave. -/
def keySet (g : Gloesk) (k : Nat) : KeySet := (g.svi.keySets.find? (fun s => s.k = k)).getD ⟨k, 0, [], [none, none]⟩

/-- The agreed key word of a cell in input set `k`, plus 1; 0 where it has none. -/
def keyWord (g : Gloesk) (k x : Nat) : Nat := Tab.get 0 (g.keySet k).keys x

/-- The key agreement of stroke `k` (R93-R96). -/
def keyAgreement (g : Gloesk) (k : Nat) : Gloesk :=
  let g : Gloesk := { g with twin := { g.twin with noPeer := false, valm := false } }
  let own := (forStroke k g.svi.ownKey).getD (g.keySummary k)
  let peer := if g.expectPeer then forStroke k g.svi.peerKey else none
  let g : Gloesk := if peer.isSome then g else g.missPeer
  let p := peer.getD ⟨own.bitmap, [noEnc, noEnc]⟩
  let g := g.oneSided own.bitmap p.bitmap
  let map := own.bitmap &&& p.bitmap
  let (g, keys) := g.agreeCells k map 32 false
  let (g, e0) := g.encAgree (nth noEnc own.enc 0) (nth noEnc p.enc 0)
  let (g, e1) := g.encAgree (nth noEnc own.enc 1) (nth noEnc p.enc 1)
  g.onSvi (fun v => { v with keySets := keepLast 4 (v.keySets.filter (fun s => s.k ≠ k) ++ [⟨k, map, keys, [e0, e1]⟩]) })

/-- The cutoff of stroke `k`, in Baseline ns (R91). -/
def cutoffNs (g : Gloesk) (k : Nat) : Int := g.boundary k + g.rd F.STK_WOFS_W + g.rd F.SVI_CUTOFF_OFS

/-- The cutoff is reached (R91). -/
def svCutoff (g : Gloesk) (k : Nat) : Gloesk := g.onSvi (fun v => { v with cutoff := some (k, g.cutoffNs k) })

/-- An arrival lies at or before the cutoff of stroke `k`. -/
def eligible (g : Gloesk) (k arrival : Nat) : Bool :=
  decide ((arrival : Int) ≤ ((forStroke k g.svi.cutoff).getD (g.cutoffNs k)) * 2 ^ 32)

/-- The agreed sample of a stream. -/
def svAgreed (g : Gloesk) (n : Nat) : Option Sample := (g.svi.agreedSv.find? (fun e => e.1 = n)).map (·.2)

/-- The newest good eligible sample of a stream (R91, R93). -/
def svNewest (g : Gloesk) (k n : Nat) : Option Nat :=
  ((g.ring n).filter (fun s => s.good && g.eligible k s.arrival)).foldl
    (fun b s => some (max (b.getD 0) s.idx)) none

/-- The newest eligible GOOSE message of a subscription. -/
def gooseNewest (g : Gloesk) (k n : Nat) : Option HeldGoose :=
  (g.svi.heldGoose.filter (fun e => e.1 = n ∧ g.eligible k e.2.arrival)).foldl (fun b e => match b with
    | none => some e.2
    | some h => if gooseNewer e.2.msg.stNum e.2.msg.sqNum h.msg.stNum h.msg.sqNum then some e.2 else b) none

/-- GOOSE records of the SV summary: the subscriptions whose newest eligible message differs from the agreed one. -/
def gooseRecords (g : Gloesk) (k : Nat) : List (Nat × Nat × Nat) :=
  (List.range 128).filterMap (fun n => if g.on F.SVI_GS_CFG_EN n then
    match g.gooseNewest k n with
    | none => none
    | some h => match g.gooseAgreed n with
      | none => some (n, h.msg.stNum, h.msg.sqNum)
      | some a => if a.msg.stNum = h.msg.stNum ∧ a.msg.sqNum = h.msg.sqNum then none else some (n, h.msg.stNum, h.msg.sqNum)
    else none)

/-- SV records of the SV summary. -/
def svRecords (g : Gloesk) (k : Nat) : List (Nat × Nat) :=
  (List.range 256).filterMap (fun n => if g.on F.SVI_SUB_CFG_EN n then
    match g.svNewest k n with
    | none => none
    | some i => if (g.svAgreed n).map (·.idx) = some i then none else some (n, i)
    else none)

/-- The SV summary (R176): GOOSE records of 56 bits first, then SV records of 24 bits, within 4,096 bits and after the
16 bits of the counts. -/
def svSummary (g : Gloesk) (k : Nat) : SvSummary :=
  let gs := (g.gooseRecords k).take 72
  ⟨(g.svRecords k).take ((4080 - 56 * gs.length) / 24), gs⟩

/-- Holdings freeze and the SV summary is sent (R91, R92). -/
def svFreeze (g : Gloesk) (k : Nat) : Gloesk :=
  let s := g.svSummary k
  (g.onSvi (fun v => { v with frozen := some (k, s) })).ligature 0x27
    ([(s.sv.length, 9), (s.gs.length, 7)] ++ s.gs.flatMap (fun e => [(e.1, 7), (0, 1), (e.2.2, 16), (e.2.1, 32)])
      ++ s.sv.flatMap (fun e => [(e.1, 8), (e.2, 16)]))

/-- The partner's SV summary arrives. -/
def svsum (g : Gloesk) (k : Nat) (s : SvSummary) : Gloesk := g.onSvi (fun v => { v with peerSv := some (k, s) })

/-- This twin's input summary. -/
def inSummary (g : Gloesk) (k : Nat) : InSummary := ⟨g.sectionMap k 1, g.svi.valCrc⟩

/-- CRCs of a lane's sections, 0 where a section is not complete (R176). -/
def laneCrcs (g : Gloesk) (k l : Nat) : Nat × Nat :=
  let st := g.sectionState l k
  let rem := g.reportSet l k + 0x1420
  (if bit st 0 then g.peek (g.reportSet l k + 0x141C) 4 else 0, if bit st 1 && !(g.poisoned rem 4) then g.peek rem 4 else 0)

/-- The twin sends its input summary and its CRC summary (R92). -/
def insumSend (g : Gloesk) (k : Nat) : Gloesk :=
  let s := g.inSummary k
  let g := (g.onSvi (fun v => { v with ownIn := some (k, s) })).ligature 0x22 [(s.bitmap, 64), (s.valCrc, 32), (0, 32)]
  g.ligature 0x28 (g.lanes.flatMap (fun l => [((g.laneCrcs k l).1, 32), ((g.laneCrcs k l).2, 32)]))

/-- The partner's input summary arrives. -/
def insum (g : Gloesk) (k : Nat) (s : InSummary) : Gloesk := g.onSvi (fun v => { v with peerIn := some (k, s) })

/-- A section's CRCs differ between the twins (R93). -/
def sectMismatch (g : Gloesk) : Gloesk := ((g.inc F.SVI_AGREE0_SECT_MISM).up F.SVI_STATUS_SECT_MISMATCH).raise 28

/-- The CRCs of the lanes' remainders are compared with those of the partner's summary (R93). -/
def remCompare (g : Gloesk) (k : Nat) (crcs : List (Nat × Nat)) : Gloesk :=
  ((g.lanes.zip crcs).foldl (fun (g : Gloesk) e =>
    g.iff (bit g.svi.remMap e.1 && (g.laneCrcs k e.1).2 != e.2.2) (·.sectMismatch)) g).onSvi (fun v => { v with peerCrc := none })

/-- The partner's CRC summary arrives: the CRCs of agreed sections are compared, those of the remainders once the input set is
agreed (R93). `crcs` follows the populated lanes in increasing order. -/
def crcsum (g : Gloesk) (k : Nat) (crcs : List (Nat × Nat)) : Gloesk :=
  let g := (g.lanes.zip crcs).foldl (fun (g : Gloesk) e =>
    g.iff (bit (g.keySet k).map e.1 && (g.laneCrcs k e.1).1 != e.2.1) (·.sectMismatch)) g
  if g.svi.inputSet = k then g.remCompare k crcs else g.onSvi (fun v => { v with peerCrc := some (k, crcs) })

/-- A CRC summary that came before the agreement of input set `k` is compared now (R93, R402). -/
def crcHeld (g : Gloesk) (k : Nat) : Gloesk :=
  match forStroke k g.svi.peerCrc with
  | some crcs => g.remCompare k crcs
  | none => g

/-- The agreed index of a stream (R93): the smaller of the two newest; a side without a record holds the agreed one. -/
def agreeIdx (agreed own peer : Option Nat) : Option Nat :=
  match own.orElse (fun _ => agreed), peer with
  | none, _ => none
  | some o, none => (match agreed with
    | none => none
    | some a => some (min o a))
  | some o, some p => some (min o (extend16 o p))

/-- Agree every stream's newest sample. `peer = none`: own holdings (R96). -/
def agreeStreams (g : Gloesk) (own : SvSummary) (peer : Option SvSummary) : Gloesk :=
  (List.range 256).foldl (fun (g : Gloesk) n =>
    if !(g.on F.SVI_SUB_CFG_EN n) then g else
    let ag := (g.svAgreed n).map (·.idx)
    let o := (own.sv.find? (fun e => e.1 = n)).map (·.2)
    let idx : Option Nat := match peer with
      | none => o.orElse (fun _ => ag)
      | some p => agreeIdx ag o ((p.sv.find? (fun e => e.1 = n)).map (·.2))
    match idx with
    | none => g
    | some i => match (g.ring n).find? (fun s => s.idx = i) with
      | none => g
      | some s => g.onSvi (fun v => { v with agreedSv := v.agreedSv.filter (fun e => e.1 ≠ n) ++ [(n, s)] })) g

/-- The agreed message of a subscription: the older of the two newest (R93). -/
def agreeGooseId (agreed own : Option (Nat × Nat)) (peer : Option (Nat × Nat)) : Option (Nat × Nat) :=
  match own.orElse (fun _ => agreed) with
  | none => none
  | some (st, sq) => match peer with
    | none => (match agreed with
      | none => none
      | some (st', sq') => if gooseNewer st sq st' sq' then some (st', sq') else some (st, sq))
    | some (st', sq') =>
      let sq' := extend16 sq sq'
      if gooseNewer st sq st' sq' then some (st', sq') else some (st, sq)

/-- Agree every subscription's message. A valid message ends staleness (R83). -/
def agreeGoose (g : Gloesk) (own : SvSummary) (peer : Option SvSummary) : Gloesk :=
  (List.range 128).foldl (fun (g : Gloesk) n =>
    if !(g.on F.SVI_GS_CFG_EN n) then g else
    let ag := (g.gooseAgreed n).map (fun h => (h.msg.stNum, h.msg.sqNum))
    let o := (own.gs.find? (fun e => e.1 = n)).map (·.2)
    let id : Option (Nat × Nat) := match peer with
      | none => o.orElse (fun _ => ag)
      | some p => agreeGooseId ag o ((p.gs.find? (fun e => e.1 = n)).map (·.2))
    if id = ag then (if ag = none then g.wr F.SVI_GS_STAT_STATE 3 n else g) else
    match id with
    | none => g
    | some (st, sq) =>
      match g.svi.heldGoose.find? (fun e => e.1 = n ∧ e.2.msg.stNum = st ∧ e.2.msg.sqNum % 65536 = sq % 65536) with
      | none => g
      | some (_, h) =>
        let g := (g.wr F.SVI_GS_STAT_STATE 1 n).wr F.SVI_GS_STNUM_STNUM st n
        g.onSvi (fun v => { v with
          agreedGoose := v.agreedGoose.filter (fun e => e.1 ≠ n) ++ [(n, h)],
          heldGoose := v.heldGoose.filter (fun e => e.1 ≠ n ∨ !(gooseNewer st sq e.2.msg.stNum e.2.msg.sqNum)),
          gooseIn := Tab.set [] v.gooseIn n (h.msg.members.take (g.rd F.SVI_GS_CFG_NMEMB n)),
          gooseBad := without v.gooseBad n })) g

/-- n_exp of a stream in stroke `k` (R81). -/
def svExpected (g : Gloesk) (k n : Nat) : Int :=
  (g.boundary k - g.rd F.SVI_SUB_LAT_LAT_BUD n * 1000) * svRate (g.rd F.SVI_SUB_CFG_RATE n) / 1000000000

/-- The lag of a stream; none before its first agreed sample. -/
def svLag (g : Gloesk) (k n : Nat) : Option Int := (g.svAgreed n).map (fun s => g.svExpected k n - s.idx)

/-- Linear substitution of R81: 32-bit, saturating. -/
def svLinear (g : Gloesk) (n : Nat) (s : Sample) (lag : Int) : List Int :=
  match (g.ring n).find? (fun x => x.idx + 1 = s.idx ∧ x.good) with
  | none => s.vals.map (·.1)
  | some x => (s.vals.zip x.vals).map (fun e => satS 32 (e.1.1 + lag * (e.1.1 - e.2.1)))

/-- Values of a stream in a stroke without regard to its backup: state, values, lag (R81). A stream that is LOST stays so
while its lag is above 0. -/
def svOwnInput (g : Gloesk) (k n : Nat) : SvInput :=
  match g.svAgreed n, g.svLag k n with
  | some s, some lag =>
    let vals := s.vals.map (·.1)
    if lag ≤ 0 then ⟨1, vals, 0, s.questionable, s.test⟩
    else
      let l := satU 8 lag.toNat
      if lag ≤ g.rd F.SVI_SUB_CFG_HOLD_MAX n ∧ g.rd F.SVI_SUB_STAT_STATE n ≠ 3 then
        let m := g.rd F.SVI_SUB_CFG_SUBST n
        ⟨2, if m = 1 then g.svLinear n s lag else if m = 2 then vals.map (fun _ => 0) else vals, l, s.questionable, s.test⟩
      else ⟨3, vals.map (fun _ => 0), l, s.questionable, s.test⟩
  | _, _ => ⟨3, List.replicate (g.rd F.SVI_SUB_CFG_NCH n) 0, 255, false, false⟩

/-- The values given to stroke `k` of one stream, its status and counts (R81). A LOST stream whose backup is
GOOD is SUBSTITUTED though its lag is above 0, and its own substitution may then go on; with the backup's values the status word
keeps the stream's own lag, questionable and test flags (both DESIGN CHOICE, log entry 208). -/
def svSubstitute (g : Gloesk) (k n : Nat) : Gloesk :=
  if !(g.on F.SVI_SUB_CFG_EN n) then g.wr F.SVI_SUB_STAT_STATE 0 n
  else
    let x := g.svOwnInput k n
    let b := g.rd F.SVI_SUB_LAT_BACKUP n
    let y := g.svOwnInput k b
    let useB := x.state == 3 && g.on F.SVI_SUB_LAT_BACKUP_EN n && g.on F.SVI_SUB_CFG_EN b && y.state == 1
    let r : SvInput := if useB then { x with state := 2, vals := y.vals } else x
    let was := g.rd F.SVI_SUB_STAT_STATE n
    let g := g.wr F.SVI_SUB_STAT_STATE r.state n |>.wr F.SVI_SUB_STAT_LAG r.lag n
      |>.wr F.SVI_SUB_STAT_BACKUP_ACT (if useB then 1 else 0) n
    let g := match g.svAgreed n with
      | none => g
      | some s => g.wr F.SVI_SUB_NEWEST_IDX s.idx n
    let g := g.iff (r.lag != 0) (·.inc F.SVI_SUB_CNT_LATE n)
    let g := g.iff (r.state == 3 && was != 3)
      (fun g => ((g.inc F.SVI_SUB_CNT_LOSTEV n).up F.SVI_STATUS_STREAM_LOST).raise 24)
    g.onSvi (fun v => { v with inputs := v.inputs.filter (fun e => e.1 ≠ n) ++ [(n, r)] })

/-- SV_SUBSTITUTION of every stream; source 24 falls when no stream is LOST (R81). -/
def svInputs (g : Gloesk) (k : Nat) : Gloesk :=
  let g := g.each (List.range 256) (fun g n => g.svSubstitute k n)
  if g.svi.inputs.any (fun e => e.2.state = 3) then g else g.lower 24

/-- CRC-32C of the values applied in a stroke; the manual does not give their layout, so the result is an opaque function
of them (log entry 15). -/
def valuesCrc (g : Gloesk) : Nat :=
  Config.crypto 1 (g.svi.inputs.flatMap (fun e => e.1 :: e.2.state :: e.2.vals.map (ofS 32))
    ++ g.svi.gooseIn.flatMap (fun e => e.1 :: e.2.map GooseVal.code)) % 2 ^ 32

/-- The agreement of input set `k` (R93-R96): remainders, streams and subscriptions. What follows from it in the same
step is in the composition of INPUT_AGREEMENT. -/
def agreeInputs (g : Gloesk) (k : Nat) : Gloesk :=
  let ownIn := (forStroke k g.svi.ownIn).getD (g.inSummary k)
  let ownSv := (forStroke k g.svi.frozen).getD (g.svSummary k)
  let peerIn := if g.expectPeer && !g.twin.noPeer then forStroke k g.svi.peerIn else none
  let peerSv := if g.expectPeer && !g.twin.noPeer then forStroke k g.svi.peerSv else none
  let held := peerIn.isSome && peerSv.isSome
  let g : Gloesk := if held then g else g.missPeer
  let pIn := if held then peerIn.getD ownIn else ownIn
  let g := g.oneSided ownIn.bitmap pIn.bitmap
  let differ := pIn.valCrc != ownIn.valCrc
  let g := g.iff differ (fun g =>
    { ((g.inc F.SVI_AGREE1_VAL_MISM).up F.SVI_STATUS_VALUE_MISMATCH) with twin := { g.twin with valm := true } })
  let map := ownIn.bitmap &&& pIn.bitmap
  let (g, rems) := g.agreeCells k map 128 true
  let g := (g.onSvi (fun v => { v with remAgreed := rems, inputSet := k, remMap := map, encAgreed := (g.keySet k).enc })).crcHeld k
  let g := (g.agreeStreams ownSv (if held then peerSv else none)).agreeGoose ownSv (if held then peerSv else none)
  let g := g.svInputs k
  g.onSvi (fun v => { v with valCrc := g.valuesCrc })

/-- A write of SVI_CTRL.MODE, applied only while every arm is blocked (R97). -/
def sviModeWrite (g : Gloesk) (mode : Nat) (allBlocked : Bool) : Gloesk :=
  if mode = g.rd F.SVI_CTRL_MODE then g
  else if !allBlocked then g.up F.SVI_STATUS_MODE_REJ
  else
    let g := (g.wr F.SVI_CTRL_MODE mode).wr F.SVI_STATUS_MODE_ACT (if mode = 3 then 0 else mode)
    g.onSvi (fun v => { v with simSeen := [], simGoose := [] })

end Gloesk

end Sys2Proof.Machine
end

