-- ==== Sys2Proof/Machine/Flourish.lean ====
section
/-!
DEFINITION. Flourish tables and trace taps (R125-R141).
-/

namespace Sys2Proof.Machine

/-- Rounding to nearest, ties away from 0 (R133). -/
def roundAway (num den : Int) : Int :=
  if den ≤ 0 then 0
  else if 0 ≤ num then (2 * num + den) / (2 * den) else -((2 * -num + den) / (2 * den))

/-- Saturate and say whether that changed the value. -/
def sat (w : Nat) (x : Int) : Int × Bool := (satS w x, overS w x)

namespace Gloesk

/-- Change the Flourish state. -/
def onFlr (g : Gloesk) (f : FlourishState → FlourishState) : Gloesk := { g with flr := f g.flr }

/-- Number of points of a table, at least 1. -/
def flrN (g : Gloesk) (t : Nat) : Nat := atLeast1 (g.rd F.FLR_T_CFG_N t)

/-- Address of a point (R126, R317). -/
def pointAddr (g : Gloesk) (t j : Nat) : Nat := g.partBase 4 + g.rd F.FLR_T_BASE_OFS t + 4 * j

/-- A point's value; a point that is not written reads as 0 (R127). -/
def point (g : Gloesk) (t j : Nat) : Int :=
  if bit (Tab.get 0 g.flr.written t) j then toS 32 (g.peek (g.pointAddr t j) 4) else 0

/-- What FRD and FRDI read of a point: 0 while frozen with FRZ_OUT = 1 (R134). -/
def pointOut (g : Gloesk) (t j : Nat) : Int :=
  if g.on F.FLR_T_STAT_FROZEN t && g.on F.FLR_T_CFG_FRZ_OUT t then 0 else g.point t j

/-- Points a and a' of a window (R129). -/
def readPoint (g : Gloesk) (k t : Nat) : Nat :=
  let n := g.flrN t
  let i := Tab.get 0 g.flr.idx t
  let lead := g.rd F.FLR_T_LEAD_LEAD t
  if 0 ≤ (g.recordOf k).vel then (i + lead) % n else (i + n - lead % n) % n

def readNext (g : Gloesk) (k t : Nat) : Nat :=
  let n := g.flrN t
  if 0 ≤ (g.recordOf k).vel then (g.readPoint k t + 1) % n else (g.readPoint k t + n - 1) % n

/-- FRD before saturation to its width. -/
def frd (g : Gloesk) (k t : Nat) : Int := if g.on F.FLR_T_CFG_EN t then g.pointOut t (g.readPoint k t) else 0

/-- FRDI before saturation to its width. -/
def frdi (g : Gloesk) (k t : Nat) : Int :=
  if g.on F.FLR_T_CFG_EN t then
    let p := g.pointOut t (g.readPoint k t)
    let q := g.pointOut t (g.readNext k t)
    p + roundAway ((q - p) * Tab.get 0 g.flr.phi t) 65536
  else 0

/-- The status word of a table (R130). -/
def fst (g : Gloesk) (t : Nat) : Nat :=
  g.rd F.FLR_T_STAT_FROZEN t + 2 * g.rd F.FLR_T_STAT_WIN_OUT t + 4 * g.rd F.FLR_T_CFG_HOLD t
    + (if has g.flr.lastSat t then 8 else 0) + (if has g.flr.lastSkip t then 16 else 0)
    + Tab.get 0 g.flr.idx t % 4096 * 65536

/-- i(k) and phi(k) of a table (R128). -/
def flrIndex (g : Gloesk) (k t : Nat) : Nat × Nat :=
  let src := g.rd F.FLR_T_CFG_SRC t
  if src = 0 then
    let x := (g.recordOf k).theta / 2 ^ 32 % 2 ^ 32 * g.flrN t
    (x / 2 ^ 32, x / 2 ^ 16 % 2 ^ 16)
  else (nth 0 (g.latchOf k).idx (src - 1), 0)

/-- The velocity of stroke `k` lies outside a table's window (R134). -/
def flrOutside (g : Gloesk) (k t : Nat) : Bool :=
  let v := (g.recordOf k).vel
  decide (v < g.rdS F.FLR_T_FMIN_V t) || decide (g.rdS F.FLR_T_FMAX_V t < v)

/-- Show a table's frozen state. -/
def setFrozen (g : Gloesk) (t : Nat) (x : Bool) : Gloesk :=
  let g := g.wr F.FLR_T_STAT_FROZEN (if x then 1 else 0) t
  let g := if t < 32 then g.wrBit F.FLR_FROZEN0_FRZ t x else g.wrBit F.FLR_FROZEN1_FRZ (t - 32) x
  g.wr F.FLR_STATUS_FRZ_ANY (if g.rd F.FLR_FROZEN0_FRZ + g.rd F.FLR_FROZEN1_FRZ = 0 then 0 else 1)

/-- FLOURISH_FREEZE of window `k` (R134). -/
def flrFreeze (g : Gloesk) (k t : Nat) : Gloesk :=
  let out := g.flrOutside k t
  let was := g.on F.FLR_T_STAT_FROZEN t
  let fresh := has g.flr.fresh t
  let good := Tab.get 0 g.flr.good t
  let frozen := out || fresh || (was && decide (good < 2 ^ min 20 (g.rd F.FLR_T_LEAD_REARM t)))
  let g := (g.wr F.FLR_T_STAT_WIN_OUT (if out then 1 else 0) t).setFrozen t frozen
  let g := g.iff (frozen && (!was || fresh)) (·.inc F.FLR_T_CNT1_FRZCNT t)
  g.onFlr (fun s => { s with
    fresh := without s.fresh t,
    good := Tab.set 0 s.good t (if out || fresh then 0 else good + 1),
    prevIdx := if frozen then Tab.set 0 s.prevIdx t 0 else s.prevIdx,
    sum := if frozen then Tab.set 0 s.sum t 0 else s.sum,
    count := if frozen then Tab.set 0 s.count t 0 else s.count })

/-- Commit one point (R133). -/
def commitPoint (g : Gloesk) (t j : Nat) (e : Int) : Gloesk :=
  let x := roundAway (g.rd F.FLR_T_FORGET_F t * g.point t j) 65536 + roundAway (g.rd F.FLR_T_GAIN_G t * e) 65536
  let first := !(g.on F.FLR_T_STAT_SAT t)
  let g := g.iff (overS 32 x) (fun g =>
    (((g.inc F.FLR_T_CNT0_SATCNT t).up F.FLR_T_STAT_SAT t).up F.FLR_STATUS_SAT_ANY).iff first (·.raise 35))
  let g := g.poke (g.pointAddr t j) 4 (ofS 32 (satS 32 x))
  g.onFlr (fun s => { s with
    written := Tab.set 0 s.written t (setBit (Tab.get 0 s.written t) j true),
    lastSat := if overS 32 x then t :: without s.lastSat t else s.lastSat })

/-- FLOURISH_COMMIT of the accumulator of input set k - 1 (R133). -/
def flrCommit (g : Gloesk) (t i : Nat) : Gloesk :=
  let prev := Tab.get 0 g.flr.prevIdx t
  if g.on F.FLR_T_STAT_FROZEN t || prev == 0 || prev == i + 1 then g else
  let n := g.flrN t
  let back := g.flr.prevBack
  let p := if back then (prev - 1 + n - i % n) % n else (i + n - (prev - 1) % n) % n
  let sum := Tab.get 0 g.flr.sum t
  let count := Tab.get 0 g.flr.count t
  let g := g.onFlr (fun s => { s with sum := Tab.set 0 s.sum t 0, count := Tab.set 0 s.count t 0 })
  if count = 0 ∨ g.on F.FLR_T_CFG_HOLD t then g
  else if p ≤ 8 then
    let e := satS 32 (roundAway sum count)
    let g := g.onFlr (fun s => { s with lastSat := without s.lastSat t, lastSkip := without s.lastSkip t })
    let g := g.each (List.range p) (fun g q =>
      g.commitPoint t (if back then (prev - 1 + n - q) % n else (prev - 1 + q) % n) e)
    g.inc F.FLR_T_CNT1_COMMITS t
  else
    let g := g.onFlr (fun s => { s with lastSat := without s.lastSat t, lastSkip := t :: without s.lastSkip t })
    (g.up F.FLR_T_STAT_SKIP t).inc F.FLR_T_CNT0_SKIPCNT t

/-- Clock 0 of window `k` for one table (R128, R131, R133, R134). -/
def flrTableOpen (g : Gloesk) (k t : Nat) : Gloesk :=
  if !(g.on F.FLR_T_CFG_EN t) then
    (if g.on F.FLR_T_STAT_FROZEN t then g.setFrozen t false else g)
  else
    let x := g.flrIndex k t
    let g := (g.flrFreeze k t).flrCommit t x.1
    let g := g.wr F.FLR_T_STAT_IDX x.1 t
    g.onFlr (fun s => { s with
      idx := Tab.set 0 s.idx t x.1, phi := Tab.set 0 s.phi t x.2,
      prevIdx := Tab.set 0 s.prevIdx t (if g.on F.FLR_T_STAT_FROZEN t then 0 else x.1 + 1) })

/-- Clock 0 of window `k` for every table. -/
def flrOpen (g : Gloesk) (k : Nat) : Gloesk :=
  let g := g.each (List.range 64) (fun g t => g.flrTableOpen k t)
  g.onFlr (fun s => { s with prevBack := decide ((g.recordOf k).vel < 0) })

/-- An uncorrectable error in a point fetched or committed (R136, R334): of an enabled table alone. -/
def flrPointError (g : Gloesk) (t j : Nat) : Gloesk :=
  if !(g.on F.FLR_T_CFG_EN t) || decide (g.flrN t ≤ j) then g else
  let g := g.onFlr (fun s => { s with written := Tab.set 0 s.written t (setBit (Tab.get 0 s.written t) j false) })
  (((g.up F.FLR_T_STAT_ECC_UE t).up F.FLR_STATUS_ECC_UE).raise 36).suspect

/-- The ECC's findings in the points that window `k` commits and fetches: `ce` corrected errors and the points with an
uncorrectable one, which commit from 0 and read as 0 (R136). -/
def flrErrors (g : Gloesk) (ce : Nat) (pts : List (Nat × Nat)) : Gloesk :=
  pts.foldl (fun (g : Gloesk) p => g.flrPointError p.1 p.2) (g.inc F.FLR_ERRCNT_ECC_CE 0 ce)

/-- FLOURISH_ACCUMULATE: a valid input is added to its table's sum and count (R132); a frozen table discards it. -/
def flrAccumulate (g : Gloesk) (t : Nat) (v : Int) : Gloesk :=
  if !(g.on F.FLR_T_CFG_EN t) || g.on F.FLR_T_STAT_FROZEN t then g
  else g.onFlr (fun s => { s with
    sum := Tab.set 0 s.sum t (satS 48 (Tab.get 0 s.sum t + v)), count := Tab.set 0 s.count t (Tab.get 0 s.count t + 1) })

/-- A table becomes enabled (R127, R134). -/
def flrEnable (g : Gloesk) (t : Nat) : Gloesk :=
  g.onFlr (fun s => { s with
    written := Tab.set 0 s.written t (if g.on F.FLR_T_CFG_KEEP t then 2 ^ g.flrN t - 1 else 0),
    sum := Tab.set 0 s.sum t 0, count := Tab.set 0 s.count t 0, fresh := t :: without s.fresh t })

/-- At the start of the stroke cycle every enabled table freezes anew (R136). -/
def flrCycleStart (g : Gloesk) : Gloesk :=
  g.each (below 64 (fun t => g.on F.FLR_T_CFG_EN t)) (fun g t => (g.setFrozen t false).flrEnable t)

/-- A clear of a table (R135). -/
def flrClear (g : Gloesk) (t : Nat) : Gloesk :=
  g.onFlr (fun s => { s with
    written := Tab.set 0 s.written t 0, sum := Tab.set 0 s.sum t 0, count := Tab.set 0 s.count t 0,
    fresh := t :: without s.fresh t })

/-- The registers of a table entry, by word (R141). -/
def flrWord (a : Nat) : Nat × Nat := ((a - R.FLR_T_CFG.addr) / 0x40, (a - R.FLR_T_CFG.addr) % 0x40)

/-- A staged write of step `step` (1, 2, 3) of R135 takes effect. `free t`: table `t` was disabled, frozen or held in the
window before. A FORGET or LEAD beyond its limit (R125) leaves the value as it is (DEDUCED, log entry 210). -/
def flrApplyStep (g : Gloesk) (step : Nat) (free : Nat → Bool) (a v : Nat) : Gloesk :=
  let t := (flrWord a).1
  let w := (flrWord a).2
  let guarded (f : Gloesk → Gloesk) : Gloesk :=
    if free t then f g else ((g.inc F.FLR_ERRCNT_CREJ).up F.FLR_STATUS_CREJ).raise 33
  if step = 1 then
    if w = 0x10 then g.wr F.FLR_T_FMIN_V v t
    else if w = 0x14 then g.wr F.FLR_T_FMAX_V v t
    else if w = 0x0C then g.wr F.FLR_T_LEAD_REARM (bits v 16 5) t
    else if w = 0 then (g.wr F.FLR_T_CFG_HOLD (bits v 8 1) t).wr F.FLR_T_CFG_FRZ_OUT (bits v 9 1) t
    else g
  else if step = 2 then
    if w = 0x04 then guarded (fun g => g.wr F.FLR_T_GAIN_G v t)
    else if w = 0x08 then guarded (fun g => if v % 2 ^ 17 ≤ 65536 then g.wr F.FLR_T_FORGET_F v t else g)
    else if w = 0x0C ∧ bits v 0 12 ≠ g.rd F.FLR_T_LEAD_LEAD t then
      guarded (fun g => if bits v 0 12 < g.flrN t then g.wr F.FLR_T_LEAD_LEAD v t else g)
    else g
  else if w = 0 ∧ bit v 10 then g.flrClear t else g

/-- Whether an address belongs to the Flourish table registers. -/
def isFlr (a : Nat) : Bool := decide (R.FLR_T_CFG.addr ≤ a) && decide (a < R.FLR_T_CFG.addr + 0x40 * 64)

/-- Apply the Flourish writes of a record in the order of R135; while the stroke cycle is stopped no table learns. -/
def flrApply (g : Gloesk) (running : Bool) (ws : List (Nat × Nat)) : Gloesk :=
  let mine := ws.filter (fun w => isFlr w.1)
  let free (t : Nat) : Bool := !running || !(g.on F.FLR_T_CFG_EN t) || g.on F.FLR_T_STAT_FROZEN t || g.on F.FLR_T_CFG_HOLD t
  let g := mine.foldl (fun (g : Gloesk) w => g.flrApplyStep 1 free w.1 w.2) g
  let g := mine.foldl (fun (g : Gloesk) w => g.flrApplyStep 2 free w.1 w.2) g
  mine.foldl (fun (g : Gloesk) w => g.flrApplyStep 3 free w.1 w.2) g

/-! ### Trace taps (R137-R140) -/

/-- Entries of a tap's ring (R141). -/
def tapEntries (g : Gloesk) (t : Nat) : Nat := 2 ^ (8 + min 8 (g.rd F.FLR_TAP_SIZE_LOG t))

/-- Bytes of a tap's ring lie aligned inside the trace partition (R138). -/
def tapPlaced (g : Gloesk) (t : Nat) : Bool :=
  let size := 8 * g.tapEntries t
  g.rd F.FLR_TAP_BASE_OFS t % size == 0 && decide (g.rd F.FLR_TAP_BASE_OFS t + size ≤ g.partSize 9)

/-- A captured entry is written to its ring (R138, R139). Only MODE 2 counts down after a trigger. -/
def tapWrite (g : Gloesk) (e : TraceEntry) : Gloesk :=
  let t := e.tap
  let ptr := g.rd F.FLR_TAP_WPTR_PTR t
  let word := if has g.flr.gap t then setBit e.word 60 true else e.word
  let g := g.store (g.partBase 9 + g.rd F.FLR_TAP_BASE_OFS t + 8 * ptr) 8 word
  let g := g.onFlr (fun s => { s with gap := without s.gap t })
  let full := decide (g.tapEntries t ≤ ptr + 1)
  let g := g.wr F.FLR_TAP_WPTR_PTR (if full then 0 else ptr + 1) t
  let stops := g.rd F.FLR_TAP_CFG_MODE t == 1
  let g := g.iff (full && !stops) (fun g => g.wr F.FLR_TAP_WPTR_WRAPS (g.rd F.FLR_TAP_WPTR_WRAPS t + 1) t)
  if full && stops then (g.up F.FLR_TAP_STAT_FULL t).down F.FLR_TAP_STAT_RUN t
  else
    let left := Tab.get 0 g.flr.post t
    if left ≤ 1 ∨ g.rd F.FLR_TAP_CFG_MODE t ≠ 2 then g
    else
      let g := g.onFlr (fun s => { s with post := Tab.set 0 s.post t (left - 1) })
      if left ≤ 2 then g.down F.FLR_TAP_STAT_RUN t else g

/-- An entry is not written in time, or shed: it is dropped (R139). -/
def tapDrop (g : Gloesk) (t : Nat) : Gloesk :=
  if g.flr.pending.any (fun e => e.tap = t) then
    (g.onFlr (fun s => { s with pending := s.pending.filter (fun e => e.tap ≠ t), gap := t :: without s.gap t })).inc
      F.FLR_TAP_STAT_LOST t
  else g

/-- The entries captured before by the taps `of` are written (R131, R139), or shed at shed level 2 and above (R460). -/
def tapFlushOf (g : Gloesk) (of : Nat → Bool) : Gloesk :=
  let es := g.flr.pending.filter (fun e => of e.tap)
  if 2 ≤ g.rd F.PWR_STATUS_LEVEL then es.foldl (fun (g : Gloesk) e => g.tapDrop e.tap) g
  else es.foldl (fun (g : Gloesk) e => g.tapWrite e)
    (g.onFlr (fun s => { s with pending := s.pending.filter (fun e => !(of e.tap)) }))

/-- The entries captured before are written or shed. -/
def tapFlush (g : Gloesk) : Gloesk := g.tapFlushOf (fun _ => true)

/-- TAP_CAPTURE: a tap whose source word executed captures an entry (R137, R138). `flags` are bits [59:56]. -/
def tapCapture (g : Gloesk) (t k value flags : Nat) : Gloesk :=
  if !(g.on F.FLR_TAP_STAT_RUN t) then g else
  let n := Tab.get 0 g.flr.execs t
  let g := g.onFlr (fun s => { s with execs := Tab.set 0 s.execs t (n + 1) })
  if n % 2 ^ min 10 (g.rd F.FLR_TAP_CFG_DEC t) ≠ 0 then g
  else g.onFlr (fun s => { s with pending := s.pending ++
    [⟨t, value % 2 ^ 32 + k % 2 ^ 24 * 2 ^ 32 + flags % 16 * 2 ^ 56⟩] })

/-- A trigger of a tap in MODE 2 (R139). -/
def tapTrigger (g : Gloesk) (t : Nat) : Gloesk :=
  if g.rd F.FLR_TAP_CFG_MODE t = 2 ∧ g.on F.FLR_TAP_STAT_RUN t ∧ Tab.get 0 g.flr.post t = 0 then
    let p := g.rd F.FLR_TAP_POST_POST t
    let g := (g.up F.FLR_TAP_STAT_TRIGD t).onFlr (fun s => { s with post := Tab.set 0 s.post t (p + 1) })
    if p = 0 then g.down F.FLR_TAP_STAT_RUN t else g
  else g

/-- A trip of the Blotter triggers the taps when TRIG_BLT = 1 (R139). -/
def tapBlotterTrip (g : Gloesk) : Gloesk :=
  if g.on F.FLR_CTRL_TRIG_BLT then g.each (List.range 64) (fun g t => g.tapTrigger t) else g

/-- A word of the running bank. -/
def loopWordAt (g : Gloesk) (i : Nat) : Nat :=
  (Tab.get 0 g.lpe.prog (g.rd F.LPE_CTRL_BANK * 8192 + i % 8192)).toNat

/-- The words of a slot's program, in order; none of an IDLE slot (R110). -/
def slotWords (g : Gloesk) (s : Nat) : List Nat :=
  (List.range (g.rd F.LPE_SLOT_CFG0_LEN s)).map (fun i => g.loopWordAt (g.rd F.LPE_SLOT_CFG0_START s + i))

/-- The words of the program, slot by slot. -/
def programWords (g : Gloesk) : List Nat := (List.range 64).flatMap g.slotWords

/-- Some word of the program is a TRC that names the tap. -/
def trcNames (g : Gloesk) (t : Nat) : Bool := g.programWords.any (fun w => bits w 58 6 == 0x38 && bits w 0 6 == t)

/-- A tap's configuration is bad (R140): any of its four cases, whatever SRC is. -/
def tapBad (g : Gloesk) (t : Nat) : Bool :=
  let len := g.rd F.LPE_SLOT_CFG0_LEN (g.rd F.FLR_TAP_CFG_SLOT t)
  !(g.tapPlaced t) || len == 0 || decide (len ≤ g.rd F.FLR_TAP_CFG_WORD t) || (g.on F.FLR_TAP_CFG_SRC t && !(g.trcNames t))

/-- A tap that is enabled runs from the next window, unless its configuration is bad (R139, R140). -/
def tapLaunch (g : Gloesk) (t : Nat) : Gloesk :=
  if g.tapBad t then g.up F.FLR_TAP_STAT_BADCFG t
  else g.onFlr (fun s => { s with
    execs := Tab.set 0 s.execs t 0, starting := t :: without s.starting t, stopping := without s.stopping t })

/-- START of a tap (R139): what it captured before is written, and the ring starts anew. A gap flag that waits for the next
entry written stays. -/
def tapStart (g : Gloesk) (t : Nat) : Gloesk :=
  let g := g.tapFlushOf (fun x => x == t)
  let g := ((g.wr F.FLR_TAP_WPTR_PTR 0 t).wr F.FLR_TAP_WPTR_WRAPS 0 t).down F.FLR_TAP_STAT_RUN t
  let g := g.onFlr (fun s => { s with post := Tab.set 0 s.post t 0 })
  g.iff (g.on F.FLR_TAP_CFG_EN t) (·.tapLaunch t)

/-- A write of FLR_TAPt_CFG (R140). -/
def tapCfgWrite (g : Gloesk) (t v : Nat) : Gloesk :=
  let old := g.reg R.FLR_TAP_CFG t
  if g.on F.FLR_TAP_CFG_EN t then
    let g := g.iff (bits old 1 25 != bits v 1 25) (·.inc F.FLR_ERRCNT_WREJ)
    if bit v 0 then g
    else
      let g := (g.down F.FLR_TAP_CFG_EN t).onFlr (fun s => { s with starting := without s.starting t })
      if g.lpe.window.isSome then g.onFlr (fun s => { s with stopping := t :: without s.stopping t })
      else g.down F.FLR_TAP_STAT_RUN t
  else
    let g := g.setReg R.FLR_TAP_CFG (v % 2 ^ 26) t
    if bit v 0 then g.tapLaunch t else g

/-- A write of a tap's BASE, SIZE or POST (R140). -/
def tapFieldWrite (g : Gloesk) (f : Fld) (t v : Nat) : Gloesk :=
  if g.on F.FLR_TAP_CFG_EN t then g.inc F.FLR_ERRCNT_WREJ else g.wr f (bits v f.lo f.wid) t

/-- At the next window the taps that were started run. -/
def tapWindowOpen (g : Gloesk) : Gloesk :=
  (g.each g.flr.starting (fun g t => g.up F.FLR_TAP_STAT_RUN t)).onFlr (fun s => { s with starting := [] })

/-- At the end of a window the taps that were disabled stop. -/
def tapWindowEnd (g : Gloesk) : Gloesk :=
  (g.each g.flr.stopping (fun g t => g.down F.FLR_TAP_STAT_RUN t)).onFlr (fun s => { s with stopping := [] })

end Gloesk

end Sys2Proof.Machine
end

