-- ==== Sys2Proof/Machine/Aq.lean ====
section
/-!
DEFINITION. The AQ14 converter of an Ihloon and of the Gloesk: conversion slots, the sequence table, urgent requests,
calibration and the reference cross-check (R218-R233, R238). One text serves both parts: `AqMap` names the fields of the
part's AQ block.
-/

namespace Sys2Proof.Machine

/-- The fields of an AQ block. -/
structure AqMap where
  en : Fld
  run : Fld
  sliceOut : Fld
  drift : Fld
  hard : Fld
  nospare : Fld
  single : Fld
  qsettle : Fld
  tc : Fld
  last : Fld
  loop : Fld
  udrop : Fld
  cut : Fld
  noidle : Fld
  clrrej : Fld
  urgcnt : Fld
  xdrift : Fld
  lim : Fld
  hardLim : Fld
  sel : Fld
  xoff : Fld
  retired : Fld
  rot : Fld
  seq : Fld
  value : Fld
  valid : Fld
  sat : Fld
  slot : Fld
  stk : Fld
  uvalue : Fld
  uvalid : Fld
  usat : Fld
  usrc : Fld
  uslot : Fld
  ustk : Fld

/-- The Ihloon's AQ block (R239). -/
def AqMap.cell : AqMap :=
  { en := F.CAQ_CTRL_EN, run := F.CAQ_STAT_RUN, sliceOut := F.CAQ_STAT_SLICE_OUT, drift := F.CAQ_STAT_DRIFT,
    hard := F.CAQ_STAT_HARD, nospare := F.CAQ_STAT_NOSPARE, single := F.CAQ_STAT_SINGLE, qsettle := F.CAQ_CFG_QSETTLE,
    tc := F.CAQ_CFG_TC, last := F.CAQ_SEQCTL_LAST, loop := F.CAQ_SEQCTL_LOOP, udrop := F.CAQ_CNT_UDROP,
    cut := F.CAQ_CNT_CUT, noidle := F.CAQ_CNT1_NOIDLE, clrrej := F.CAQ_CNT1_CLRREJ, urgcnt := F.CAQ_CNT1_URGCNT,
    xdrift := F.CAQ_XCHK_DRIFT, lim := F.CAQ_XLIM_LIM, hardLim := F.CAQ_XLIM_HARD, sel := F.CAQ_REFCTL_SEL,
    xoff := F.CAQ_REFCTL_XOFF, retired := F.CAQ_CAL_RETIRED, rot := F.CAQ_CAL_ROT, seq := F.CAQ_SEQ_ENTRY,
    value := F.CAQ_RES_VALUE, valid := F.CAQ_RES_VALID, sat := F.CAQ_RES_SAT, slot := F.CAQ_RES_SLOT,
    stk := F.CAQ_RES_STK, uvalue := F.CAQ_URES0_VALUE, uvalid := F.CAQ_URES0_VALID, usat := F.CAQ_URES0_SAT,
    usrc := F.CAQ_URES0_SRC, uslot := F.CAQ_URES0_SLOT, ustk := F.CAQ_URES1_STK }

/-- The Gloesk's AQ block (R240). -/
def AqMap.gloesk : AqMap :=
  { en := F.AQ_CTRL_EN, run := F.AQ_STAT_RUN, sliceOut := F.AQ_STAT_SLICE_OUT, drift := F.AQ_STAT_DRIFT,
    hard := F.AQ_STAT_HARD, nospare := F.AQ_STAT_NOSPARE, single := F.AQ_STAT_SINGLE, qsettle := F.AQ_CFG_QSETTLE,
    tc := F.AQ_CFG_TC, last := F.AQ_SEQCTL_LAST, loop := F.AQ_SEQCTL_LOOP, udrop := F.AQ_CNT_UDROP,
    cut := F.AQ_CNT_CUT, noidle := F.AQ_CNT1_NOIDLE, clrrej := F.AQ_CNT1_CLRREJ, urgcnt := F.AQ_CNT1_URGCNT,
    xdrift := F.AQ_XCHK_DRIFT, lim := F.AQ_XLIM_LIM, hardLim := F.AQ_XLIM_HARD, sel := F.AQ_REFCTL_SEL,
    xoff := F.AQ_REFCTL_XOFF, retired := F.AQ_CAL_RETIRED, rot := F.AQ_CAL_ROT, seq := F.AQ_SEQ_ENTRY,
    value := F.AQ_RES_VALUE, valid := F.AQ_RES_VALID, sat := F.AQ_RES_SAT, slot := F.AQ_RES_SLOT,
    stk := F.AQ_RES_STK, uvalue := F.AQ_URES0_VALUE, uvalid := F.AQ_URES0_VALID, usat := F.AQ_URES0_SAT,
    usrc := F.AQ_URES0_SRC, uslot := F.AQ_URES0_SLOT, ustk := F.AQ_URES1_STK }

/-- An acquisition block: the part's registers and the block's hidden state. -/
structure AqPart where
  regs : RegFile
  aq : AqState
  deriving DecidableEq, Repr

namespace AqPart

def rd (p : AqPart) (f : Fld) (i : Nat := 0) : Nat := p.regs.fld f i
def on (p : AqPart) (f : Fld) (i : Nat := 0) : Bool := p.rd f i != 0
def wr (p : AqPart) (f : Fld) (v : Nat) (i : Nat := 0) : AqPart := { p with regs := p.regs.setFld f v i }
def inc (p : AqPart) (f : Fld) (i : Nat := 0) : AqPart := { p with regs := p.regs.addSat f 1 i }
def onAq (p : AqPart) (f : AqState → AqState) : AqPart := { p with aq := f p.aq }

variable (m : AqMap)

/-- Entry `e` of the sequence table: REP, AVG, QUAL, DELAY (R221). -/
def rep (p : AqPart) (e : Nat) : Nat := bits (p.rd m.seq e) 5 4
def avg (p : AqPart) (e : Nat) : Bool := bit (p.rd m.seq e) 9
def qual (p : AqPart) (e : Nat) : Nat := bits (p.rd m.seq e) 10 3
def delay (p : AqPart) (e : Nat) : Nat := bits (p.rd m.seq e) 16 12

/-- Start entry `e` (R222). -/
def begin (p : AqPart) (e wait : Nat) : AqPart :=
  p.onAq (fun a => { a with entry := some e, wait := wait, made := 0, good := 0, sum := 0, sat := false })

/-- The result of the running entry goes on its way, if one of its conversions was valid (R223). -/
def result (p : AqPart) (e stroke : Nat) : AqPart :=
  let a := p.aq
  if a.good = 0 then p
  else
    let v := if p.avg m e then ofS 14 (roundAway a.sum a.good) else a.last
    p.onAq (fun a => { a with coming := a.coming ++ [⟨e, v, a.sat, a.lastSlot, stroke⟩] })

/-- The entry after `e`: LOOP after LAST; with LAST = 0 the rest of the stroke is idle (R222). -/
def advance (p : AqPart) (e : Nat) : AqPart :=
  let l := p.rd m.last
  if l = 0 then p.onAq (fun a => { a with entry := none })
  else if e = l then p.begin (p.rd m.loop) (p.delay m (p.rd m.loop))
  else p.begin ((e + 1) % 32) (p.delay m ((e + 1) % 32))

/-- Input of entry `e` (R221). -/
def input (p : AqPart) (e : Nat) : Nat := bits (p.rd m.seq e) 0 5

/-- The code of an input and whether it lies beyond full scale (R219). `ins` are the inputs in LSB at the sample instant: the pins
from 0, the die temperature 16, VKEEP / 4 17, the check reference 18. -/
def codeOf (ins : List Int) (n : Nat) : Nat × Bool :=
  let v := nth 0 ins n
  (ofS 14 (max (-8192) (min 8191 v)), decide (v < -8192 ∨ 8191 < v))

/-- One conversion of the running entry `e` in slot `j`; `high n` says whether NIBn has been high for QSETTLE (R221, R222). -/
def convert (p : AqPart) (e stroke j : Nat) (ins : List Int) (high : Nat → Bool) : AqPart :=
  let (code, sat) := codeOf ins (p.input m e)
  let q := p.qual m e
  let ok := q == 0 || high (q - 1)
  let p := p.onAq (fun a => { a with
    made := a.made + 1, lastSlot := j,
    good := if ok then a.good + 1 else a.good,
    sum := if ok then a.sum + toS 14 code else a.sum,
    last := if ok then code else a.last,
    sat := if !ok then a.sat else if p.avg m e then a.sat || sat else sat })
  if p.rep m e < p.aq.made then (p.result m e stroke).advance m e else p

/-- The urgent conversion of slot `j` (R227). -/
def serve (p : AqPart) (src input stroke j : Nat) (ins : List Int) : AqPart :=
  let (code, sat) := codeOf ins input
  (p.onAq (fun a => { a with urgent := none, urgComing := a.urgComing ++ [⟨src, code, sat, j, stroke⟩] })).inc m.urgcnt

/-- DRIFT_ACTION (R232). -/
def driftAction (p : AqPart) (d : Int) : AqPart :=
  if p.on m.xoff then p
  else
    let p := if p.rd m.lim < d.natAbs then p.wr m.drift 1 else p
    if p.rd m.hardLim < d.natAbs then p.wr m.hard 1 else p

/-- CROSS_CHECK: the check reference gave `code` (R231). -/
def crossCheck (p : AqPart) (code : Nat) : AqPart :=
  let y := p.aq.filt + (toS 14 code * 65536 - p.aq.filt) / 2 ^ p.rd m.tc
  let d := roundAway (1000000 * (y - 6400 * 65536)) (6400 * 65536)
  let p := (p.onAq (fun a => { a with filt := y, checks := a.checks + 1, checked := true })).wr m.xdrift (ofS 24 (satS 24 d))
  if 2 ^ p.rd m.tc ≤ p.aq.checks then p.driftAction m d else p

/-- At a stroke boundary the running entry ends: cut with its result after its first conversion, without a count in its
delay (R222). -/
def cutEntry (p : AqPart) (stroke : Nat) : AqPart :=
  match p.aq.entry with
  | some e => if 0 < p.aq.made then (p.inc m.cut).result m e stroke else p
  | none => p

/-- The slots of one stroke (R218). -/
def slots (T : Nat) : Nat := T / 5

/-- Whether this stroke takes a check conversion: not on the check reference, not paused (R230, R245). -/
def checking (p : AqPart) (paused : Bool) : Bool := !(p.on m.single) && !paused

/-- AQ_SLOT (R222): the next slot of the stroke goes to entry 0 at slot 0, to an urgent request, to the running entry, or
to the cross-check when it is the first idle one. -/
def nextSlot (p : AqPart) (T stroke : Nat) (ins : List Int) (paused : Bool) (high : Nat → Bool) : AqPart :=
  let j := p.aq.slot
  if !(p.on m.run) || p.aq.stopped || decide (slots T ≤ j) then p
  else
    let p := p.onAq (fun a => { a with slot := j + 1 })
    let idle (p : AqPart) : AqPart := if p.checking m paused && !p.aq.checked then p.crossCheck m (codeOf ins 18).1 else p
    let tick (p : AqPart) : AqPart := p.onAq (fun a => { a with wait := a.wait - 1 })
    if j = 0 then (p.begin 0 0).convert m 0 stroke 0 ins high
    else
      match p.aq.urgent, p.aq.entry with
      | some (src, i, _), some _ => if 0 < p.aq.wait then tick (p.serve m src i stroke j ins) else p.serve m src i stroke j ins
      | some (src, i, _), none => p.serve m src i stroke j ins
      | none, some e => if 0 < p.aq.wait then tick (idle p) else p.convert m e stroke j ins high
      | none, none => idle p

/-- The block at SB(k): the entry is cut, a stroke without an idle slot is counted, acquisition starts or its reference
changes (R222, R226, R231, R233). `prev` is the stroke that ends. -/
def boundary (p : AqPart) (prev : Nat) (paused : Bool) : AqPart :=
  let running := p.on m.run && !p.aq.stopped
  let p := if running then p.cutEntry m prev else p
  let p := if running && 0 < p.aq.slot && p.checking m paused && !p.aq.checked then p.inc m.noidle else p
  let p := p.onAq (fun a => { a with slot := 0, entry := none, made := 0, checked := false })
  let p := if p.aq.start then
    (p.wr m.run 1).onAq (fun a => { a with start := false, filt := 6400 * 65536, checks := 0 }) else p
  if p.on m.sel then p.wr m.single 1 else p

/-- AQ_RESULT: the oldest result on its way is written (R223). -/
def writeResult (p : AqPart) : AqPart × Option AqRes :=
  match p.aq.coming with
  | [] => (p, none)
  | r :: t =>
    let mine := keepLast 32 (p.aq.hist.filter (fun x => x.entry = r.entry) ++ [r])
    let p := p.onAq (fun a => { a with coming := t, hist := a.hist.filter (fun x => x.entry ≠ r.entry) ++ mine })
    let p := ((p.wr m.value r.value r.entry).wr m.valid 1 r.entry).wr m.sat (if r.sat then 1 else 0) r.entry
    ((p.wr m.slot r.slot r.entry).wr m.stk r.stroke r.entry, some r)

/-- URGENT_RESULT: the oldest urgent result on its way is written (R227). -/
def writeUrgent (p : AqPart) : AqPart × Bool :=
  match p.aq.urgComing with
  | [] => (p, false)
  | r :: t =>
    let p := p.onAq (fun a => { a with urgComing := t })
    let p := ((p.wr m.uvalue r.value).wr m.uvalid 1).wr m.usat (if r.sat then 1 else 0)
    (((p.wr m.usrc r.entry).wr m.uslot r.slot).wr m.ustk r.stroke, true)

/-- An urgent request of source `src` for `input`, registered at instant `clk` where its clock is known: dropped and counted while
one is pending or the converter is stopped; of two of one clock the lower source is kept (R228). -/
def request (p : AqPart) (src input : Nat) (clk : Option Int) : AqPart :=
  let first := match p.aq.urgent with
    | none => true
    | some (s, _, t) => t.isSome && t == clk && decide (src < s)
  if p.aq.stopped || !(p.on m.run) || !first then p.inc m.udrop
  else (if p.aq.urgent.isSome then p.inc m.udrop else p).onAq (fun a => { a with urgent := some (src, input, clk) })

/-- A write of AQ_CTRL.EN (R226). -/
def enable (p : AqPart) (en : Bool) : AqPart :=
  if en then (p.wr m.en 1).onAq (fun a => { a with start := !(p.on m.run) })
  else ((p.wr m.en 0).wr m.run 0).onAq (fun a => { a with start := false, urgent := none, entry := none })

/-- SLICE_CALIBRATED (R229): the slice taken out becomes the spare and the next one is taken out; beyond its limit it is
retired and calibration stops for good. -/
def sliceDone (p : AqPart) (beyond paused : Bool) : AqPart :=
  let n := p.rd m.sliceOut
  if !(p.on m.run) || p.rd m.retired != 0 || paused || p.aq.stopped then p
  else if beyond then (p.wr m.retired (setBit (p.rd m.retired) n true)).wr m.nospare 1
  else if 8 ≤ n then (p.wr m.sliceOut 0).wr m.rot (p.rd m.rot + 1)
  else p.wr m.sliceOut (n + 1)

/-- The drift shown by AQ_XCHK. -/
def shownDrift (p : AqPart) : Int := toS 24 (p.rd m.xdrift)

/-- A W1C of DRIFT (false) or HARD (true) that is set (R232). -/
def driftClear (p : AqPart) (hard : Bool) : AqPart :=
  let d := (p.shownDrift m).natAbs
  if !(if hard then p.on m.hard else p.on m.drift) then p
  else if hard then (if 2 * d < p.rd m.hardLim then p.wr m.hard 0 else p.inc m.clrrej)
  else if 2 * d < p.rd m.lim then p.wr m.drift 0 else p.inc m.clrrej

end AqPart

end Sys2Proof.Machine
end

