-- ==== Sys2Proof/Machine/LineCode.lean ====
section
/-!
DEFINITION. The line structure of the serial lanes: the stream of 128-bit blocks, its scrambling, the RS(544,514) code, Gray
levels, pilots and the superframe, in both directions (R396-R400, R404). Bits and symbols stand in the order in which the line
carries them.
-/

namespace Sys2Proof.Machine

/-! ### The field GF(2^10) and its code (R396) -/

/-- Times the primitive element of GF(2^10) modulo x^10 + x^3 + 1, the polynomial of IEEE 802.3 clause 91 (PRESUMED, log
entry 215). -/
def gfDouble (a : Nat) : Nat := if a < 512 then 2 * a else (2 * a) ^^^ 0x409

def gfMul (a b : Nat) : Nat :=
  (List.range 10).foldl (fun r i => if bit b (9 - i) then gfDouble r ^^^ a else gfDouble r) 0

def gfPow (a n : Nat) : Nat := (List.range n).foldl (fun r _ => gfMul r a) 1

def gfInv (a : Nat) : Nat := gfPow a 1022

/-- The value of a polynomial, highest coefficient first. -/
def gfEval (l : List Nat) (x : Nat) : Nat := l.foldl (fun s c => gfMul s x ^^^ c) 0

/-- The sum of two polynomials, lowest coefficient first. -/
def gfAdd : List Nat → List Nat → List Nat
  | [], l => l
  | l, [] => l
  | a :: l, b :: t => (a ^^^ b) :: gfAdd l t

namespace Rs

/-- The generator without its leading 1, highest coefficient first: the product of x - α^j for j = 0 to 29. -/
def generator : List Nat :=
  ((List.range 30).foldl (fun g j =>
    let a := gfPow 2 j
    gfAdd (0 :: g) (g.map (gfMul a))) [1]).reverse.drop 1

/-- The 30 parity symbols of a message: the remainder of x^30 times it. -/
def parity (msg : List Nat) : List Nat :=
  msg.foldl (fun r m =>
    let f := m ^^^ r.headD 0
    gfAdd (r.drop 1 ++ [0]) (generator.map (gfMul f))) (List.replicate 30 0)

/-- The 30 syndromes of a received word; all are 0 where it is a codeword. -/
def syndromes (w : List Nat) : List Nat := (List.range 30).map (fun j => gfEval w (gfPow 2 j))

/-- The search for the error locator of a list of syndromes (Berlekamp and Massey), polynomials lowest coefficient first. -/
structure Search where
  loc : List Nat
  old : List Nat
  len : Nat
  shift : Nat
  gap : Nat

def Search.next (s : List Nat) (b : Search) (n : Nat) : Search :=
  let d := (List.range (b.len + 1)).foldl (fun d i => if i ≤ n then d ^^^ gfMul (nth 0 b.loc i) (nth 0 s (n - i)) else d) 0
  if d = 0 then { b with shift := b.shift + 1 }
  else
    let loc := gfAdd b.loc (List.replicate b.shift 0 ++ b.old.map (gfMul (gfMul d (gfInv b.gap))))
    if 2 * b.len ≤ n then { loc := loc, old := b.loc, len := n + 1 - b.len, shift := 1, gap := d }
    else { b with loc := loc, shift := b.shift + 1 }

/-- The powers α^-e for e = 0 to 543 that are roots of a locator, each with e. -/
def roots (loc : List Nat) : List (Nat × Nat) :=
  let inv := gfInv 2
  ((List.range 544).foldl (fun (a : Nat × List (Nat × Nat)) e =>
    (gfMul a.1 inv, if gfEval loc.reverse a.1 = 0 then (e, a.1) :: a.2 else a.2)) (1, [])).2

/-- Add `v` to the symbol that stands at power `e` of a word of 544 symbols. -/
def patch (w : List Nat) (e v : Nat) : List Nat := w.take (543 - e) ++ [nth 0 w (543 - e) ^^^ v] ++ w.drop (544 - e)

/-- A received word decoded: the codeword and its corrected symbols; none where no codeword lies within 15 symbols. -/
def decode (w : List Nat) : Option (List Nat × Nat) :=
  let s := syndromes w
  if s.all (· == 0) then some (w, 0)
  else
    let b := (List.range 30).foldl (Search.next s) ⟨[1], [1], 0, 1, 1⟩
    let found := roots b.loc
    if 15 < b.len ∨ found.length ≠ b.len then none
    else
      let value := ((List.range 30).map (fun n =>
        (List.range (n + 1)).foldl (fun d i => d ^^^ gfMul (nth 0 b.loc i) (nth 0 s (n - i))) 0)).reverse
      let slope := ((List.range (b.loc.length - 1)).map (fun i => if i % 2 = 0 then nth 0 b.loc (i + 1) else 0)).reverse
      let fixed := found.foldl (fun w r =>
        patch w r.1 (gfMul (gfInv r.2) (gfMul (gfEval value r.2) (gfInv (gfEval slope r.2))))) w
      if (syndromes fixed).all (· == 0) then some (fixed, b.len) else none

end Rs

/-! ### Bits, levels and pilots (R396-R398) -/

/-- `n` pieces of `k` elements each. -/
def pieces {α : Type} (k : Nat) : Nat → List α → List (List α)
  | 0, _ => []
  | n + 1, l => l.take k :: pieces k n (l.drop k)

/-- A number of `n` bits, most significant bit first, and back. -/
def bitsOf (n v : Nat) : List Bool := (List.range n).map (fun i => bit v (n - 1 - i))
def numOf (l : List Bool) : Nat := l.foldl (fun v b => 2 * v + if b then 1 else 0) 0

/-- `n` output bits of the shift register x^w + x^t + 1 in state `r`: each is its oldest bit (DEDUCED, log entry 215). -/
def shiftOut (w t : Nat) : Nat → Nat → List Bool
  | 0, _ => []
  | n + 1, r => bit r (w - 1) :: shiftOut w t n ((2 * r + if bit r (w - 1) != bit r (t - 1) then 1 else 0) % 2 ^ w)

/-- The scrambler's bits of a codeword (R398). -/
def scrambler : List Bool := shiftOut 31 28 5140 (2 ^ 31 - 1)

def scramble (l : List Bool) : List Bool := (l.zip scrambler).map (fun e => e.1 != e.2)

/-- A Gray-coded level, of its high and low bit, and back (R396). -/
def grayLevel (hi lo : Bool) : Nat := if hi then (if lo then 2 else 3) else if lo then 1 else 0
def grayBits (level : Nat) : List Bool := [decide (2 ≤ level), level == 1 || level == 2]

/-- Levels of a list of bits, two by two. -/
def levelsOf : List Bool → List Nat
  | hi :: lo :: l => grayLevel hi lo :: levelsOf l
  | _ => []

/-- The 80 pilot levels of a codeword (R397); `first` in its superframe. Two bits are a level's number (DEDUCED, log entry 215). -/
def pilots (first : Bool) : List Nat := (if first then 3 else 0) :: ((pieces 2 80 (shiftOut 7 6 160 127)).map numOf).drop 1

/-- The 16 bytes of a block, least significant first, each most significant bit first (R398), and back. -/
def blockBits (v : Nat) : List Bool := (List.range 16).flatMap (fun i => bitsOf 8 (bits v (8 * i) 8))
def blockOf (l : List Bool) : Nat := ((pieces 8 16 l).zip (List.range 16)).foldl (fun v e => v + numOf e.1 * 2 ^ (8 * e.2)) 0

/-! ### Sending (R396-R399) -/

/-- The blocks of an ink frame: its header, then its bytes padded with zeros to a block (R399). -/
def frameBlocks (header : Nat) (bytes : List Nat) : List Nat :=
  header :: (pieces 16 ((bytes.length + 15) / 16) bytes).map (fun p => packFields (packed 8 p))

/-- The line symbols of a codeword: 80 groups of one pilot and 34 data symbols. -/
def codewordLine (first : Bool) (msg : List Bool) : List Nat :=
  let syms := (pieces 10 514 (scramble msg)).map numOf
  let data := levelsOf ((syms ++ Rs.parity syms).flatMap (bitsOf 10))
  ((pilots first).zip (pieces 34 80 data)).flatMap (fun g => g.1 :: g.2)

/-- The line symbols of a superframe: 1,285 blocks, fill blocks behind the given ones, in 32 codewords. -/
def superframeLine (blocks : List Nat) : List Nat :=
  let l := (blocks ++ List.replicate (1285 - blocks.length) 0).take 1285
  ((pieces 5140 32 (l.flatMap blockBits)).zip (List.range 32)).flatMap (fun c => codewordLine (c.2 == 0) c.1)


/-! ### Frames on the line (R174, R399) -/

/-- What a codeword brought: headers and sections discarded, sections complete only after correction, a valid frame. -/
structure LineGain where
  hcrc : Nat
  gcm : Nat
  retry : Nat
  valid : Bool
  deriving DecidableEq, Repr

/-- Lengths in bytes of the sections of a received frame, tags included (R174, R175); a type that is not listed has none. -/
def sectionLengths (header : Nat) : List Nat :=
  let n := bits header 112 8
  match bits header 0 8 with
  | 0x01 => [4 * n + 16, 20 * n + 16]
  | 0x02 => [16 * n + 16]
  | t => if has [0x03, 0x04, 0x05, 0x10, 0x11, 0x12, 0x20, 0x21, 0x22, 0x23, 0x24, 0x25, 0x26, 0x27, 0x28] t then [bits header 16 16] else []

/-- The blocks behind the header in which its sections end, the first block being 1. -/
def sectionEnds (header : Nat) : List Nat :=
  ((sectionLengths header).foldl (fun (a : Nat × List Nat) n => (a.1 + n, a.2 ++ [(a.1 + n + 15) / 16])) (0, [])).2

/-- The blocks of a frame as a lane sends it: each section's ciphertext, which the model leaves opaque, and its tag. `args` are those
of the frame's entry in `sent`. -/
def frameOnLine (args : List Nat) : List Nat :=
  let header := nth 0 args 2
  let secs := (sectionLengths header).zip (pieces 2 args.length (args.drop 3))
  frameBlocks header ((secs.zip (List.range secs.length)).flatMap (fun e =>
    let n := e.1.1 - 16
    let text := Config.crypto 35 [nth 0 args 0, header, e.2, nth 0 e.1.2 0]
    (List.range n).map (fun i => bits text (8 * i) 8) ++ (List.range 16).map (fun i => bits (nth 0 e.1.2 1) (8 * i) 8)))

/-- The line symbols of the superframes that carry the frames a lane has sent, in their order (R396-R399). How many fill blocks
stand between them is timing (log entry 215). -/
def lineOf (lane : Nat) (sent : List Sent) : List Nat :=
  let blocks := (sent.filter (fun x => x.kind == .ink && x.args.head? == some lane)).flatMap (fun x => frameOnLine x.args)
  (pieces 1285 ((blocks.length + 1284) / 1285) blocks).flatMap superframeLine

/-! ### Receiving (R399, R400, R404) -/

namespace LineRx

/-- A section ends: `tag` says whether it verifies on the raw bits and after correction. One that fails is discarded with the
sections behind it (R174, R400). -/
def sectionEnd (a : LineRx × LineGain × List (Bool × Bool)) : LineRx × LineGain × List (Bool × Bool) :=
  let (x, n, tags) := a
  match x.dead, tags.headD (false, false) with
  | true, _ => (x, { n with gcm := n.gcm + 1 }, tags)
  | false, (true, _) => (x, n, tags.drop 1)
  | false, (false, true) => (x, { n with retry := n.retry + 1 }, tags.drop 1)
  | false, (false, false) => ({ x with dead := true }, { n with gcm := n.gcm + 1 }, tags.drop 1)

/-- One block of the stream: within a frame, a fill block, a header, or one that is no header. Of a run of blocks that are none
only the first counts (R399; DEDUCED, log entry 215). -/
def block (a : LineRx × LineGain × List (Bool × Bool)) (v : Nat) : LineRx × LineGain × List (Bool × Bool) :=
  let (x, n, tags) := a
  if 0 < x.left then
    let pos := x.pos + 1
    let now := x.ends.filter (· = pos)
    let (x, n, tags) := now.foldl (fun a _ => sectionEnd a)
      (({ x with left := x.left - 1, pos := pos, ends := x.ends.filter (· ≠ pos) } : LineRx), n, tags)
    (x, { n with valid := n.valid || (x.left == 0 && !x.dead && !now.isEmpty) }, tags)
  else if v = 0 then ({ x with lost := false }, n, tags)
  else if !headerOk v then ({ x with lost := true }, { n with hcrc := if x.lost then n.hcrc else n.hcrc + 1 }, tags)
  else ({ x with left := (bits v 16 16 + 15) / 16, pos := 0, ends := sectionEnds v, dead := false, lost := false }, n, tags)

/-- The running frame is lost with the bits of the block begun (R410). -/
def drop (x : LineRx) : LineRx := { x with part := [], left := 0, ends := [], lost := true }

/-- The blocks that are whole with the message bits of codeword `c` of a superframe, whose block grid starts with the superframe
(R398). A receiver that has not the bits of the block begun goes on at the next one. -/
def take (x : LineRx) (c : Nat) (msg : List Bool) (tags : List (Bool × Bool)) : LineRx × LineGain :=
  let o := c * 5140 % 128
  let (x, l) := if x.part.length = o then (x, x.part ++ msg) else (x.drop, msg.drop ((128 - o) % 128))
  let n := l.length / 128
  let r := ((pieces 128 n l).map blockOf).foldl block ({ x with part := l.drop (128 * n) }, ⟨0, 0, 0, false⟩, tags)
  (r.1, r.2.1)

/-- The consecutive pilots that mismatch go on over a codeword, and whether they have come to 160 (R404). Pilot 0 of a codeword whose
place in the superframe is not known may have either of its levels. -/
def check (x : LineRx) (seen : List Nat) : LineRx × Bool :=
  let want := pilots (match x.cw with
    | some c => c == 0
    | none => seen.headD 0 == 3)
  let r := (want.zip (seen ++ List.replicate (80 - seen.length) 4)).foldl (fun (a : Nat × Bool) e =>
    let n := if e.1 = e.2 then 0 else a.1 + 1
    (n, a.2 || decide (160 ≤ n))) (x.miss, false)
  ({ x with miss := r.1 }, r.2)

/-- A codeword passes: the place in the superframe goes on (R397). -/
def pass (x : LineRx) (c : Option Nat) : LineRx := { x with cw := c.map (fun c => (c + 1) % 32) }

end LineRx

/-- A received codeword. -/
structure Received where
  rx : LineRx
  /-- uncorrectable -/
  bad : Bool
  /-- corrected symbols -/
  syms : Nat
  gain : LineGain
  /-- 160 consecutive pilots have mismatched -/
  lock : Bool
  deriving DecidableEq, Repr

/-- A codeword of 2,800 line symbols at a receiver; an uncorrectable one is taken as it came (R396-R400). -/
def LineRx.receive (x : LineRx) (line : List Nat) (tags : List (Bool × Bool)) : Received :=
  let groups := pieces 35 80 line
  let seen := groups.map (·.headD 0)
  let (x, lock) := x.check seen
  let c := x.cw.or (if seen.headD 0 = 3 then some 0 else none)
  let raw := (pieces 10 544 ((groups.flatMap (·.drop 1)).flatMap grayBits)).map numOf
  let d := Rs.decode raw
  let msg := scramble (((d.map (·.1)).getD raw |>.take 514).flatMap (bitsOf 10))
  let (x, gain) := match c with
    | some c => x.take c msg tags
    | none => (x, ⟨0, 0, 0, false⟩)
  ⟨x.pass c, d.isNone, (d.map (·.2)).getD 0, gain, lock⟩

/-- The receiver after 80 pilots in a row that match R397, which give codeword lock (R404); none where they do not. -/
def LineRx.ofPilots (seen : List Nat) : Option LineRx :=
  if seen == pilots true then some (LineRx.reset.pass (some 0)) else if seen == pilots false then some LineRx.reset else none

end Sys2Proof.Machine
end

