-- ==== Sys2Proof/Machine/Loop.lean ====
section
/-!
DEFINITION. The Loop Engine: input load, loop words, barriers, writeback, and its staged record (R98-R124).
-/

namespace Sys2Proof.Machine

/-- A loop word's fields (R102). -/
structure LoopWord where
  op : Nat
  d : Nat
  w : Nat
  rnd : Bool
  a : Nat
  b : Nat
  c : Nat
  sh : Nat
  x : Nat
  deriving DecidableEq, Repr

/-- The fields of a 64-bit loop word (R102). -/
def loopFields (v : Nat) : LoopWord :=
  { op := bits v 58 6, d := bits v 54 4, w := if bit v 53 then 14 else 32, rnd := bit v 52, a := bits v 40 12,
    b := bits v 28 12, c := bits v 16 12, sh := bits v 10 6, x := bits v 0 10 }

/-- Product saturated to 48 bits, and whether it saturated (R107). -/
def mul48 (x y : Int) : Int × Bool := sat 48 (x * y)

/-- Shift of R107. -/
def shiftRnd (rnd : Bool) (x : Int) (sh : Nat) : Int := if rnd then rshR x sh else x / 2 ^ sh

/-- Sine of `r` quarter-turns / 2^30, 0 ≤ r ≤ 2^30, in units of 2^-60: its power series. -/
def quarterSine (r : Nat) : Int :=
  let one : Int := 2 ^ 60
  let x : Int := r * 1811004864519280711 / 2 ^ 30
  let x2 := x * x / one
  let t : Int := [272, 210, 156, 110, 72, 42, 20, 6].foldl (fun t d => one - x2 * t / (one * d)) one
  x * t / one

/-- Sine of `a` turns / 2^32, in units of 2^-60. -/
def sineQ60 (a : Nat) : Int :=
  let r := a % 2 ^ 30
  match a / 2 ^ 30 % 4 with
  | 0 => quarterSine r
  | 1 => quarterSine (2 ^ 30 - r)
  | 2 => -quarterSine r
  | _ => -quarterSine (2 ^ 30 - r)

/-- TRIG: the sine or cosine in Q2.30, within 2^-28 of full scale; which value within that bound is free (R98, R103, log
entry 5). The bound holds for the exact sine: rounding it to a unit of 2^-30 is part of the error. -/
def trigValue (sine : Bool) (a : Nat) : Int :=
  let s := sineQ60 (if sine then a else a + 2 ^ 30)
  let e : Int := 2 ^ 32 - 2 ^ 10
  clampI (-((e - s) / 2 ^ 30)) ((s + e) / 2 ^ 30) (rshR s 30 + Config.trigError sine a)

/-- clamp(x, lo, hi); the manual states no result for lo > hi, which is free (log entry 16). -/
def clampFree (lo hi x : Int) : Int := if hi < lo then toS 32 (Config.freeNat (ofS 32 x)) else clampI lo hi x

/-- FLOAT32 × 2^e rounded and saturated to 32 bits (R105): the value of the bits per IEEE 754. A NaN has no stated
result. -/
def floatInput (w : Nat) (e : Int) : Int :=
  let neg := bit w 31
  let ex := bits w 23 8
  let m := bits w 0 23
  let sgn (x : Int) : Int := if neg then -x else x
  if ex = 255 then (if m = 0 then satS 32 (sgn (2 ^ 40)) else toS 32 (Config.freeNat w))
  else
    let mant : Int := if ex = 0 then m else m + 2 ^ 23
    let p : Int := (if ex = 0 then (1 : Int) else (ex : Int)) - 150 + e
    if 0 ≤ p then satS 32 (sgn (mant * 2 ^ (min 64 p.toNat)))
    else satS 32 (roundFree (sgn mant) (2 ^ (min 200 (-p).toNat)))

namespace Gloesk

/-- Change the Loop Engine's state. -/
def onLpe (g : Gloesk) (f : LoopState → LoopState) : Gloesk := { g with lpe := f g.lpe }

/-- State of a slot: 0 IDLE, 1 CLOSED, 2 OPEN. -/
def slotState (g : Gloesk) (s : Nat) : Nat := g.rd F.LPE_SLOT_STAT_STATE s

/-- The word of a pair of 32-bit maps that covers a slot. -/
def wrSlotBit (g : Gloesk) (f0 f1 : Fld) (s : Nat) (x : Bool) : Gloesk :=
  if s < 32 then g.wrBit f0 s x else g.wrBit f1 (s - 32) x

/-- A slot takes a state (R119). -/
def setSlot (g : Gloesk) (s st : Nat) : Gloesk :=
  let g := g.wr F.LPE_SLOT_STAT_STATE st s
  let g := g.wrSlotBit F.LPE_OPEN0_OPEN F.LPE_OPEN1_OPEN s (st == 2)
  g.wrSlotBit F.LPE_ACTIVE0_ACT F.LPE_ACTIVE1_ACT s (st != 0)

/-- A slot's clamp state (R114). -/
def setClamp (g : Gloesk) (s : Nat) (x : Bool) : Gloesk :=
  (g.wr F.LPE_SLOT_STAT_OSAT (if x then 1 else 0) s).wrSlotBit F.LPE_OSAT0_CLAMP F.LPE_OSAT1_CLAMP s x

/-- Number of strokes between executions of a slot (R110). -/
def slotDiv (g : Gloesk) (s : Nat) : Nat := g.rd F.LPE_SLOT_CFG1_DIV s + 1

/-- Slot `s` runs in stroke `k` (R110). -/
def slotRuns (g : Gloesk) (s k : Nat) : Bool :=
  g.slotState s != 0 && ((k : Int) - g.rd F.LPE_SLOT_CFG1_PHASE s) % g.slotDiv s == 0

/-- A slot is in the wide form (R115). -/
def slotWide (g : Gloesk) (s : Nat) : Bool :=
  decide (16 < g.rd F.LPE_SLOT_CFG0_LEN s) && (g.slotWords s).any (fun w => bits w 58 6 == 0x08)

/-- A coefficient, sign-extended. -/
def coef (g : Gloesk) (i : Nat) : Int := (Tab.get 0 g.lpe.coef i).toInt

/-- A local of a slot. -/
def loc (g : Gloesk) (s j : Nat) : Int := (Tab.get 0 g.lpe.locals (s * 16 + j)).toInt

/-- Write a local. -/
def setLoc (g : Gloesk) (s j : Nat) (v : Int) : Gloesk :=
  g.onLpe (fun l => { l with locals := Tab.set 0 l.locals (s * 16 + j) (BitVec.ofInt 32 v) })

/-- The held value of a slot (R119): one that an uncorrectable error opened holds that of its last closed execution
(R123). -/
def heldValue (g : Gloesk) (s : Nat) : Int :=
  if !(has g.lpe.eccOpen s) && g.on F.LPE_SLOT_CFG2_OPEN_OUT s then g.rdS F.LPE_SLOT_PRESET_PRESET s else (Tab.get 0 g.lpe.lastY s).toInt

/-! ### Input load (R99, R105, R106) -/

/-- A value that the manual does not state, as a word (log entry 16). -/
def openWord (g : Gloesk) (i : Nat) : Nat := (Config.freeWord (g.fresh + i)).toNat

/-- The SV status word (R106). -/
def svStatusWord (g : Gloesk) (n : Nat) : Nat :=
  match g.svi.inputs.find? (fun e => e.1 = n) with
  | none => 0
  | some (_, x) => if !(g.on F.SVI_SUB_CFG_EN n) then 0 else
    x.state + x.lag * 256 + (if x.questionable then 2 ^ 16 else 0) + (if x.test then 2 ^ 17 else 0)
      + g.rd F.SVI_SUB_STAT_BACKUP_ACT n * 2 ^ 18

/-- A GOOSE member as a loop input (R105). -/
def gooseInput (v : GooseVal) (e : Int) : Nat :=
  match v with
  | .bool b => if b then 1 else 0
  | .dbpos n => n % 4
  | .int32 i => ofS 32 i
  | .float32 w => ofS 32 (floatInput w e)
  | .quality q => q % 2 ^ 13
  | .timestamp _ => 0

/-- The value an input map entry names (R105), as a word. -/
def imapValue (g : Gloesk) (i : Nat) : Nat :=
  let sel := g.rd F.LPE_IMAP_SEL i
  match g.rd F.LPE_IMAP_CLASS i with
  | 1 => match g.svi.inputs.find? (fun e => e.1 = bits sel 4 8) with
    | none => g.openWord i
    | some (_, x) => ofS 32 (nth 0 x.vals (bits sel 0 4))
  | 2 => g.svStatusWord (bits sel 4 8)
  | 3 => match (Tab.get [] g.svi.gooseIn (bits sel 8 7))[bits sel 0 5]? with
    | none => g.openWord i
    | some v => gooseInput v (toS 8 (bits sel 16 8))
  | 4 =>
    let st := g.rd F.SVI_GS_STAT_STATE (bits sel 8 7)
    let test := match g.gooseAgreed (bits sel 8 7) with
      | some h => h.msg.test
      | none => false
    (if st = 2 then 1 else 0) + (if st = 3 then 2 else 0) + (if test then 4 else 0)
  | 5 => (Tab.get 0 g.lpe.agg (bits sel 4 4 * 8 + bits sel 0 4)).toNat
  | 6 => match nth none g.svi.encAgreed (bits sel 4 1), bits sel 0 2 with
    | some (p, _), 0 => ofS 32 p
    | some (_, f), 1 => ofS 32 (2 * f)
    | some _, 2 => 1
    | none, 2 => 0
    | _, _ => g.openWord i
  | 7 => g.rd F.LPE_PARAM_VAL (bits sel 0 6)
  | _ => 0

/-- Clock 0: every input map entry is loaded into the operand buffer (R99). -/
def loopInputLoad (g : Gloesk) : Gloesk :=
  let g := g.each (below 1024 (fun i => g.rd F.LPE_IMAP_CLASS i != 0)) (fun g i =>
    g.onLpe (fun l => { l with buffer := Tab.set 0 l.buffer i (BitVec.ofNat 32 (g.imapValue i)) }))
  { g with fresh := g.fresh + 1024 }

/-! ### Execution (R99, R102-R108, R110, R111, R114, R115) -/

/-- The slots of a lane and tier that run in stroke `k`, in increasing index. -/
def laneSlots (g : Gloesk) (k tier lane : Nat) : List Nat :=
  below 64 (fun s => g.slotRuns s k && g.rd F.LPE_SLOT_CFG1_LANE s == lane && g.rd F.LPE_SLOT_CFG1_TIER s == tier)

/-- A slot is an outer loop of a cascade (R116): FEEDS_EN in a group with MODE 1. -/
def feedsInner (g : Gloesk) (s : Nat) : Bool :=
  g.on F.LPE_SLOT_CFG2_FEEDS_EN s && g.on F.LPE_SLOT_CFG2_GRP_EN s && g.rd F.LPE_GRP_CFG_MODE (g.rd F.LPE_SLOT_CFG2_GROUP s) == 1

/-- INT words of a slot hold in this execution (R115). -/
def holds (g : Gloesk) (s : Nat) : Bool :=
  let inner := g.rd F.LPE_SLOT_CFG2_FEEDS s
  g.slotWide s && (g.on F.LPE_SLOT_STAT_OSAT s || (g.feedsInner s &&
    (g.on F.LPE_SLOT_STAT_OSAT inner || has g.lpe.lastOpen inner || g.on F.LPE_SLOT_STAT_HOLD inner)))

/-- A lane begins the next slot of its list. -/
def laneBegin (g : Gloesk) (rest : List Nat) : LaneState :=
  match rest with
  | [] => LaneState.idle
  | s :: r => { slot := some s, pc := 0, acc := 0, skip := 0, hold := g.holds s,
                wasClamped := g.on F.LPE_SLOT_STAT_OSAT s, isFirst := has g.lpe.first s, rest := r }

/-- Tier `tier` starts on all lanes. -/
def tierLanes (g : Gloesk) (k tier : Nat) : List LaneState :=
  (List.range 8).map (fun l => g.laneBegin (g.laneSlots k tier l))

/-- Tier of a selector group: that of its members. -/
def groupTier (g : Gloesk) (n : Nat) : Nat :=
  match (below 64 (fun s => g.on F.LPE_SLOT_CFG2_GRP_EN s && g.rd F.LPE_SLOT_CFG2_GROUP s == n)) with
  | [] => 0
  | s :: _ => g.rd F.LPE_SLOT_CFG1_TIER s

/-- An operand of a word of slot `s` (R104, R111). -/
def operand (g : Gloesk) (win : LoopWindow) (ln : LaneState) (s code : Nat) : Int :=
  let r := g.recordOf win.k
  let tier := g.rd F.LPE_SLOT_CFG1_TIER s
  if code < 0x10 then g.loc s code
  else if code = 0x21 then toS 32 (r.theta / 2 ^ 32)
  else if code = 0x22 then toS 32 (r.thetaNext / 2 ^ 32)
  else if code = 0x23 then r.vel
  else if code = 0x24 then toS 32 win.k
  else if code = 0x25 then (Tab.get 0 g.lpe.yc s).toInt
  else if code = 0x26 then g.heldValue s
  else if code = 0x27 then (if ln.isFirst then 1 else 0)
  else if 0x30 ≤ code ∧ code < 0x40 then
    (Tab.get 0 (if g.groupTier (code - 0x30) < tier then g.lpe.grp else g.lpe.grpBefore) (code - 0x30)).toInt
  else if 0x40 ≤ code ∧ code < 0x80 then
    (Tab.get 0 (if g.rd F.LPE_SLOT_CFG1_TIER (code - 0x40) < tier then g.lpe.y else g.lpe.yBefore) (code - 0x40)).toInt
  else if 0x400 ≤ code ∧ code < 0x800 then (Tab.get 0 g.lpe.buffer (code - 0x400)).toInt
  else 0

/-- Condition of a SKP (R108). -/
def skipHolds (ln : LaneState) (cond : Nat) (a b : Int) : Bool :=
  match cond with
  | 0 => decide (a < 0)
  | 1 => decide (a = 0)
  | 2 => decide (0 < a)
  | 3 => decide (0 ≤ a)
  | 4 => decide (a ≤ 0)
  | 5 => decide (a ≠ 0)
  | 6 => decide (a < b)
  | 7 => decide (b ≤ a)
  | 8 => (ofS 32 a &&& ofS 32 b) != 0
  | 9 => (ofS 32 a &&& ofS 32 b) == 0
  | 10 => ln.isFirst
  | 11 => ln.wasClamped
  | _ => false

/-- What a word that writes D computes: the exact result before saturation to its width, and whether a product or a sum
saturated; none for a word that writes no local (R103, R107, R129). The accumulator after the word comes last. -/
def wordResult (g : Gloesk) (win : LoopWindow) (ln : LaneState) (s : Nat) (f : LoopWord) :
    Option (Int × Bool) × Int :=
  let a := g.operand win ln s f.a
  let b := g.operand win ln s f.b
  let c := g.coef f.c
  let p := mul48 a c
  match f.op with
  | 0x01 => (some (a, false), ln.acc)
  | 0x02 => (some (a + b, false), ln.acc)
  | 0x03 => (some (a - b, false), ln.acc)
  | 0x04 => (some (shiftRnd f.rnd p.1 f.sh, p.2), ln.acc)
  | 0x05 =>
    let q := mul48 a (toS 18 (ofS 32 b / 2 ^ 14))
    (some (shiftRnd f.rnd q.1 f.sh, q.2), ln.acc)
  | 0x06 => (some (shiftRnd f.rnd p.1 f.sh, p.2), p.1)
  | 0x07 =>
    let t := sat 48 (ln.acc + p.1)
    (some (shiftRnd f.rnd t.1 f.sh, p.2 || t.2), t.1)
  | 0x08 =>
    if ln.hold then (none, ln.acc)
    else (some (g.loc s f.d + shiftRnd f.rnd p.1 f.sh, p.2), ln.acc)
  | 0x09 => (some (max a b, false), ln.acc)
  | 0x0A => (some (min a b, false), ln.acc)
  | 0x0B => (some (clampFree (c * 2 ^ f.sh) (g.coef (f.c + 1) * 2 ^ f.sh) a, false), ln.acc)
  | 0x0C => (some ((a.natAbs : Int), false), ln.acc)
  | 0x0D => (some (-a, false), ln.acc)
  | 0x0E =>
    let n := toS 6 f.x
    (some (if 0 < n then a * 2 ^ n.toNat else shiftRnd f.rnd a (-n).toNat, false), ln.acc)
  | 0x0F => (some (trigValue (f.x % 2 == 0) (ofS 32 a), false), ln.acc)
  | 0x10 => (some (c * 2 ^ f.sh, false), ln.acc)
  | 0x30 => (some (g.frd win.k (f.x % 64), false), ln.acc)
  | 0x31 => (some (g.frdi win.k (f.x % 64), false), ln.acc)
  | 0x32 => (some ((g.fst (f.x % 64) : Int), false), ln.acc)
  | _ => (none, ln.acc)

/-- A slot saturated in this execution (R113). -/
def slotSat (g : Gloesk) (s : Nat) : Gloesk :=
  let was := if s < 32 then bit (g.rd F.LPE_SATMAP0_SAT) s else bit (g.rd F.LPE_SATMAP1_SAT) (s - 32)
  let g := g.wrSlotBit F.LPE_SATMAP0_SAT F.LPE_SATMAP1_SAT s true
  (g.up F.LPE_STATUS_SAT_ANY).iff (!was) (·.raise 32)

/-- OUT: the computed output and the clamp state (R114). -/
def wordOut (g : Gloesk) (s : Nat) (a : Int) : Gloesk :=
  let lo := g.rdS F.LPE_SLOT_YMIN_YMIN s
  let hi := g.rdS F.LPE_SLOT_YMAX_YMAX s
  let y := clampFree lo hi a
  (g.onLpe (fun l => { l with yc := Tab.set 0 l.yc s (BitVec.ofInt 32 y) })).setClamp s (decide (y ≠ a))

/-- Write window and lane back. -/
def setLane (g : Gloesk) (win : LoopWindow) (lane : Nat) (ln : LaneState) : Gloesk :=
  g.onLpe (fun l => { l with window := some { win with lanes := win.lanes.set lane ln } })

/-- A slot's execution ends after its last word (R113, R115, R119). -/
def slotEnd (g : Gloesk) (win : LoopWindow) (s : Nat) : Gloesk × LoopWindow :=
  let g := g.iff (has win.sat s) (·.inc F.LPE_SLOT_STAT_SATCNT s)
  let g := g.wr F.LPE_SLOT_STAT_HOLD (if has win.held s then 1 else 0) s
  let g := g.onLpe (fun l => { l with
    first := without l.first s,
    lastOpen := if g.slotState s = 2 then s :: without l.lastOpen s else without l.lastOpen s })
  (g, { win with ran := win.ran ++ [s] })

/-- Taps that name word `i` of slot `s` by SRC = 0 (R137). -/
def wordTaps (g : Gloesk) (s i : Nat) : List Nat :=
  below 64 (fun t => g.on F.FLR_TAP_STAT_RUN t && !(g.on F.FLR_TAP_CFG_SRC t) && g.rd F.FLR_TAP_CFG_SLOT t == s
    && g.rd F.FLR_TAP_CFG_WORD t == i)

/-- Flag bits [59:56] of a trace entry (R138). -/
def tapFlags (g : Gloesk) (s : Nat) (skipped saturated : Bool) : Nat :=
  (if skipped then 1 else 0) + (if g.slotState s = 2 then 2 else 0) + (if saturated then 4 else 0)
    + 8 * g.rd F.LPE_SLOT_STAT_OSAT s

/-- One loop word of a lane executes (R102-R108, R114, R115, R137). -/
def laneStep (g : Gloesk) (win : LoopWindow) (lane : Nat) (ln : LaneState) (s : Nat) : Gloesk :=
  let f := loopFields (g.loopWordAt (g.rd F.LPE_SLOT_CFG0_START s + ln.pc))
  let len := g.rd F.LPE_SLOT_CFG0_LEN s
  let skipped := decide (0 < ln.skip)
  let a := g.operand win ln s f.a
  let b := g.operand win ln s f.b
  let r := if skipped then (none, ln.acc) else g.wordResult win ln s f
  let out := r.1.map (fun x => (satS f.w x.1, x.2 || overS f.w x.1))
  let saturated := match out with
    | some (_, true) => true
    | _ => false
  let g1 := match out with
    | some (v, _) => g.setLoc s f.d v
    | none => g
  let g1 := g1.iff saturated (·.slotSat s)
  let intHeld := !skipped && f.op == 0x08 && ln.hold
  let g1 := g1.iff intHeld (·.inc F.LPE_SLOT_STAT_HOLDCNT s)
  let g1 := g1.iff (!skipped && f.op == 0x12) (·.wordOut s a)
  let g1 := g1.iff (!skipped && f.op == 0x13 && g1.slotState s == 1) (·.wr F.LPE_QRES_VAL (ofS 32 a) (f.x % 32))
  let value : Int := if skipped then g1.loc s f.d else match out with
    | some (v, _) => v
    | none => if f.op = 0x12 then (Tab.get 0 g1.lpe.yc s).toInt else if f.op = 0x00 then 0
      else if f.op = 0x08 then g1.loc s f.d else a
  let flags := g1.tapFlags s skipped saturated
  let g1 := g1.each (g1.wordTaps s ln.pc) (fun g t => g.tapCapture t win.k (ofS 32 value) flags)
  let trc := f.x % 64
  let g1 := g1.iff (!skipped && f.op == 0x38 && g1.on F.FLR_TAP_CFG_SRC trc) (fun g =>
    g.tapCapture trc win.k (ofS 32 value) flags)
  let skip := if skipped then ln.skip - 1
    else if f.op = 0x11 ∧ skipHolds ln (f.x / 64) a b then f.x % 64 else 0
  let win := { win with
    sat := if saturated then s :: without win.sat s else win.sat,
    held := if intHeld then s :: without win.held s else win.held }
  if ln.pc + 1 < len then g1.setLane win lane { ln with pc := ln.pc + 1, acc := r.2, skip := skip }
  else
    let (g2, win) := g1.slotEnd win s
    g2.setLane win lane (g2.laneBegin ln.rest)

/-- The next word of a lane executes, when its opcode passes `ok`; an idle lane does nothing. -/
def laneNext (g : Gloesk) (lane : Nat) (ok : Nat → Bool) : Gloesk :=
  match g.lpe.window with
  | none => g
  | some win =>
    let ln := nth LaneState.idle win.lanes lane
    match ln.slot with
    | none => g
    | some s =>
      if ok (bits (g.loopWordAt (g.rd F.LPE_SLOT_CFG0_START s + ln.pc)) 58 6) then g.laneStep win lane ln s else g

/-- Words a lane has still to execute in this tier. -/
def laneLeft (g : Gloesk) (ln : LaneState) : Nat :=
  match ln.slot with
  | none => 0
  | some s => (g.rd F.LPE_SLOT_CFG0_LEN s - ln.pc) + (ln.rest.map (fun r => g.rd F.LPE_SLOT_CFG0_LEN r)).sum

/-- The word clocks of the tier pass on every lane: the words not yet executed execute. -/
def finishTier (g : Gloesk) : Gloesk :=
  g.each (List.range 8) (fun g lane =>
    match g.lpe.window with
    | none => g
    | some win => g.each (List.range (g.laneLeft (nth LaneState.idle win.lanes lane))) (fun g _ => g.laneNext lane (fun _ => true)))

/-! ### Barriers and writeback (R99, R109, R117-R119) -/

/-- Members of a group in a window that runs them. -/
def groupRan (g : Gloesk) (win : LoopWindow) (n tier : Nat) : List Nat :=
  win.ran.filter (fun s => g.on F.LPE_SLOT_CFG2_GRP_EN s && g.rd F.LPE_SLOT_CFG2_GROUP s == n
    && g.rd F.LPE_SLOT_CFG1_TIER s == tier)

/-- A value is delivered to a destination at writeback (R109). -/
def deliver (g : Gloesk) (dest : Nat) (v : Int) (valid : Bool) : Gloesk :=
  match g.lpe.window with
  | none => g
  | some win => if dest = 0 then g
    else g.onLpe (fun l => { l with window := some { win with out := win.out ++ [(dest, v, valid)] } })

/-- A slot's delivered output at its barrier (R114, R119). -/
def slotDeliver (g : Gloesk) (s : Nat) : Gloesk :=
  let isOpen := g.slotState s == 2
  let y := if isOpen then g.heldValue s else (Tab.get 0 g.lpe.yc s).toInt
  let g := g.onLpe (fun l => { l with
    y := Tab.set 0 l.y s (BitVec.ofInt 32 y),
    lastY := if isOpen then l.lastY else Tab.set 0 l.lastY s (BitVec.ofInt 32 y) })
  let dest := g.rd F.LPE_SLOT_CFG2_DEST s
  if isOpen && dest == 0x10 then g else g.deliver dest y (!isOpen)

/-- SELECTOR_RESOLVE: the lowest Y of the closed members, ties to the lower slot (R117). -/
def selectorResolve (g : Gloesk) (members : List Nat) (n : Nat) : Gloesk :=
  let closed := (members.mergeSort (· ≤ ·)).filter (fun s => g.slotState s = 1)
  let y (s : Nat) : Int := (Tab.get 0 g.lpe.y s).toInt
  match closed with
  | [] => (g.up F.LPE_GRP_STAT_NONE n).iff (g.rd F.LPE_GRP_CFG_DEST n != 0x10) (fun g =>
      g.deliver (g.rd F.LPE_GRP_CFG_DEST n) (Tab.get 0 g.lpe.grp n).toInt false)
  | c :: cs =>
    let win := cs.foldl (fun b s => if y s < y b then s else b) c
    let g := g.iff (has g.lpe.won n && g.rd F.LPE_GRP_STAT_WIN n != win) (·.inc F.LPE_GRP_STAT_CHG n)
    let g := (g.wr F.LPE_GRP_STAT_WIN win n).down F.LPE_GRP_STAT_NONE n
    let g := g.onLpe (fun l => { l with grp := Tab.set 0 l.grp n (BitVec.ofInt 32 (y win)), won := n :: without l.won n })
    g.deliver (g.rd F.LPE_GRP_CFG_DEST n) (y win) true

/-- LOOP_TRACKING of one slot (R118). -/
def slotTrack (g : Gloesk) (s : Nat) : Gloesk :=
  if !(g.on F.LPE_SLOT_CFG2_TRK_EN s) then g else
  let n := g.rd F.LPE_SLOT_CFG2_GROUP s
  let inSel := g.on F.LPE_SLOT_CFG2_GRP_EN s && g.rd F.LPE_GRP_CFG_MODE n == 2
  let tracked : Option Int :=
    if g.slotState s = 2 then some (g.heldValue s)
    else if inSel && g.rd F.LPE_GRP_STAT_WIN n != s then some (Tab.get 0 g.lpe.grp n).toInt
    else none
  match tracked with
  | none => g
  | some t =>
    let j := g.rd F.LPE_SLOT_CFG2_TRK s
    let v := g.loc s j + t - (Tab.get 0 g.lpe.yc s).toInt
    let counted := match g.lpe.window with
      | some win => has win.sat s
      | none => false
    (g.setLoc s j (satS 32 v)).iff (overS 32 v) (fun g => (g.slotSat s).iff (!counted) (·.inc F.LPE_SLOT_STAT_SATCNT s))

/-- The barrier of a tier: deliveries, selector groups, tracking (R99, R111, R117, R118). -/
def barrier (g : Gloesk) : Gloesk :=
  match g.lpe.window with
  | none => g
  | some win =>
    let mine := win.ran.filter (fun s => g.rd F.LPE_SLOT_CFG1_TIER s = win.tier)
    let g := g.each mine (fun g s => g.slotDeliver s)
    let g := g.each (below 16 (fun n => g.rd F.LPE_GRP_CFG_MODE n == 2)) (fun g n =>
      let members := g.groupRan win n win.tier
      if members.isEmpty then g else g.selectorResolve members n)
    g.each mine (fun g s => g.slotTrack s)

/-- The highest tier that holds a slot of the program. -/
def lastTier (g : Gloesk) : Nat :=
  (below 64 (fun s => g.slotState s != 0)).foldl (fun m s => max m (g.rd F.LPE_SLOT_CFG1_TIER s)) 0

/-- LOOP_TIER_BARRIER: the tier's word clocks expire, its barrier is worked off and the next tier starts. The last tier
has no barrier: it resolves at writeback (R99). -/
def tierBarrier (g : Gloesk) : Gloesk :=
  match g.lpe.window with
  | none => g
  | some w0 =>
    if g.lastTier ≤ w0.tier then g else
    let g := g.finishTier.barrier
    match g.lpe.window with
    | none => g
    | some win =>
      g.onLpe (fun l => { l with window := some { win with tier := win.tier + 1, lanes := g.tierLanes win.k (win.tier + 1) } })

/-- The arm references are 0 while LPE_CTRL.EN = 0 (R109). -/
def showAref (g : Gloesk) : Gloesk :=
  if g.on F.LPE_CTRL_EN then g else g.each (List.range 12) (fun g a => g.wr F.LPE_AREF_VAL 0 a)

/-- A delivery reaches its destination (R109, R55, R132). -/
def toDest (g : Gloesk) (d : Nat × Int × Bool) : Gloesk :=
  if 1 ≤ d.1 ∧ d.1 ≤ 12 then (if g.on F.LPE_CTRL_EN then g.wr F.LPE_AREF_VAL (ofS 32 d.2.1) (d.1 - 1) else g)
  else if d.1 = 0x10 then
    let g := g.wr F.RUL_GRIDV_V (ofS 32 d.2.1)
    { g with rul := { g.rul with grid := some d.2.1 } }
  else if 0x40 ≤ d.1 ∧ d.1 < 0x80 ∧ d.2.2 then g.flrAccumulate (d.1 - 0x40) d.2.1
  else g

/-- The engine's part of the writeback at clock 120: the remaining tiers and their barriers, then the deliveries
(R99, R109). -/
def loopWriteback (g : Gloesk) : Gloesk :=
  match g.lpe.window with
  | none => g
  | some w0 =>
    let g := g.each (List.range (g.lastTier - w0.tier)) (fun g _ => g.tierBarrier)
    let g := g.finishTier.barrier
    match g.lpe.window with
    | none => g
    | some win =>
      let g := win.out.foldl (fun (g : Gloesk) d => g.toDest d) g
      (g.onLpe (fun l => { l with window := none })).tapWindowEnd

/-! ### The staged record (R120, R121) -/

/-- The slot whose coefficient window contains an index (R121), be it IDLE. -/
def coefOwner (g : Gloesk) (i : Nat) : Option Nat :=
  (List.range 64).find? (fun s => decide (g.rd F.LPE_SLOT_COEF_CBASE s ≤ i)
    && decide (i < g.rd F.LPE_SLOT_COEF_CBASE s + g.rd F.LPE_SLOT_COEF_CCNT s))

/-- Store a coefficient. -/
def setCoef (g : Gloesk) (i v : Nat) : Gloesk :=
  g.onLpe (fun l => { l with coef := Tab.set 0 l.coef i (BitVec.ofNat 18 v) })

/-- A coefficient write, judged against the owning slot's state (R121). -/
def coefApply (g : Gloesk) (running : Bool) (closed : Nat → Bool) (i v : Nat) : Gloesk :=
  let isFixed := Tab.get false g.lpe.fixed i
  if !running then (if isFixed then g.inc F.LPE_CREJCNT_FIXED else g.setCoef i v)
  else match g.coefOwner i with
    | none => g.setCoef i v
    | some s =>
      if closed s then ((g.inc F.LPE_CREJCNT_CLOSED).up F.LPE_STATUS_CREJ).raise 33
      else if isFixed then g.inc F.LPE_CREJCNT_FIXED else g.setCoef i v

/-- An open command (R119). -/
def openSlot (g : Gloesk) (s : Nat) : Gloesk := if g.slotState s = 0 then g else g.setSlot s 2

/-- A close command (R119): the next execution is the first. -/
def closeSlot (g : Gloesk) (s : Nat) : Gloesk :=
  if g.slotState s = 2 then (g.setSlot s 1).onLpe (fun l => { l with
    first := s :: without l.first s, eccOpen := without l.eccOpen s }) else g

/-- The record of the Loop Engine applies at clock 0 (R120, R135): coefficient writes, parameters, Flourish changes,
opens, closes. -/
def lpeApply (g : Gloesk) (running : Bool) (ws : List (Nat × Nat)) : Gloesk :=
  let closed (s : Nat) : Bool := g.slotState s == 1
  let g := (ws.filter (fun w => w.1 = R.LPE_CWVAL.addr)).foldl
    (fun (g : Gloesk) w => g.coefApply running closed (w.2 / 2 ^ 18 % 4096) (w.2 % 2 ^ 18)) g
  let g := (ws.filter (fun w => R.LPE_PARAM.addr ≤ w.1 ∧ w.1 < R.LPE_PARAM.at 64)).foldl
    (fun (g : Gloesk) w => g.wr F.LPE_PARAM_VAL w.2 ((w.1 - R.LPE_PARAM.addr) / 4)) g
  let g := g.flrApply running ws
  let ops := ws.filter (fun w => w.1 = R.LPE_OPCMD.addr)
  let g := (ops.filter (fun w => bits w.2 8 2 = 1)).foldl (fun (g : Gloesk) w => g.openSlot (w.2 % 64)) g
  (ops.filter (fun w => bits w.2 8 2 = 2)).foldl (fun (g : Gloesk) w => g.closeSlot (w.2 % 64)) g

/-! ### Window, start and program access (R99, R122-R124) -/

/-- An uncorrectable error in a word or value read by slot `s` (R123, R334). -/
def loopEccUe (g : Gloesk) (s : Nat) : Gloesk :=
  let g := g.iff (g.slotState s == 1) (fun g => (g.setSlot s 2).onLpe (fun l => { l with eccOpen := s :: without l.eccOpen s }))
  ((g.up F.LPE_STATUS_ECC_UE).raise 34).suspect

/-- The window of input set `k` opens: outputs delivered before it are kept for R111, inputs are loaded, tier 0 starts.
`ce` corrected errors and the slots `ue` with an uncorrectable error are the ECC's findings in this window (R123). -/
def loopOpen (g : Gloesk) (k ce : Nat) (ue : List Nat) : Gloesk :=
  if !g.lpe.enabled then g else
  let g := g.inc F.LPE_ERRCNT_ECC_CE 0 ce
  let g := g.each (ue.filter (fun s => g.slotRuns s k)) (fun g s => g.loopEccUe s)
  let g := g.loopInputLoad
  g.onLpe (fun l => { l with
    yBefore := l.y, grpBefore := l.grp,
    window := some { k := k, tier := 0, lanes := g.tierLanes k 0, ran := [], sat := [], held := [], out := [] } })

/-- A slot of the program takes its first state (R122). -/
def slotInit (g : Gloesk) (s : Nat) : Gloesk :=
  let p := BitVec.ofNat 32 (g.rd F.LPE_SLOT_PRESET_PRESET s)
  let g := g.setSlot s (if g.rd F.LPE_SLOT_CFG0_LEN s = 0 then 0 else if g.on F.LPE_SLOT_CFG2_INIT_OPEN s then 2 else 1)
  let g := (g.setClamp s false).wr F.LPE_SLOT_STAT_HOLD 0 s |>.wr F.LPE_SLOT_STAT_WIDE (if g.slotWide s then 1 else 0) s
  g.onLpe (fun l => { l with
    locals := (List.range 16).foldl (fun t j => Tab.set 0 t (s * 16 + j) (Tab.get 0 l.initLocals (s * 16 + j))) l.locals,
    yc := Tab.set 0 l.yc s p, y := Tab.set 0 l.y s p, lastY := Tab.set 0 l.lastY s p,
    first := s :: without l.first s, lastOpen := without l.lastOpen s, eccOpen := without l.eccOpen s })

/-- The state of a slot whose LEN or words were written while the stroke cycle is stopped: IDLE out of the program
(R119), and in it the state it had, or as INIT_OPEN says where it was IDLE (R122; DESIGN CHOICE, log entry 209). -/
def slotShow (g : Gloesk) (s : Nat) : Gloesk :=
  let st := if g.rd F.LPE_SLOT_CFG0_LEN s = 0 then 0 else if g.slotState s ≠ 0 then g.slotState s
    else if g.on F.LPE_SLOT_CFG2_INIT_OPEN s then 2 else 1
  (g.setSlot s st).wr F.LPE_SLOT_STAT_WIDE (if g.slotWide s then 1 else 0) s

/-- The engine at the start of the stroke cycle (R122, R124). -/
def loopCycleStart (g : Gloesk) : Gloesk :=
  let en := g.on F.LPE_CTRL_EN
  let g := g.onLpe (fun l => { l with enabled := en, window := none })
  (g.each (List.range 64) (fun g s => g.slotInit s)).showAref

/-- The bank that LPE_XADDR.SPACE 0 names (R124): the idle one. -/
def idleBank (g : Gloesk) : Nat := 1 - g.rd F.LPE_CTRL_BANK

/-- INDEX advances after an access of XDATA0. -/
def xNext (g : Gloesk) : Gloesk := g.wr F.LPE_XADDR_INDEX (g.rd F.LPE_XADDR_INDEX + 1)

/-- The 64-bit value that LPE_XADDR selects (R124). -/
def xRead (g : Gloesk) : Nat :=
  let i := g.rd F.LPE_XADDR_INDEX
  match g.rd F.LPE_XADDR_SPACE with
  | 0 => (Tab.get 0 g.lpe.prog (g.idleBank * 8192 + i % 8192)).toNat
  | 1 => g.loopWordAt i
  | 2 => (Tab.get 0 g.lpe.coef (i % 4096)).toNat + (if Tab.get false g.lpe.fixed (i % 4096) then 2 ^ 31 else 0)
  | 3 => (Tab.get 0 g.lpe.locals (i % 1024)).toNat
  | 4 => (Tab.get 0 g.lpe.initLocals (i % 1024)).toNat
  | _ => 0

/-- A read of LPE_XDATA0 latches LPE_XDATA1 and advances INDEX (R124, R451). -/
def lpeXdataRead (g : Gloesk) (who : Nat) : Gloesk :=
  let v := g.xRead
  ((g.latch who R.LPE_XDATA1 (v / 2 ^ 32)).answer who [v % 2 ^ 32]).xNext

/-- A write of LPE_XDATA0 stores XDATA1:XDATA0, only while the stroke cycle is stopped and in SPACE 0, 2 or 4; INDEX
advances after each access (R124). A FIXED coefficient changes only through a settings bundle (R121). -/
def lpeXdataWrite (g : Gloesk) (lo : Nat) : Gloesk :=
  let i := g.rd F.LPE_XADDR_INDEX
  let v := g.rd F.LPE_XDATA1_HI * 2 ^ 32 + lo
  let g : Gloesk := if g.running then g.inc F.LPE_ERRCNT_WREJ else
    match g.rd F.LPE_XADDR_SPACE with
    | 0 => g.onLpe (fun l => { l with prog := Tab.set 0 l.prog (g.idleBank * 8192 + i % 8192) (BitVec.ofNat 64 v) })
    | 2 =>
      if Tab.get false g.lpe.fixed (i % 4096) then g.inc F.LPE_CREJCNT_FIXED
      else (g.setCoef (i % 4096) lo).onLpe (fun l => { l with fixed := Tab.set false l.fixed (i % 4096) (bit lo 31) })
    | 4 => g.onLpe (fun l => { l with initLocals := Tab.set 0 l.initLocals (i % 1024) (BitVec.ofNat 32 lo) })
    | _ => g
  g.xNext

end Gloesk

end Sys2Proof.Machine
end

