-- ==== Sys2Proof/Machine/Rank.lean ====
section
/-!
DEFINITION. The Rank Engine: standings, keys, orders, aggregates, modulation and selection (R142-R164).
-/

namespace Sys2Proof.Machine

/-- Edge steps in one stroke, Tq (R144). -/
def edgeSteps (t : Nat) : Nat := 4 * t

/-- What a cell's outputs show: the zero state, inserted with a polarity, blocked, bypassed (R146). -/
inductive CellShow where
  | zero | ins (pol : Nat) | off | byp
  deriving DecidableEq, Repr

/-- A cell's outputs at the start of a stroke whose word is `w` (R146, R200). -/
def CellWord.starts (w : CellWord) : CellShow :=
  match w.state with
  | 1 => .ins w.pol
  | 3 => .ins w.pol
  | 4 => if 0x8000 ≤ w.edge then .ins w.pol else .zero
  | 5 => .off
  | 6 => .byp
  | _ => .zero

/-- A cell's outputs at the end of that stroke (R146, R147, R200). -/
def CellWord.ends (w : CellWord) : CellShow :=
  match w.state with
  | 1 => .ins w.pol
  | 2 => .ins w.pol
  | 4 => if 0x8000 ≤ w.edge then .ins w.pol else .zero
  | 5 => .off
  | 6 => .byp
  | _ => .zero

/-- Inserted, with either polarity. -/
def CellShow.inserted : CellShow → Bool
  | .ins _ => true
  | _ => false

/-- The state, without polarity and edge. -/
def plainWord (st : Nat) : CellWord := ⟨st, 0, 0⟩

/-- The on-time of a carrier word in steps: round(cmp × Tq / 65535), ties away from 0 (R200). -/
def carrierOn (cmp tq : Nat) : Nat := (2 * cmp * tq + 65535) / 131070

/-- The last edge of a carrier stroke formed without the carrier clamp, where there is one (R154, R200). -/
def carrierLast (cmp tq : Nat) : Option Nat :=
  let w := if cmp < 0x8000 then carrierOn cmp tq else tq - carrierOn cmp tq
  if w = 0 then none else some ((tq - w) / 2 + w)

/-- Edges that a word commands in its stroke (R149), after the word `p`. -/
def CellWord.edges (p w : CellWord) : Nat :=
  match w.state with
  | 2 => 1
  | 3 => 1
  | 4 => 2
  | _ => if w.starts = p.ends then 0 else 1

/-- The step of the last edge that a word commands in its stroke, after the word `p`: none for a CARRIER word without a
pulse (R154). -/
def CellWord.lastEdge (p w : CellWord) (tq : Nat) : Option Nat :=
  let swap : Option Nat := if w.starts = p.ends then none else some 0
  match w.state with
  | 2 => some w.edge
  | 3 => some w.edge
  | 4 => carrierLast w.edge tq
  | _ => swap

/-- Insert an address into a list ordered by key, then by address. -/
def insertKey (key : Nat → Int) (x : Nat) : List Nat → List Nat
  | [] => [x]
  | y :: t => if key x < key y ∨ (key x = key y ∧ x < y) then x :: y :: t else y :: insertKey key x t

/-- The addresses in rising order of their key, ties by rising address (R148). -/
def sortKeys (key : Nat → Int) (l : List Nat) : List Nat := l.foldr (insertKey key) []

namespace Gloesk

/-- Change the Rank Engine's state. -/
def onRank (g : Gloesk) (f : RankState → RankState) : Gloesk := { g with rank := f g.rank }

/-- A cell's entry. -/
def cellRank (g : Gloesk) (x : Nat) : CellRank := Tab.get CellRank.reset g.rank.cells x

/-- Change a cell's entry. -/
def onCell (g : Gloesk) (x : Nat) (f : CellRank → CellRank) : Gloesk :=
  g.onRank (fun r => { r with cells := Tab.upd CellRank.reset r.cells x f })

/-- An arm unit. -/
def arm (g : Gloesk) (a : Nat) : ArmUnit := Tab.get ArmUnit.reset g.rank.arms a

/-- Change an arm unit. -/
def onArm (g : Gloesk) (a : Nat) (f : ArmUnit → ArmUnit) : Gloesk :=
  g.onRank (fun r => { r with arms := Tab.upd ArmUnit.reset r.arms a f })

/-- An arm is blocked (R158). -/
def armBlocked (g : Gloesk) (a : Nat) : Bool := g.on F.RNK_ARM_CTRL_BLK a || g.blt.blocks.contains a

/-- Every arm is blocked. -/
def allBlocked (g : Gloesk) : Bool := (List.range 12).all g.armBlocked

/-- RNK_BLK and the BLK_BLT bits follow the blocks. -/
def showBlocks (g : Gloesk) : Gloesk :=
  g.each (List.range 12) (fun g a =>
    (g.wrBit F.RNK_BLK_ARMS a (g.armBlocked a)).wr F.RNK_ARM_STAT_BLK_BLT (if g.blt.blocks.contains a then 1 else 0) a)

/-- The lead in effect. -/
def lead (g : Gloesk) : Nat := g.rd F.STK_CTRL_LEAD

/-- Full-bridge arm (R157). -/
def fullBridge (g : Gloesk) (a : Nat) : Bool := g.on F.RNK_ARM_CFG_TYPE a

/-- TMIN of an arm. -/
def tmin (g : Gloesk) (a : Nat) : Nat := g.rd F.RNK_ARM_TMIN_TMIN a

/-! ### Ranking (R145, R147, R148, R152) -/

/-- The SV input of set `j` that R147 names. -/
def pastInput (g : Gloesk) (j n : Nat) : Option SvInput :=
  match g.rank.past.find? (fun e => e.1 = j) with
  | none => none
  | some (_, l) => (l.find? (fun e => e.1 = n)).map (·.2)

/-- Keep the SV inputs of the set just agreed. -/
def keepInputs (g : Gloesk) (k : Nat) : Gloesk :=
  g.onRank (fun r => { r with past := keepLast 3 (r.past ++ [(k, g.svi.inputs)]) })

/-- IBAND in mA. -/
def iband (g : Gloesk) (a : Nat) : Int := (g.rd F.RNK_ARM_ISRC_IBAND a : Int) * 100

/-- Arm current and direction for the ranking of input set `k` (R147). -/
def armCurrent (g : Gloesk) (k a : Nat) : Gloesk :=
  if !(g.on F.RNK_ARM_ISRC_EN a) then (g.onArm a (fun u => { u with i := 0, lost := false })).up F.RNK_ARM_STAT_DIR a
  else
    let j := strokeMod (k + 2 ^ 48 - (600 + g.period - 1) / atLeast1 g.period)
    let g : Gloesk := match g.pastInput j (g.rd F.RNK_ARM_ISRC_STREAM a) with
      | none => g.onArm a (fun u => { u with lost := true })
      | some x => if x.state = 3 then g.onArm a (fun u => { u with lost := true }) else
        let v := nth 0 x.vals (g.rd F.RNK_ARM_ISRC_CH a)
        g.onArm a (fun u => { u with lost := false, i := if g.on F.RNK_ARM_CFG_ISIGN a then -v else v })
    let p : Int := (g.arm a).i * (if g.fullBridge a && g.on F.RNK_ARM_STAT_POL a then -1 else 1)
    let g := g.iff (decide (g.iband a ≤ p)) (·.up F.RNK_ARM_STAT_DIR a)
    g.iff (decide (p ≤ -(g.iband a))) (·.down F.RNK_ARM_STAT_DIR a)

/-- The report of a cell is taken into its entry: vc, tj, flags (R142, R147); without one the stale count rises after the
cell's first report (R145). -/
def cellReport (g : Gloesk) (k a x : Nat) : Gloesk :=
  let i := (g.arm a).i
  match g.keyWord k x with
  | 0 => g.onCell x (fun c => if c.seen then { c with stale := c.stale + 1 } else c)
  | w + 1 =>
    let von := toS 14 (bits w 14 14)
    let d : Int := von - g.rdS F.RNK_ARM_TJ0_VON0 a - ((g.rd F.RNK_ARM_TJ1_RON a : Int) * i.natAbs) / 65536
    let tj := (clampI 0 255 (d * g.rd F.RNK_ARM_TJ0_KTJ a / 256)).toNat
    let use := decide (von ≠ -8192) && decide (g.iband a ≤ i.natAbs)
    g.onCell x (fun c => { c with
      stale := 0, seen := true, flags := bits w 28 4,
      vc := satS 16 (toS 14 (bits w 0 14) * c.gain / 16384 + c.ofs), tj := if use && !g.twin.wearHold then tj else c.tj })

/-- The standing of R145: none when the cell is eligible, else the state handed to dispatch. `blocked` is the arm's
block, `ue` an uncorrectable error in the cell's entry. -/
def standingState (g : Gloesk) (blocked ue : Bool) (x : Nat) : Option Nat :=
  let c := g.cellRank x
  let st := Tab.get 0 g.rank.standing x
  if bit c.flags 0 || Tab.get 0 g.blt.marks x != 0 then some 6
  else if st = 2 then some 6
  else if blocked then some 5
  else if bit c.flags 1 || bit c.flags 2 then some 5
  else if !c.seen then some 0
  else if g.rd F.RNK_CTRL_STALE < c.stale then some 5
  else if ue then some 5
  else if st ≠ 1 then some 0
  else if bit c.flags 3 then some 0
  else if c.held then some 0
  else none

/-- The rank key of R147. -/
def rankKey (g : Gloesk) (a x : Nat) : Int :=
  let c := g.cellRank x
  let pen : Int := ((g.rd F.RNK_ARM_WGT_WTJ a * c.tj / 16 + g.rd F.RNK_ARM_WGT_WSW a * c.swc / 65536 : Nat) : Int)
    - (if c.prev.ends.inserted then (g.rd F.RNK_ARM_HYST_HYST a : Int) else 0)
  satS 24 (c.vc + (if g.on F.RNK_ARM_STAT_DIR a then pen else -pen))

/-- Health band by a count of eligible cells: 0 normal, 1 redundancy low, 2 short, 3 below minimum (R152). -/
def healthBand (g : Gloesk) (a nh : Nat) : Nat :=
  let ncap := g.rd F.RNK_ARM_CAP_NCAP a
  if ncap + g.rd F.RNK_ARM_RED_NRED a ≤ nh then 0
  else if ncap ≤ nh then 1
  else if g.rd F.RNK_ARM_CAP_NMIN a ≤ nh then 2 else 3

/-- The band of an input set, its flags and its sources (R152). Source 42 disregards the block row of R145 (R360). -/
def showBand (g : Gloesk) (a nh free : Nat) : Gloesk :=
  let b := g.healthBand a nh
  let g := (g.wr F.RNK_ARM_STAT_NH nh a).wr F.RNK_ARM_STAT_REDLOW (if b = 1 then 1 else 0) a
  let g := (g.wr F.RNK_ARM_STAT_SHORTAGE (if b = 2 then 1 else 0) a).wr F.RNK_ARM_STAT_BELOWMIN (if b = 3 then 1 else 0) a
  ((g.level 40 (b == 1) (.arm a)).level 41 (b == 2) (.arm a)).level 42 (g.healthBand a free == 3) (.arm a)

/-- An uncorrectable error in a cell's entry (R163): GAIN and OFS are those of the settings, the rest restarts, and the
last edge becomes SB(k + L + 1). -/
def rankEccUe (g : Gloesk) (k a x : Nat) : Gloesk :=
  let g := g.onCell x (fun c => { c with
    tj := 0, swc := 0, stale := 0, prev := plainWord 0, edge := some (strokeMod (k + g.lead + 1), 0) })
  ((g.up F.RNK_STATUS_ECC_UE).raise 43 (.arm a)).suspect

/-- The ranking of one arm for input set `k`; `ue` lists the cells whose entries have uncorrectable errors. -/
def rankArm (g : Gloesk) (k : Nat) (ue : List Nat) (a : Nat) : Gloesk :=
  let cells := g.cellsOf a
  let g := g.armCurrent k a
  let g := g.iff (cells.any (fun x => g.keyWord k x == 0)) (·.inc F.RNK_ARM_CNT_NOREP a)
  let g := g.each cells (fun g x => g.cellReport k a x)
  let blocked := g.armBlocked a
  let given := cells.filterMap (fun x => (g.standingState blocked (has ue x) x).map (fun s => (x, s)))
  let free := (cells.filter (fun x => g.standingState false (has ue x) x = none)).length
  let elig := cells.filter (fun x => g.standingState blocked (has ue x) x = none)
  let g := g.iff (elig.any (fun x => g.keyWord k x == 0)) (·.up F.RNK_STATUS_NOREP)
  let dir := g.on F.RNK_ARM_STAT_DIR a
  let order := sortKeys (fun x => if dir then g.rankKey a x else -(g.rankKey a x)) elig
  let g := g.each cells (fun g x => g.onCell x (fun c => { c with elig := has elig x }))
  let r : Ranking :=
    { k := k, order := order, vcs := order.map (fun x => (g.cellRank x).vc), given := given, i := (g.arm a).i,
      lost := (g.arm a).lost, charging := dir, band := g.healthBand a elig.length, pmax := 0, inserted := 0 }
  let g := g.onArm a (fun u => { u with sorting := true, ranks := keepLast 4 (u.ranks.filter (fun x => x.k ≠ k) ++ [r]) })
  let g := g.each (cells.filter (has ue)) (fun g x => g.rankEccUe k a x)
  g.showBand a elig.length free

/-! ### Aggregates (R160) -/

/-- Write an aggregate. -/
def setAgg (g : Gloesk) (a item : Nat) (v : Int) : Gloesk :=
  g.onLpe (fun l => { l with agg := Tab.set 0 l.agg (a * 8 + item) (BitVec.ofInt 32 v) })

/-- The ranking of an arm for input set `k`. -/
def rankOf (g : Gloesk) (k a : Nat) : Ranking := ((g.arm a).ranks.find? (fun r => r.k = k)).getD Ranking.empty

/-- Cells of an order pinned for target `t`: the last edge lies less than TMIN before SB(t) (R154). -/
def pinned (g : Gloesk) (a t : Nat) (o : List Nat) (ins : Bool) : List Nat :=
  o.filter (fun x =>
    let c := g.cellRank x
    c.prev.ends.inserted == ins && (match c.edge with
      | none => false
      | some (s, e) => decide (strokeDiff s t * edgeSteps g.period - e < g.tmin a)))

/-- Pmax of R151, as an integer. -/
def pmax (g : Gloesk) (a t : Nat) (o : List Nat) : Int :=
  min (g.rd F.RNK_ARM_CAP_NCAP a) ((o.length : Int) - (g.pinned a t o false).length)

/-- The cells of an arm commanded INSERT or EDGE_OUT for stroke `k`. -/
def commandedIn (g : Gloesk) (k : Nat) (x : Nat) : Bool :=
  match g.rank.hist.find? (fun e => e.1 = k) with
  | none => false
  | some (_, l) => l.any (fun e => decide (e.1 = x) && (e.2.state == 1 || e.2.state == 3))

/-- An arm's sort completes: order written to Inkwell, the ranking's aggregates fixed (R148, R150, R160). -/
def rankComplete (g : Gloesk) (a : Nat) : Gloesk :=
  if !(g.arm a).sorting then g else
  let k := g.rank.k
  let r := g.rankOf k a
  let o := r.order
  let r := { r with
    pmax := max 0 (g.pmax a (strokeMod (k + g.lead)) o),
    inserted := ((o.zip r.vcs).filter (fun e => g.commandedIn k e.1)).foldl (fun s e => s + e.2) 0 }
  let g := g.onArm a (fun u => { u with sorting := false, written := o, ranks := u.ranks.map (fun x => if x.k = k then r else x) })
  (o.zip (List.range o.length)).foldl (fun (g : Gloesk) e =>
    let at_ := g.partBase 5 + 2048 * a + 2 * e.2
    if g.inPart 5 at_ then g.store at_ 2 (2 ^ 15 + e.1) else g) g

/-- Every sort that still runs completes: no later step waits for one (R150). -/
def ranksComplete (g : Gloesk) : Gloesk := g.each (List.range 12) (fun g a => g.rankComplete a)

/-- The sorts of input set `k` complete. -/
def ranksOf (g : Gloesk) (k : Nat) : Gloesk := if g.rank.k = k then g.ranksComplete else g

/-- RANKING at the key agreement of stroke `k`: `ce` corrected errors and the cells `ue` with uncorrectable ones are the
ECC's findings in the per-cell state (R163). -/
def ranking (g : Gloesk) (k ce : Nat) (ue : List Nat) : Gloesk :=
  if !g.rank.enabled then g else
  let g := g.ranksComplete.inc F.RNK_ERRCNT_ECC_CE 0 ce
  (g.each (List.range 12) (fun g a => g.rankArm k ue a)).onRank (fun r => { r with k := k })

/-- The aggregates of an arm as the input load of the window of input set `k` reads them (R160). -/
def armAggregates (g : Gloesk) (k a : Nat) : Gloesk :=
  let u := g.arm a
  let r := g.rankOf k a
  let b (x : Bool) (n : Nat) : Nat := if x then 2 ^ n else 0
  let w := u.sel % 8 + b (r.band == 1) 3 + b (r.band == 2) 4 + b (r.band == 3) 5 + b (g.armBlocked a) 6 + b r.charging 7
    + b (g.on F.RNK_ARM_STAT_POL a) 8 + b r.lost 9 + u.pins % 1024 * 65536
  let g := (g.setAgg a 0 r.order.length).setAgg a 1 (r.vcs.foldl (· + ·) 0)
  let g := (g.setAgg a 2 r.inserted).setAgg a 3 (r.vcs.foldl min (r.vcs.headD 0))
  let g := (g.setAgg a 4 (r.vcs.foldl max (r.vcs.headD 0))).setAgg a 5 r.pmax
  (g.setAgg a 6 r.i).setAgg a 7 w

/-- The arm aggregates before the input load of the window of input set `k`. -/
def aggregates (g : Gloesk) (k : Nat) : Gloesk :=
  if !g.rank.enabled then g else (g.ranksOf k).each (List.range 12) (fun g a => g.armAggregates k a)

/-! ### Level and clip (R143, R151, R157) -/

/-- The level of an arm's reference, in 2^-16 level (R143). -/
def armLevel (g : Gloesk) (a : Nat) (r : Ranking) : Int :=
  let d : Int := if g.on F.RNK_ARM_CFG_NORM a then (if r.order.isEmpty then 0 else roundAway (r.vcs.foldl (· + ·) 0) r.order.length)
    else g.rd F.RNK_ARM_VNOM_VNOM a
  if d ≤ 0 then 0 else g.rdS F.LPE_AREF_VAL a * 256 / d

/-- The clipped level: magnitude, polarity, and the flags CLIP, SHORT, PINCLIP. -/
structure Clipped where
  mag : Nat
  pol : Nat
  clip : Bool
  short : Bool
  pin : Bool
  deriving DecidableEq, Repr

/-- The clip of R151 with the polarity rule of R157. -/
def clipLevel (g : Gloesk) (a t : Nat) (r : Ranking) : Clipped :=
  let m := g.armLevel a r
  let ncap : Int := g.rd F.RNK_ARM_CAP_NCAP a
  let pi := g.pinned a t r.order true
  let avail : Int := (r.order.length : Int) - (g.pinned a t r.order false).length
  let fb := g.fullBridge a
  let old := g.rd F.RNK_ARM_STAT_POL a
  let want := if m = 0 then old else if m < 0 then 1 else 0
  let defer := fb && want != old && pi.any (fun x => (g.cellRank x).prev.ends == CellShow.ins old)
  let mag : Int := if fb then m.natAbs else m
  let pmin : Int := if !fb && decide (m < 0) then 0 else pi.length
  let x := min mag (min ncap avail * 65536)
  { mag := if defer then pi.length * 65536 else (max x (pmin * 65536)).toNat,
    pol := if !fb then 0 else if defer then old else want,
    clip := decide (mag < 0) || decide (ncap * 65536 < mag),
    short := decide (avail < ncap) && decide (avail * 65536 < mag),
    pin := defer || decide (0 < pmin ∧ x < pmin * 65536) }

/-! ### Selection (R153-R158) -/

/-- The cells inserted for the whole stroke, the edge or trim cell, its on-time or compare value, and the residue. -/
structure Pick where
  full : List Nat
  edge : Option Nat
  ton : Nat
  cmp : Nat
  res : Int
  deriving DecidableEq, Repr

/-- Edge-placed mode (R153): `n` whole levels and the fraction `f`. -/
def pickEdge (g : Gloesk) (a t : Nat) (o : List Nat) (n f : Nat) : Pick :=
  let pi := g.pinned a t o true
  let pr := g.pinned a t o false
  let tq : Int := edgeSteps g.period
  let tm : Int := g.tmin a
  let free := o.filter (fun x => !(has pi x) && !(has pr x))
  let full := pi ++ free.take (n - pi.length)
  let q : Int := (f : Int) * tq + g.rdS F.RNK_ARM_RES_RES a
  let t0 := roundAway q 65536
  let t1 := if 2 * t0 < tm then 0 else if t0 < tm then tm else t0
  let t2 := if 2 * (tq - t1) < tm then tq else if tq - t1 < tm then tq - tm else t1
  let edge := o.find? (fun x => !(has full x))
  let ton : Int := match edge with
    | none => 0
    | some x => if t2 = tq ∧ has pr x then tq - tm else t2
  let q : Int := if edge.isNone then 0 else q
  let res := clampI (-(tm * 65536)) (tm * 65536) (q - ton * 65536)
  if ton = tq then ⟨full ++ edge.toList, none, ton.toNat, 0, res⟩
  else if ton = 0 then ⟨full, none, 0, 0, res⟩
  else ⟨full, edge, ton.toNat, 0, res⟩

/-- Trim-cell mode (R155). -/
def pickTrim (g : Gloesk) (a t : Nat) (o : List Nat) (n f : Nat) : Pick × ArmUnit :=
  let u := g.arm a
  let pi := g.pinned a t o true
  let pr := g.pinned a t o false
  let loose (x : Nat) : Bool := !(has pi x) && !(has pr x)
  let prev := u.trim.filter (fun x => has o x && loose x)
  let need := n - pi.length
  let rest := o.filter (fun x => loose x && prev != some x)
  let short := decide (rest.length < need)
  let full := pi ++ (if short then o.filter loose else rest).take need
  let prev := if short then none else prev
  let age := u.trimAge + 1
  let keep := prev.filter (fun _ => decide (age < atLeast1 (g.rd F.RNK_ARM_RED_TRIMHOLD a)))
  let trim := match keep with
    | some x => some x
    | none => (o.drop n).find? (fun x => loose x && !(has full x))
  let cmp := if trim.isSome then f else 0
  (⟨full, trim, if trim.isSome then carrierOn cmp (edgeSteps g.period) else 0, cmp, 0⟩,
    { u with trim := trim, trimAge := if keep.isSome then age else 0 })

/-- Nearest-level mode (R156). -/
def pickNearest (g : Gloesk) (a t : Nat) (o : List Nat) (mag : Nat) : Pick :=
  let pi := g.pinned a t o true
  let pr := g.pinned a t o false
  let n := min ((mag + 0x8000) / 65536) (g.pmax a t o).toNat
  ⟨pi ++ (o.filter (fun x => !(has pi x) && !(has pr x))).take (n - pi.length), none, 0, 0, 0⟩

/-- The word content of an eligible cell (R146, R153, R155, R157). -/
def pickWord (g : Gloesk) (a : Nat) (p : Pick) (pol : Nat) (x : Nat) : CellWord :=
  if p.edge = some x then
    if g.rd F.RNK_ARM_CFG_MODE a = 1 then ⟨4, pol, p.cmp⟩
    else if (g.cellRank x).prev.ends = CellShow.ins pol then ⟨3, pol, p.ton⟩
    else ⟨2, pol, edgeSteps g.period - p.ton⟩
  else if has p.full x then ⟨1, pol, 0⟩ else plainWord 0

/-- The registers that report a selection (R153, R158, R164). -/
def showPick (g : Gloesk) (a : Nat) (m : Int) (p : Pick) : Gloesk :=
  ((g.wrS F.RNK_ARM_LEVEL_M m a).wrS F.RNK_ARM_RES_RES p.res a).setReg R.RNK_ARM_EDGE
    (match p.edge with
      | none => p.ton % 2 ^ 14 * 2 ^ 16
      | some x => x + 2 ^ 13 + p.ton % 2 ^ 14 * 2 ^ 16) a

/-- Selection of one arm for target `t`: words of its cells, and the arm's new state (R151-R158). -/
def selectArm (g : Gloesk) (k t a : Nat) : Gloesk × List (Nat × CellWord) :=
  let cells := g.cellsOf a
  let u := g.arm a
  let r := g.rankOf k a
  let o := r.order
  let known (x : Nat) : Option Nat :=
    if has o x then none
    else match r.given.find? (fun e => e.1 = x) with
      | some (_, s) => some s
      | none => some 0
  if g.armBlocked a then
    let g := g.onArm a (fun u => { u with trim := none, trimAge := 0, sel := 0, pins := 0 })
    (g.showPick a 0 ⟨[], none, 0, 0, 0⟩, cells.map (fun x => (x, plainWord (if known x = some 6 then 6 else 5))))
  else
    let c := g.clipLevel a t r
    let n := c.mag / 65536
    let f := c.mag % 65536
    let pins := (g.pinned a t o true).length + (g.pinned a t o false).length
    let (p, u) := match g.rd F.RNK_ARM_CFG_MODE a with
      | 1 => g.pickTrim a t o n f
      | 2 => (g.pickNearest a t o c.mag, { u with trim := none })
      | _ => (g.pickEdge a t o n f, { u with trim := none })
    let mag := if g.rd F.RNK_ARM_CFG_MODE a = 1 then n * 65536 + p.cmp else c.mag
    let words := cells.map (fun x => (x, match known x with
      | some s => plainWord s
      | none => g.pickWord a p c.pol x))
    let g := g.onArm a (fun _ => { u with
      sel := (if c.clip then 1 else 0) + (if c.short then 2 else 0) + (if c.pin then 4 else 0), pins := pins })
    let g := g.iff c.clip (fun g => (g.up F.RNK_ARM_STAT_CLIP a).inc F.RNK_ARM_CNT_CLIPCNT a)
    let g := (g.iff c.short (·.up F.RNK_ARM_STAT_SHORT a)).iff c.pin (·.up F.RNK_ARM_STAT_PINCLIP a)
    ((g.wr F.RNK_ARM_STAT_POL c.pol a).showPick a (if c.pol = 1 then -(mag : Int) else mag) p, words)

/-- A selection is fixed: switching count, last edge and prev of a cell (R149, R154, R161); a wear hold freezes the count
(R351). -/
def commitCell (g : Gloesk) (t a : Nat) (x : Nat) (w : CellWord) : Gloesk :=
  let dec := min 23 (g.rd F.RNK_ARM_HYST_SWDEC a)
  let tq := edgeSteps g.period
  g.onCell x (fun c => { c with
    swc := if g.twin.wearHold then c.swc else satU 24 (c.swc - c.swc / 2 ^ dec + g.rd F.RNK_ARM_HYST_SWINC a * CellWord.edges c.prev w),
    prev := w,
    edge := match c.edge, CellWord.lastEdge c.prev w tq with
      | some (s, e), none => some (s, e)
      | some (s, e), some n => if 0 < strokeDiff t s then some (s, e) else some (t, n)
      | none, some n => some (t, n)
      | none, none => none })

/-- Modulation and selection of every arm for input set `k`, target k + L (R150); the states are handed to dispatch. -/
def selection (g : Gloesk) (k : Nat) : Gloesk :=
  if !g.rank.enabled then g else
  let t := strokeMod (k + g.lead)
  let g := g.ranksOf k
  let (g, all) := (List.range 12).foldl (fun (x : Gloesk × List (Nat × CellWord)) a =>
    let (g, ws) := x.1.selectArm k t a
    (ws.foldl (fun (g : Gloesk) e => g.commitCell t a e.1 e.2) g, x.2 ++ ws)) (g, [])
  let g := g.onRank (fun r => { r with hist := keepLast 10 (r.hist ++ [(t, all)]) })
  { g with disp := { g.disp with handed := all, target := t } }

/-! ### Records, start and register access (R53, R158, R159, R161, R162, R164) -/

/-- A valid cell address (R11). -/
def addrValid (x : Nat) : Bool := decide (x < 8192) && decide (x % 256 < 192)

/-- A hold-out or return command takes effect (R162). -/
def holdApply (g : Gloesk) (x act : Nat) : Gloesk :=
  if !(addrValid x) || !(g.assigned x) then g.up F.RNK_STATUS_HOREJ
  else g.onCell x (fun c => { c with held := act == 1 })

/-- A staged write of BLK takes effect: a block at once, a release unless the Blotter blocks the arm (R159). -/
def blkApply (g : Gloesk) (a v : Nat) : Gloesk :=
  if v = 1 then (g.up F.RNK_ARM_CTRL_BLK a).showBlocks
  else if g.blt.blocks.contains a then (g.inc F.RNK_ARM_CNT_RELREJ a).up F.RNK_STATUS_RELREJ
  else (g.down F.RNK_ARM_CTRL_BLK a).showBlocks

/-- The arm whose register lies at an address of an RNK_ARM word. -/
def armAt (r : Reg) (addr : Nat) : Option Nat := (List.range 12).find? (fun a => r.at a = addr)

/-- One staged write of the RNK block takes effect (R162). -/
def rnkApply (g : Gloesk) (addr v : Nat) : Gloesk :=
  if addr = R.RNK_HOCMD.addr then g.holdApply (v % 8192) (bits v 16 2)
  else match armAt R.RNK_ARM_CTRL addr with
  | some a => g.blkApply a (v % 2)
  | none => match armAt R.RNK_ARM_ISRC addr with
    | some a => g.wr F.RNK_ARM_ISRC_IBAND (bits v 16 16) a
    | none => match armAt R.RNK_ARM_WGT addr with
      | some a => (g.wr F.RNK_ARM_WGT_WTJ (bits v 0 12) a).wr F.RNK_ARM_WGT_WSW (bits v 16 12) a
      | none => match armAt R.RNK_ARM_HYST addr with
        | some a => g.wr F.RNK_ARM_HYST_HYST (bits v 0 14) a
        | none => g

/-- The arm units at the start of the stroke cycle (R161, R164). -/
def rankCycleStart (g : Gloesk) : Gloesk :=
  let cells := g.rank.cells
  let g := g.onRank (fun r => { r with enabled := g.on F.RNK_CTRL_EN })
  g.each (cells.map (·.1)) (fun g x => g.onCell x (fun c => { c with
    tj := 0, swc := 0, prev := plainWord 0, edge := none, stale := 0, seen := false, flags := 0, elig := false }))

/-- Every arm is blocked by its own bit: the stop of the stroke cycle (R158). -/
def blockAll (g : Gloesk) : Gloesk := (g.each (List.range 12) (fun g a => g.up F.RNK_ARM_CTRL_BLK a)).showBlocks

/-- CXDATA0 and CXDATA1 as RNK_CXADDR selects them (R164). -/
def cxData (g : Gloesk) : Nat × Nat :=
  let i := g.rd F.RNK_CXADDR_INDEX
  let c := g.cellRank i
  match g.rd F.RNK_CXADDR_SPACE with
  | 0 => if addrValid i then (c.gain + ofS 12 c.ofs * 65536, 0) else (0, 0)
  | 1 => if !(addrValid i) || !(g.assigned i) then (0, 0) else
    let e := match c.edge with
      | none => 0
      | some (_, e) => e % 2 ^ 14
    (c.swc, c.tj + c.prev.state * 256 + c.prev.pol * 2048 + min c.stale 15 * 4096 + e * 65536
      + (if c.held then 2 ^ 30 else 0) + (if c.elig then 2 ^ 31 else 0))
  | 2 => match ((g.arm (i / 1024)).written)[i % 1024]? with
    | some x => (x + 65536, 0)
    | none => (0, 0)
  | _ => (0, 0)

/-- INDEX advances after every access of CXDATA0. -/
def cxNext (g : Gloesk) : Gloesk := g.wr F.RNK_CXADDR_INDEX (g.rd F.RNK_CXADDR_INDEX + 1)

/-- A read of RNK_CXDATA0 latches RNK_CXDATA1 (R164, R451). -/
def cxRead (g : Gloesk) (who : Nat) : Gloesk :=
  ((g.latch who R.RNK_CXDATA1 g.cxData.2).answer who [g.cxData.1]).cxNext

/-- A write of RNK_CXDATA0: calibration in space 0, while the stroke cycle is stopped (R162, R164). -/
def cxWrite (g : Gloesk) (v : Nat) : Gloesk :=
  let i := g.rd F.RNK_CXADDR_INDEX
  let g : Gloesk := if g.rd F.RNK_CXADDR_SPACE ≠ 0 then g
    else if g.running then g.inc F.RNK_ERRCNT_WREJ
    else if addrValid i then g.onCell i (fun c => { c with gain := v % 65536, ofs := toS 12 (bits v 16 12) })
    else g
  g.cxNext

end Gloesk

end Sys2Proof.Machine
end

