-- ==== Sys2Proof/Machine/Words.lean ====
section
/-!
DEFINITION. Stroke dispatch on the Gloesk: words, word sets, word frames, output digest (R165-R167, R187, R315, R333).
-/

namespace Sys2Proof.Machine

/-- Bits [95:0] of a stroke word (R165). -/
def wordBits (claim twin t addr : Nat) (w : CellWord) : Nat :=
  w.state % 8 + w.pol % 2 * 2 ^ 3 + w.edge % 2 ^ 16 * 2 ^ 4 + claim % 2 ^ 16 * 2 ^ 20 + twin % 2 * 2 ^ 36
    + t % 2 ^ 32 * 2 ^ 48 + addr % 2 ^ 13 * 2 ^ 80

/-- One bit of the CRC-64 of ECMA-182, most significant bit first (R333). -/
def crc64Bit (c : Nat) : Nat :=
  if c.testBit 63 then (c * 2 % 2 ^ 64) ^^^ 0x42F0E1EBA9EA3693 else c * 2 % 2 ^ 64

/-- One byte of it. -/
def crc64Byte (c b : Nat) : Nat := (List.range 8).foldl (fun c _ => crc64Bit c) (c ^^^ (b % 256 * 2 ^ 56))

/-- CRC-64 of a byte list, initial value 0, no final XOR (R333). -/
def crc64 (l : List Nat) : Nat := l.foldl crc64Byte 0

namespace Gloesk

/-- Change the dispatch state. -/
def onDisp (g : Gloesk) (f : DispatchState → DispatchState) : Gloesk := { g with disp := f g.disp }

/-- The populated cells of the listed pairs, in rising address (R10, R166). -/
def stationAddrs (g : Gloesk) : List Nat :=
  (below 32 (fun h => g.map.pairs.contains h)).flatMap (fun h =>
    (below 192 (fun c => bit (Tab.get 0 g.map.population h) c || bit (Tab.get 0 g.map.population (32 + h)) c)).map
      (fun c => h * 256 + c))

/-- The direct table entry of a cell (R167); an entry outside its partition, or poisoned, is not valid. -/
def directEntry (g : Gloesk) (x : Nat) : Nat :=
  let a := g.partBase 6 + g.rd F.STK_DBASE_OFS + 4 * x
  if g.inPart 6 a && !(g.poisoned a 4) then g.peek a 4 else 0

/-- The content of one word for target `t` (R166). -/
def wordOf (g : Gloesk) (t x : Nat) : CellWord :=
  if Tab.get 0 g.rank.standing x = 2 then plainWord 6
  else if g.assigned x then
    if g.disp.target = t then ((g.disp.handed.find? (fun e => e.1 = x)).map (·.2)).getD (plainWord 5) else plainWord 5
  else
    let e := g.directEntry x
    if bit e 31 then ⟨bits e 0 3, bits e 3 1, bits e 4 16⟩ else plainWord 5

/-- A direct word whose edge lies outside its stroke (R167). -/
def directOut (g : Gloesk) (x : Nat) (w : CellWord) : Bool :=
  !(g.assigned x) && (w.state == 2 || w.state == 3) && decide (edgeSteps g.period ≤ w.edge)

/-- The claim that the words of input set `k` carry (R345). -/
def wordClaim (g : Gloesk) (k : Nat) : Nat :=
  match g.twin.oldClaim with
  | some (k0, c) => if 0 < strokeDiff k k0 then c else g.claim
  | none => g.claim

/-- Write one lane's word set (R314, R315). -/
def wordSet (g : Gloesk) (k t lane : Nat) (ws : List (Nat × CellWord)) : Gloesk :=
  let base := stagingAddr (g.laneBank lane) (0x20000 + 0x2000 * (t % 4))
  let c := g.wordClaim k
  ((g.ports lane).foldl (fun (g : Gloesk) p =>
    match ws.find? (fun e => e.1 = lane % 32 * 256 + p) with
    | none => g
    | some (x, w) => g.store (base + 16 * p) 16 (wordBits c g.twinNo t x w)) g)

/-- DISPATCH_WRITE: the words of input set `k`, target k + L (R166, R167, R315). -/
def dispatchWrite (g : Gloesk) (k : Nat) : Gloesk :=
  let t := strokeMod (k + g.lead)
  let ws := g.stationAddrs.map (fun x => (x, g.wordOf t x))
  let out := (ws.filter (fun e => g.directOut e.1 e.2)).length
  let g := g.iff (decide (0 < out)) (fun g => ((g.up F.STK_STATUS_EOUT).inc F.STK_ERRCNT_EOUT 0 out).raise 89)
  let g := g.onDisp (fun d => { d with built := keepLast 4 (d.built ++ [(t, ws)]) })
  g.each g.lanes (fun g l => g.wordSet k t l ws)

/-- The words built for a target. -/
def builtFor (g : Gloesk) (t : Nat) : List (Nat × CellWord) :=
  ((g.disp.built.find? (fun e => e.1 = t)).map (·.2)).getD []

/-- This twin sends the word frames of input set `k` (R20, R340, R345). -/
def sendsWords (g : Gloesk) (k : Nat) : Bool :=
  (g.role == roleActive && decide (strokeDiff k g.twin.sendFrom ≤ 0)) || (match g.twin.sendTo with
    | none => false
    | some j => g.role != roleActive && decide (0 ≤ strokeDiff k j))

/-- The word frame of one lane (R165, R174, R187): dropped whole in a settling window; sent while its transmitter is in
DATA. A poisoned word set leaves with a failing tag (R309). -/
def wordFrame (g : Gloesk) (k l : Nat) : Gloesk :=
  let t := strokeMod (k + g.lead)
  if g.hubStranger l then g
  else if g.rd F.LAN_L_STAT_TXST l = 4 then
    let g := if l < 32 then g.wrBit F.STK_SDROP0_LANE l true else g.wrBit F.STK_SDROP1_LANE (l - 32) true
    ((g.up F.STK_STATUS_SETTLE).inc F.STK_ERRCNT_SETTLE).raise 84
  else if g.rd F.LAN_L_STAT_TXST l ≠ 3 then g
  else
    let base := stagingAddr (g.laneBank l) (0x20000 + 0x2000 * (t % 4))
    let bad := (g.ports l).any (fun p => g.poisoned (base + 16 * p) 16)
    g.frame l 0x02 t (g.wordClaim k) (g.ports l).length [packed 128 ((g.ports l).map (fun p => g.peek (base + 16 * p) 16))] bad

/-! ### The output digest (R333) -/

/-- WCRC over the words built for a target, claim and twin taken as 0. -/
def wordCrc (g : Gloesk) (t : Nat) : Nat :=
  crc64 ((g.builtFor t).flatMap (fun e => (List.range 12).map (fun i => wordBits 0 0 t e.1 e.2 / 256 ^ i % 256)))

/-- The Ruling velocity for the next stroke. -/
def nextVel (g : Gloesk) : Int := g.sourceVel g.segmentStep.2

/-- The output record of R333. -/
def outputRecord (g : Gloesk) : List Nat :=
  (List.range 12).map (fun a => g.rd F.LPE_AREF_VAL a) ++ (List.range 32).map (fun n => g.rd F.LPE_QRES_VAL n)
    ++ [ofS 32 g.nextVel, g.srcAct]
    ++ (List.range 12).flatMap (fun a => [g.reg R.RNK_ARM_RES a, g.reg R.RNK_ARM_EDGE a])
    ++ (below 32 (fun n => g.on F.SVI_GP_CFG_EN n)).flatMap (fun n => [g.rd F.SVI_GP_STNUM_STNUM n, g.rd F.SVI_GP_SQNUM_SQNUM n])

/-- SCRC over the output record. -/
def outputCrc (g : Gloesk) : Nat :=
  crc64 (g.outputRecord.flatMap (fun w => (List.range 4).map (fun i => w / 256 ^ i % 256))) % 2 ^ 48

/-- This twin's digest of input set `k` (R333). -/
def digestOf (g : Gloesk) (k : Nat) : Digest :=
  ⟨g.wordCrc (strokeMod (k + g.lead)), g.outputCrc, g.on F.TWN_STATUS_SUSP, g.twin.noPeer, g.twin.valm⟩

/-! ### The lead conditions (R18, R181) -/

/-- Quotient rounded to the nearest whole number. -/
def nearest (num den : Nat) : Nat := (2 * num + den) / (2 * den)

/-- The number of cells on the most loaded hub, and in the largest arm. -/
def maxHub (g : Gloesk) : Nat := g.lanes.foldl (fun m l => max m (g.ports l).length) 0
def maxArm (g : Gloesk) : Nat := (List.range 12).foldl (fun m a => max m (g.cellsOf a).length) 0

/-- Q(n, a) in ns, each of its times rounded to the nearest ns (R181). -/
def chainQ (n a : Nat) : Nat :=
  let k := nearest ((32 * n + 128) * 10) 514
  let r := nearest ((192 * n + 256) * 10) 514
  let d := nearest ((128 * n + 128) * 10) 514
  let rk := nearest ((32 + (3 * a + 7) / 8) * 5) 4
  max (r + 300) (k + 120 + rk) + 200 + d

/-- The right-hand side of the exact condition of R181 in ns, rounded up. -/
def chainNeed (g : Gloesk) : Nat :=
  let tenths20 := (g.rd F.STK_WOFS_W + chainQ g.maxHub g.maxArm + 50) * 20
    + 98 * g.rd F.STK_FIBRE_F + 196 * g.rd F.STK_FIBRE_G + 25 * g.rd F.LPE_WIN_EXT
  (tenths20 + 19) / 20

/-- Both lead conditions hold (R18 with its constant 260 ns + Q and the extension of R100, R181). -/
def chainOk (g : Gloesk) : Bool :=
  decide (g.chainNeed ≤ g.lead * g.period)
    && decide ((260 + chainQ g.maxHub g.maxArm) * 20 + 196 * g.rd F.STK_FIBRE_F + 196 * g.rd F.STK_FIBRE_G
      + 25 * g.rd F.LPE_WIN_EXT ≤ g.lead * g.period * 20)

/-- STK_CHAIN shows the conditions (R190). -/
def showChain (g : Gloesk) : Gloesk :=
  (g.wr F.STK_CHAIN_NEED (satU 16 g.chainNeed)).wr F.STK_CHAIN_OK (if g.chainOk then 1 else 0)

end Gloesk

end Sys2Proof.Machine
end

