-- ==== Sys2Proof/Machine/Twin.lean ====
section
/-!
DEFINITION. Twin operation: heartbeats, takeover, digests, split brain, handover, drills and takeback (R326-R348).
-/

namespace Sys2Proof.Machine

namespace Gloesk

/-- Change the twin state. -/
def onTwin (g : Gloesk) (f : TwinState → TwinState) : Gloesk := { g with twin := f g.twin }

/-- This twin is treated as preferred (R327). -/
def preferred (g : Gloesk) : Bool := if g.twin.prefClash then g.twinNo == 0 else g.on F.TWN_STATUS_PREF

/-- A RECORD frame to the partner in the layout of STATE (R175): the target's low word is the offset field (DESIGN CHOICE, log entry
212). -/
def sendRecord (g : Gloesk) (blk target : Nat) (ws : List (Nat × Nat)) : Gloesk :=
  g.ligature 0x26 (stateBody blk (target % 2 ^ 32) ((target / 2 ^ 32) :: ws.flatMap (fun w => [w.1, w.2])))

/-- The twin becomes ACTIVE with claim CLMAX + 1 and sends words from input set `k` (R331). -/
def goActive (g : Gloesk) (k : Nat) : Gloesk :=
  ((g.enterRole roleActive).takeClaim.claimLead).onTwin
    (fun t => { t with sendFrom := k, sendTo := none, oldClaim := none })

/-- The twin becomes OUT_OF_STEP by R335; a join follows under AUTOJOIN. -/
def fallOut (g : Gloesk) : Gloesk :=
  (g.enterRole roleOut).iff (g.on F.TWN_CTRL_AUTOJOIN) (·.onTwin (fun t => { t with joinReq := true }))

/-! ### Handover (R344, R345) -/

/-- What refuses a handover (R344): a handover ordered or running, the stroke cycle stopped, a partner or this twin not in
the role it needs, a suspect incoming twin. -/
def hoBlocked (g : Gloesk) (incoming : Bool) : Bool :=
  g.twin.handover.isSome || !g.running || !g.peerAlive
    || (if incoming then g.role != roleStandby || g.twin.peerRole != roleActive || g.on F.TWN_STATUS_SUSP
        else g.role != roleActive || g.twin.peerRole != roleStandby || g.twin.peerSusp)

/-- A refusal of R344. -/
def hoReject (g : Gloesk) : Gloesk := (g.up F.TWN_STATUS_HO_REJ).inc F.TWN_ERRCNT_HOREJ

/-- Order a handover for input set `s`. -/
def hoOrder (g : Gloesk) (s : Nat) (incoming outAfter : Bool) : Gloesk :=
  if g.hoBlocked incoming || g.twin.plan.isSome then g.hoReject
  else g.onTwin (fun t => { t with plan := some ⟨s, incoming, outAfter⟩, drillDue := false })

/-- A handover started by hardware: committed for the input set 16 strokes ahead and sent in a RECORD frame (R344). -/
def hoCommit (g : Gloesk) (incoming : Bool) : Gloesk :=
  let s := strokeMod (g.stroke + 16)
  let g' := g.hoOrder s incoming false
  if g.twin.plan.isNone && g'.twin.plan.isSome then g'.sendRecord Blk.twn.idx s [(R.TWN_CTRL.addr, 1)] else g'

/-- The handover ends on this twin: HO_RUN falls, vector 2, the drill interval restarts (R347, R452). -/
def hoEnd (g : Gloesk) : Gloesk :=
  let ran := g.twin.handover.isSome
  let g := g.onTwin (fun t => { t with handover := none, plan := none, drillFrom := g.ns })
  if ran then (g.down F.TWN_STATUS_HO_RUN).msix 2 else g

/-- HANDOVER_START at input set `k` (R345). -/
def hoBegin (g : Gloesk) (k : Nat) : Gloesk :=
  match g.twin.plan with
  | none => g
  | some p =>
    if strokeDiff p.start k < 0 then g else
    let g := g.onTwin (fun t => { t with plan := none })
    if g.hoBlocked p.incoming then g.hoReject else
    let c := (g.rd F.TWN_CLAIM_CLMAX + 1) % 65536
    let h : Handover := { start := p.start, incoming := p.incoming, oldClaim := g.claim, newClaim := c, okRun := 0,
                          outAfter := p.outAfter, seen := [] }
    let g := (g.up F.TWN_STATUS_HO_RUN).msix 2
    let g := if p.incoming then g.goActive k else g
    (g.onTwin (fun t => { t with handover := some h })).peerTurns roleActive

/-- The pair's claim c' as this twin knows it. -/
def hoClaim (g : Gloesk) (h : Handover) : Nat :=
  if h.incoming then g.claim
  else if higher (g.rd F.TWN_PEER_CLAIM) h.oldClaim then g.rd F.TWN_PEER_CLAIM else h.newClaim

/-- The number of the incoming twin. -/
def hoTwin (g : Gloesk) (h : Handover) : Nat := if h.incoming then g.twinNo else 1 - g.twinNo

/-- The pairs (CLAIM_ACC, TWIN_ACC) of the agreed cell reports (R168). -/
def accPairs (g : Gloesk) : List (Nat × Nat) :=
  g.svi.remAgreed.map (fun e => (bits (e.2 - 1) 58 16, bits (e.2 - 1) 74 1))

/-- The last ECHO of a lane. -/
def echoOf (g : Gloesk) (l : Nat) : Option Echo := (g.twin.echoes.find? (fun e => e.1 = l)).map (·.2.2)

/-- The failure path of R345 after input set `k`; the incoming twin takes the role `r`. -/
def hoFail (g : Gloesk) (k r : Nat) (h : Handover) : Gloesk :=
  let c := (g.hoClaim h + 1) % 65536
  let g := (g.inc F.TWN_HOCNT_HOFAIL).hoEnd
  if h.incoming then
    let g := (g.seeClaim c).onTwin (fun t => { t with sendTo := some k })
    (if r = roleOut then g.fallOut else g.enterRole r).peerTurns roleActive
  else
    let g := g.onTwin (fun t => { t with oldClaim := some (strokeMod (k + 1), g.claim) })
    ((g.wr F.TWN_CLAIM_CLAIM c).seeClaim c).peerTurns r

/-- The deadline passed without success (R345). -/
def hoLate (g : Gloesk) (k : Nat) (h : Handover) : Gloesk :=
  let silent := g.lanes.filter (fun l => !(has h.seen l))
  let g := (g.up F.TWN_STATUS_LATENT).raise 72
  let g := g.each silent (fun g l => if l < 32 then g.wrBit F.TWN_LATHUB0_HUB l true else g.wrBit F.TWN_LATHUB1_HUB (l - 32) true)
  g.hoFail k roleStandby h

/-- The handover succeeds at input set `k` (R345). -/
def hoDone (g : Gloesk) (k : Nat) (h : Handover) : Gloesk :=
  let g := (g.inc F.TWN_HOCNT_DRILLS).hoEnd
  if h.incoming then g.peerTurns (if h.outAfter then roleOut else roleStandby)
  else
    let g := g.onTwin (fun t => { t with sendTo := some k })
    (if h.outAfter then g.fallOut else g.enterRole roleStandby).peerTurns roleActive

/-- HANDOVER_EVALUATE at input set `k` (R345). -/
def hoEval (g : Gloesk) (k : Nat) : Gloesk :=
  match g.twin.handover with
  | none => g
  | some h =>
    let first := strokeMod (h.start + g.lead)
    let seen := g.lanes.filter (fun l => match g.echoOf l with
      | none => false
      | some e => if g.hoTwin h = 0 then e.u0 else e.u1)
    let h := { h with seen := h.seen ++ seen.filter (fun l => !(has h.seen l)) }
    if strokeDiff first k < 0 then g.onTwin (fun t => { t with handover := some h }) else
    let c := g.hoClaim h
    let n := g.hoTwin h
    let ok := g.accPairs.all (fun p => p == (c, n)) && g.lanes.all (fun l => match g.echoOf l with
      | none => false
      | some e => e.claim == c)
    let h := { h with okRun := if ok then h.okRun + 1 else 0 }
    let g := g.onTwin (fun t => { t with handover := some h })
    if atLeast1 (g.rd F.TWN_CFG_EVN) ≤ h.okRun then g.hoDone k h
    else if (g.rd F.TWN_CFG_OVL : Int) ≤ strokeDiff first k then g.hoLate k h
    else g

/-- HANDOVER_DEADLINE: the overlap has ended without success (R345). -/
def hoDeadline (g : Gloesk) (k : Nat) : Gloesk :=
  match g.twin.handover with
  | none => g
  | some h => g.hoLate k h

/-- TWN_CTRL.HANDOVER at its target (R344): the STANDBY twin is the incoming one. -/
def hoHost (g : Gloesk) : Gloesk := g.hoOrder g.stroke (g.role == roleStandby) false

/-- The drill interval has expired (R344, R347). -/
def drill (g : Gloesk) : Gloesk :=
  if !(g.on F.TWN_CTRL_DRILL_EN) || g.role != roleActive then g
  else if g.hoBlocked false || g.twin.plan.isSome then g.hoReject.onTwin (fun t => { t with drillDue := true })
  else g.hoCommit false

/-- Revertive takeback (R348): the preferred standby is the incoming twin. The active twin commits the record too, for the
same input set (R344). -/
def revert (g : Gloesk) : Gloesk :=
  if !(g.on F.TWN_CTRL_REVERT) then g
  else if g.role = roleStandby then (if !g.preferred || g.on F.TWN_STATUS_SUSP then g else g.hoCommit true)
  else if g.role = roleActive ∧ !g.preferred ∧ g.peerIs roleStandby then g.hoCommit false
  else g

/-- At a stroke boundary: a refused drill is retried, and NEXT shows the minutes that remain (R344, R347). -/
def drillBoundary (g : Gloesk) : Gloesk :=
  let g := if g.twin.drillDue && g.role == roleActive && !(g.hoBlocked false) && g.twin.plan.isNone then g.hoCommit false else g
  let left : Int := (g.rd F.TWN_DRILL_INTV : Int) * 60 - ((g.ns - g.twin.drillFrom) / 60000000000 : Nat)
  let show_ := g.on F.TWN_CTRL_DRILL_EN && g.role == roleActive
  g.wr F.TWN_DRILL_NEXT (if show_ then satU 16 left.toNat else 0)

/-! ### Heartbeats (R326, R337-R340) -/

/-- HEARTBEAT_SEND: on H1 and on every populated hub lane (R176, R337). -/
def heartbeatSend (g : Gloesk) : Gloesk :=
  let b := heartBody g.claim g.twinNo g.role (g.rd F.TWN_STATUS_PREF) g.stroke g.twin.seq
  let g := g.ligature 0x20 b
  (g.each g.lanes (fun g l => g.hubFrame l 0x03 b)).onTwin (fun t => { t with seq := (t.seq + 1) % 65536 })

/-- The partner's heartbeat is counted on a path (R327, R329, R331, R337, R339). -/
def heartCount (g : Gloesk) (path : Nat) (h : Heart) : Gloesk :=
  let g := g.onTwin (fun t => { t with counted := t.counted ++ [(path, h.stroke)] })
  let g : Gloesk := if path = 0 then g.onTwin (fun t => { t with lastH1 := h.seq + 1 }) else g.onTwin (fun t => { t with lastH2 := h.seq + 1 })
  let g := g.seeClaim h.claim
  let old := match g.twin.heard with
    | none => false
    | some s => decide (0 < strokeDiff h.stroke s)
  if old then g else
  let was := g.twin.peerRole
  let g := g.onTwin (fun t => { t with heard := some h.stroke, failed := false, peerRole := h.role })
  let g := (g.wr F.TWN_PEER_CLAIM h.claim).wr F.TWN_PEER_ROLE h.role |>.wr F.TWN_PEER_PREF (if h.pref then 1 else 0)
  let g := (g.lower 67).lower 68
  let clash := h.pref == g.on F.TWN_STATUS_PREF
  let g := (g.iff clash (·.up F.TWN_STATUS_PREF_CONFLICT)).onTwin (fun t => { t with prefClash := clash })
  let g : Gloesk := if h.role = roleStandby ∧ was ≠ roleStandby then g.onTwin (fun t => { t with drillFrom := g.ns }) else g
  let g : Gloesk := match g.twin.provFrom with
    | none => g
    | some j => if 0 ≤ strokeDiff j h.stroke then g.enterRole roleOut else g
  (g.settleStarting.settleLead).showStep

/-- HEART: a partner heartbeat arrives on H1 (path 0) or H2 (path 1, with the header of its hub lane) (R326, R337). -/
def heart (g : Gloesk) (path lane hubN hubClaim : Nat) (tagOk : Bool) (h : Heart) : Gloesk :=
  let g : Gloesk := if path = 1 then (if g.listed lane then ((g.hubTwin lane hubN).settleStarting).seeClaim hubClaim else g) else g
  if !tagOk || decide (3 < h.role) || !(g.on F.TWN_STATUS_NUM_VALID) then g
  else if h.twin = g.twinNo then (if path = 0 then g.numConflict else g)
  else
    let last := if path = 0 then g.twin.lastH1 else g.twin.lastH2
    let late := decide (1 < strokeDiff h.stroke g.stroke)
    if late || g.twin.counted.contains (path, h.stroke) || (last != 0 && h.seq != last % 65536) then g
    else g.heartCount path h

/-- TAKEOVER (R340): words from the selection of the present input set on. -/
def takeover (g : Gloesk) : Gloesk := ((g.goActive g.stroke).inc F.TWN_ERRCNT_TAKEOVER).raise 69

/-- PARTNER_FAILED (R338). A running handover goes on to its success or its deadline, as R345 gives it no other end. -/
def partnerFailed (g : Gloesk) : Gloesk :=
  let g := g.onTwin (fun t => { t with failed := true })
  if g.role = roleStandby then g.takeover
  else if g.role = roleActive then (g.showStep).raise 67
  else g.raise 68

/-- One path at the check of stroke `j` (R337). -/
def pathCheck (g : Gloesk) (path j : Nat) (other : Bool) : Gloesk :=
  let got := g.twin.counted.contains (path, j)
  let f := if path = 0 then F.TWN_PEER_H1_OK else F.TWN_PEER_H2_OK
  let n := if got then 0 else (if path = 0 then g.twin.silH1 else g.twin.silH2) + 1
  let g : Gloesk := if path = 0 then g.onTwin (fun t => { t with silH1 := n, lastH1 := if got then t.lastH1 else 0 })
    else g.onTwin (fun t => { t with silH2 := n, lastH2 := if got then t.lastH2 else 0 })
  if got then g.up f else if decide (g.rd F.TWN_CFG_HBTO ≤ n) && other then g.down f else g

/-- HEARTBEAT_CHECK at SB(j + 2) (R337, R338). A partner that a later heartbeat has already shown alive again is not declared
a second time by the checks of its silence. -/
def heartbeatCheck (g : Gloesk) : Gloesk :=
  let j := strokeMod (g.stroke + 2 ^ 48 - 2)
  let g1 := g.twin.counted.contains (0, j)
  let g2 := g.twin.counted.contains (1, j)
  let g := (g.pathCheck 0 j g2).pathCheck 1 j g1
  let g := g.onTwin (fun t => { t with counted := t.counted.filter (fun e => decide (strokeDiff j e.2 > 0)) })
  let lost := (g1 && decide (g.rd F.TWN_CFG_HBTO ≤ g.twin.silH2)) || (g2 && decide (g.rd F.TWN_CFG_HBTO ≤ g.twin.silH1))
  let g : Gloesk := if lost then g.raise 66 else if g1 && g2 then g.lower 66 else g
  if g1 || g2 then g.down F.TWN_PEER_SIL
  else
    let before := g.rd F.TWN_PEER_SIL
    let g := g.inc F.TWN_PEER_SIL
    let due := decide (g.rd F.TWN_CFG_HBTO ≤ g.rd F.TWN_PEER_SIL) && (decide (before < g.rd F.TWN_CFG_HBTO) || g.twin.counted.isEmpty)
    if due ∧ !g.twin.failed then g.partnerFailed else g

/-- The lanes of every populated hub are up: the observation of R331 goes on. -/
def observe (g : Gloesk) : Gloesk :=
  if g.lanes.any (fun l => g.rd F.LAN_L_STAT_RXST l != 4) || g.lanes.isEmpty then g.onTwin (fun t => { t with observed := 0 })
  else g.onTwin (fun t => { t with observed := satU 16 (t.observed + 1) })

/-- The observation of R331 is complete. -/
def observed (g : Gloesk) : Bool := decide (g.rd F.TWN_CFG_HBTO + 16 ≤ g.twin.observed)

/-- A partner heartbeat has arrived within the last 1,024 strokes (R186). -/
def heardLately (g : Gloesk) : Bool :=
  match g.twin.heard with
  | none => false
  | some s => decide (strokeDiff s g.stroke ≤ 1024)

/-- The roles at the start of the stroke cycle at input set `k` (R329, R355). -/
def startRoles (g : Gloesk) (k : Nat) : Gloesk :=
  if g.role ≠ roleStarting ∨ g.twin.numClash = true then g
  else if !g.heardLately then g.goActive k
  else if g.twin.peerRole ≠ roleStarting then g
  else if g.preferred then (g.goActive k).peerTurns (if g.twin.partClash then roleOut else roleStandby)
  else ((g.enterRole (if g.twin.partClash then roleOut else roleStandby)).peerTurns roleActive).startFollow

/-! ### Claims that cells and hubs hold (R331, R342, R343) -/

/-- The pair ranks above this twin's own. -/
def outranks (g : Gloesk) (p : Nat × Nat) : Bool := above p.1 p.2 g.claim g.twinNo

/-- DEMOTION at an input set (R342). -/
def demotion (g : Gloesk) : Gloesk :=
  let outgoing := match g.twin.handover with
    | none => false
    | some h => !h.incoming
  if g.role ≠ roleActive ∨ outgoing = true then g.onTwin (fun t => { t with outranked := 0 })
  else
    let ranked := g.accPairs.any g.outranks || g.lanes.any (fun l => match g.echoOf l with
      | none => false
      | some e => g.outranks (e.claim, e.twin))
    let n := if ranked then g.twin.outranked + 1 else 0
    let g := g.onTwin (fun t => { t with outranked := n })
    if ranked ∧ g.rd F.TWN_CFG_DEMN ≤ n then
      (((g.enterRole roleOut).up F.TWN_STATUS_SPLIT).inc F.TWN_ERRCNT_DEMOTE).raise 70
    else g

/-- The ECHO shows no valid word frame of this twin, sent in stroke `k` (R343). A frame for a target before `k` is none. -/
def echoLost (g : Gloesk) (k : Nat) (e : Echo) : Bool :=
  decide (strokeDiff k e.stroke < 0) || !(if g.twinNo = 0 then e.u0 else e.u1)

/-- The ECHO shows a hub that forwards no words (R44, R180). -/
def echoIdle (k : Nat) (e : Echo) : Bool := !e.locked || decide (strokeDiff k e.stroke < 0) || !(e.u0 || e.u1)

/-- Both hubs of pair `h` have sent their ECHO of stroke `k`: path loss and a pair without forwarding (R343, R360). -/
def pairEchoes (g : Gloesk) (h k : Nat) (p q : Echo) : Gloesk :=
  let lost := g.role == roleActive && g.echoLost k p && g.echoLost k q
  let n := if lost then Tab.get 0 g.twin.pathBad h + 1 else 0
  let idle := echoIdle k p && echoIdle k q
  let m := if idle then Tab.get 0 g.twin.pairBad h + 1 else 0
  let g := g.onTwin (fun t => { t with pathBad := Tab.set 0 t.pathBad h n, pairBad := Tab.set 0 t.pairBad h m })
  let g : Gloesk := if lost ∧ g.rd F.TWN_CFG_PATHN ≤ n then
      (((g.wrBit F.TWN_PATH0_HUB h true).wrBit F.TWN_PATH1_HUB h true).up F.TWN_STATUS_PATHLOSS).raise 71 (.pair h)
    else if lost then g else g.lower 71 (.pair h)
  if 2 ≤ m then g.raise 90 (.pair h) else if m = 0 then g.lower 90 (.pair h) else g

/-- ECHO of the stroke `k` arrives on a hub lane; `twin` and `claim` are those of its header (R174, R176, R331, R343). -/
def echo (g : Gloesk) (lane k twin claim : Nat) (e : Echo) : Gloesk :=
  if !(g.listed lane) then g else
  let g := ((((g.hubTwin lane twin).settleStarting).seeClaim claim).seeClaim e.claim).hubLoadEnds lane
  let g := g.onTwin (fun t => { t with echoes := t.echoes.filter (fun x => x.1 ≠ lane) ++ [(lane, k, e)] })
  match g.twin.echoes.find? (fun x => x.1 = (lane + 32) % 64 ∧ x.2.1 = k) with
  | none => g
  | some (_, _, o) => g.pairEchoes (lane % 32) k e o

/-! ### Digests (R333, R335, R339) -/

/-- The row of R335 that applies. -/
def digestRow (meStandby ownSusp : Bool) (d : Digest) (o : Option Digest) : Nat :=
  let differ := d.valm || (match o with
    | none => false
    | some o => o.valm || o.wcrc != d.wcrc || o.scrc != d.scrc)
  let peerSusp := match o with
    | none => false
    | some o => o.susp
  let nopeer := d.noPeer || (match o with
    | none => true
    | some o => o.noPeer)
  let sb := if meStandby then ownSusp else peerSusp
  let act := if meStandby then peerSusp else ownSusp
  if sb then (if act then 1 else 2)
  else if act then (if differ then 3 else 4)
  else if differ then 5
  else if nopeer then 6 else 7

/-- The digests differ, or either twin sets VALM (R335). -/
def digestDiffer (d : Digest) (o : Option Digest) : Bool :=
  d.valm || (match o with
    | none => false
    | some o => o.valm || o.wcrc != d.wcrc || o.scrc != d.scrc)

/-- The outcome of the comparison of input set `k` for twins in step (R335). -/
def digestOutcome (g : Gloesk) (k : Nat) (d : Digest) (o : Option Digest) : Gloesk :=
  let incoming := match g.twin.handover with
    | none => false
    | some h => h.incoming
  let meSb := g.role == roleStandby || incoming
  let row := digestRow meSb (g.on F.TWN_STATUS_SUSP) d o
  let g := g.onTwin (fun t => { t with peerSusp := match o with
    | none => false
    | some o => o.susp })
  let g : Gloesk := if row ≠ 7 ∧ digestDiffer d o then
      ((g.inc F.TWN_DIGCNT_MISM).up F.TWN_STATUS_DIGEST_MISM).raise 65 else g
  match row with
  | 3 =>
    let near := match g.twin.plan with
      | none => false
      | some p => decide (strokeDiff (strokeMod (k + 1)) p.start ≤ 0)
    if g.twin.handover.isSome || near then g
    else (g.onTwin (fun t => { t with plan := none })).hoOrder (strokeMod (k + 1)) meSb true
  | 4 => if g.twin.handover.isSome || g.twin.plan.isSome then g else g.hoOrder (strokeMod (k + 16)) meSb true
  | 6 => if meSb then g.provisional k else g
  | 7 => g
  | _ => match g.twin.handover with
    | some h => g.hoFail k roleOut h
    | none => if meSb then g.fallOut else g.peerTurns roleOut

end Gloesk

end Sys2Proof.Machine
end

