-- ==== Sys2Proof/Machine/Lanes.lean ====
section
/-!
DEFINITION. Serial lanes and cell links: transmitter and receiver states, codewords, figure of merit, calibration windows
(R187, R400-R419, R435).
-/

namespace Sys2Proof.Machine

/-- The figure of merit of R405 from the four means and deviations. -/
def figureOfMerit (mu : List Int) (sd : List Nat) : Nat :=
  let h (e : Nat) : Int := (nth 0 mu (e + 1) - 7 * nth 0 sd (e + 1)) - (nth 0 mu e + 7 * nth 0 sd e)
  let den := nth 0 mu 3 - nth 0 mu 0
  if den = 0 then 0 else (clampI 0 255 (256 * min (h 0) (min (h 1) (h 2)) / den)).toNat

namespace Gloesk

/-- Change the lane state. -/
def onLan (g : Gloesk) (f : LaneExt → LaneExt) : Gloesk := { g with lan := f g.lan }

/-- A lane that runs: a listed hub lane or a twin lane (R10, R403). -/
def laneRuns (g : Gloesk) (n : Nat) : Bool := g.listed n || (decide (64 ≤ n) && decide (n < 68))

/-- A valid frame has arrived on a lane. -/
def frameSeen (g : Gloesk) (n : Nat) : Gloesk :=
  (g.onLan (fun l => { l with lastFrame := Tab.set 0 l.lastFrame n (g.stroke + 1) })).lower (if n < 64 then 80 else 81)
    (.hub (n % 32) (n / 32))

/-- A valid frame of a hub and its header's TWIN and CLAIM (R174, R326, R331). -/
def header (g : Gloesk) (lane twin claim : Nat) : Gloesk :=
  if g.listed lane && g.rd F.LAN_L_STAT_RXST lane == 4 then ((((g.frameSeen lane).hubTwin lane twin).settleStarting).seeClaim claim) else g

/-- The UP bits and ANY_DOWN follow the receivers (R417). -/
def showUp (g : Gloesk) : Gloesk :=
  let mask (lo n : Nat) : Nat := (List.range n).foldl (fun m i => if g.rd F.LAN_L_STAT_RXST (lo + i) = 4 then m + 2 ^ i else m) 0
  let g' := ((g.wr F.LAN_UP0_UP (mask 0 32)).wr F.LAN_UP1_UP (mask 32 32)).wr F.LAN_UP2_UP (mask 64 4)
  g'.wr F.LAN_STATUS_ANY_DOWN (if (below 68 g.laneRuns).any (fun n => g.rd F.LAN_L_STAT_RXST n ≠ 4) then 1 else 0)

/-- A receiver's next state. -/
def setRx (g : Gloesk) (n st : Nat) : Gloesk := (g.wr F.LAN_L_STAT_RXST st n).showUp

/-- A fall from UP (R404). -/
def laneFalls (g : Gloesk) (n : Nat) : Gloesk :=
  (((g.setRx n 0).inc F.LAN_L_CNT3_LOL n).up F.LAN_STATUS_LOL).hubLoadEnds n

/-- Compare the partner's part with this one when the Ligature link comes up (R355). -/
def partCheck (g : Gloesk) (devid step : Nat) : Gloesk :=
  if devid = g.rd F.HST_ID_DEVID ∧ step = g.rd F.HST_ID_STEP then
    (g.onTwin (fun t => { t with partClash := false })).lower 74
  else
    let g := ((g.onTwin (fun t => { t with partClash := true })).up F.TWN_STATUS_PART_MISMATCH).raise 74
    if g.role = roleStandby then g.enterRole roleOut else g

/-- LANE_UP (R404): 32 codewords in a row have decoded and the figure of merit suffices. The first twin lane that comes up compares the parts. The verifier of the
link starts an attestation (R428). -/
def laneUp (g : Gloesk) (n devid step : Nat) : Gloesk :=
  if g.rd F.LAN_L_STAT_RXST n ≠ 3 ∨ Tab.get 0 g.lan.okRun n < 32 ∨ g.rd F.LAN_L_STAT_FOM n < g.rd F.LAN_LIM_FOM_UP then g
  else
    let first := decide (64 ≤ n) && g.rd F.LAN_UP2_UP == 0
    ((g.setRx n 4).iff first (·.partCheck devid step)).iff (decide (n < 64) || first) (·.challengeLink (min 64 n))

/-- A lane or its far end must be attested again (R435): the link is taken down, tamper cause 7. -/
def laneTaken (g : Gloesk) (n : Nat) : Gloesk := (g.laneFalls n).tamper 7

/-- Change what lane `n`'s receiver keeps. -/
def onLine (g : Gloesk) (n : Nat) (f : LineRx → LineRx) : Gloesk :=
  g.onLan (fun l => { l with line := Tab.set LineRx.reset l.line n (f (Tab.get LineRx.reset l.line n)) })

/-- PILOT_LOCK by the pilots seen (R397, R404). -/
def pilotLock (g : Gloesk) (n : Nat) (seen : List Nat) : Gloesk :=
  match LineRx.ofPilots seen with
  | some x => if g.laneRuns n ∧ g.rd F.LAN_L_STAT_RXST n = 2 then
      ((g.setRx n 3).onLan (fun l => { l with okRun := Tab.set 0 l.okRun n 0 })).onLine n (fun _ => x)
    else g
  | none => g

/-- CODEWORD (R396-R400, R404, R416): its 2,800 line symbols, and for each section that ends in it whether its tag verifies on the
raw bits and after correction. -/
def codeword (g : Gloesk) (n : Nat) (line : List Nat) (tags : List (Bool × Bool)) : Gloesk :=
  let rx := g.rd F.LAN_L_STAT_RXST n
  if !(g.laneRuns n) || decide (rx < 3) then g
  else if rx = 5 then g.onLine n (fun x => x.pass x.cw)
  else
  let d := (Tab.get LineRx.reset g.lan.line n).receive line tags
  let ⟨hcrc, gcm, retry, valid⟩ := d.gain
  let (bad, syms, pilots) := (d.bad, d.syms, d.lock)
  let g := g.onLine n (fun _ => d.rx)
  let g := if !bad && decide (0 < syms) then (g.inc F.LAN_L_CNT0_CCW n).inc F.LAN_L_CNT1_CSYM n syms else g
  let g := ((g.inc F.LAN_L_CNT2_RETRY n retry).inc F.LAN_L_CNT3_HCRC n hcrc).inc F.LAN_L_CNT3_GCM n gcm
  let run := if bad then Tab.get 0 g.lan.ucwRun n + 1 else 0
  let secn := Tab.get 0 g.lan.ucwSec n + (if bad then 1 else 0)
  let fails := Tab.get 0 g.lan.failSec n + gcm
  let g := (g.inc F.LAN_L_CNT2_UCW n (if bad then 1 else 0)).onLan (fun l => { l with
    ucwRun := Tab.set 0 l.ucwRun n run, okRun := Tab.set 0 l.okRun n (if bad then 0 else min 32 (Tab.get 0 l.okRun n + 1)),
    ucwSec := Tab.set 0 l.ucwSec n secn, failSec := Tab.set 0 l.failSec n fails })
  let g := g.iff (decide (0 < gcm)) (·.raise 83)
  let g := g.iff (decide (g.rd F.LAN_LIM_UCW < secn))
    (fun g => ((g.up F.LAN_L_STAT_UCWLIM n).up F.LAN_STATUS_UCW).raise 82 (.hub (n % 32) (n / 32)))
  let g := g.iff (valid && rx == 4) (·.frameSeen n)
  let g := g.iff (rx == 4 && (decide (8 ≤ run) || pilots)) (fun g =>
    (g.laneFalls n).onLan (fun l => { l with ucwRun := Tab.set 0 l.ucwRun n 0 }))
  if g.rd F.SEC_LIM_GCMF < fails ∧ g.rd F.LAN_L_STAT_RXST n = 4 then g.laneTaken n else g

/-- UCW_SECOND (R416): the cause falls at the end of a whole second within the limit. -/
def ucwSecond (g : Gloesk) (n : Nat) : Gloesk :=
  let g := g.iff (decide (Tab.get 0 g.lan.ucwSec n ≤ g.rd F.LAN_LIM_UCW)) (·.lower 82 (.hub (n % 32) (n / 32)))
  g.onLan (fun l => { l with ucwSec := Tab.set 0 l.ucwSec n 0, failSec := Tab.set 0 l.failSec n 0 })

/-- Sources 80 and 81 at a stroke boundary: no valid frame for 4 consecutive strokes (R360). -/
def laneSilence (g : Gloesk) : Gloesk :=
  g.each (below 68 g.laneRuns) (fun g n =>
    let f := Tab.get 0 g.lan.lastFrame n
    if f = 0 then g.onLan (fun l => { l with lastFrame := Tab.set 0 l.lastFrame n (g.stroke + 1) })
    else if 4 < strokeDiff (f - 1) g.stroke then g.raise (if n < 64 then 80 else 81) (.hub (n % 32) (n / 32)) else g)

/-- An equaliser parameter of a lane: 0 CTLE, 1-3 the DFE taps. -/
def eqField (p : Nat) : Fld :=
  match p with
  | 0 => F.LAN_L_EQ_CTLE
  | 1 => F.LAN_L_EQ_DFE1
  | 2 => F.LAN_L_EQ_DFE2
  | _ => F.LAN_L_EQ_DFE3

/-- ADAPT_STEP (R406): keep the step on trial and try the next parameter, or revert it, which is all that happens in that
period (R416, example). The direction of a step is not
stated and is a free value (log entry 4). -/
def adaptStep (g : Gloesk) (n fom : Nat) : Gloesk :=
  let a := Tab.get Adapt.reset g.lan.adapt n
  let undo := match a.trial with
    | none => false
    | some _ => decide (fom + g.rd F.LAN_LIM_TOL < a.fom)
  let g := match a.trial with
    | none => g
    | some (p, v) => if undo then g.wr (eqField p) v n else g
  let rx := g.rd F.LAN_L_STAT_RXST n
  if undo = false ∧ rx ≠ 5 ∧ (rx = 3 ∨ (g.on F.LAN_CTRL_ADAPT ∧ !(g.on F.LAN_L_CFG_RXFRZ n))) then
    let f := eqField a.next
    let v : Nat := g.rd f n
    let step : Int := if g.free % 2 = 0 then 1 else -1
    let w : Int := if a.next = 0 then clampI 0 15 ((v : Int) + step) else toS f.wid v + step
    let g := (g.nextFree).wr f (ofS f.wid (if a.next = 0 then w else satS f.wid w)) n
    g.onLan (fun l => { l with adapt := Tab.set Adapt.reset l.adapt n ⟨(a.next + 1) % 4, some (a.next, v), fom⟩ })
  else g.onLan (fun l => { l with adapt := Tab.set Adapt.reset l.adapt n ⟨a.next, none, fom⟩ })

/-- FOM_REFRESH (R405, R406). -/
def fomRefresh (g : Gloesk) (n : Nat) (mu : List Int) (sd : List Nat) : Gloesk :=
  if !(g.laneRuns n) then g else
  let fom := figureOfMerit mu sd
  let lvl (r : Reg) (i : Nat) (g : Gloesk) : Gloesk := g.setReg r (ofS 16 (nth 0 mu i) + nth 0 sd i % 65536 * 65536) n
  let g := lvl R.LAN_L_LVL3 3 (lvl R.LAN_L_LVL2 2 (lvl R.LAN_L_LVL1 1 (lvl R.LAN_L_LVL0 0 g)))
  let g := g.wr F.LAN_L_STAT_FOM fom n
  let g := g.iff (decide (fom < g.rd F.LAN_LIM_FOM_WARN)) (fun g => (g.up F.LAN_L_STAT_MARGIN n).up F.LAN_STATUS_MARGIN)
  g.adaptStep n fom

/-! ### Calibration windows (R187, R408, R409) -/

/-- A grant to the hub of lane `l` may still be in use: windows last 1.6 µs. -/
def grantOpen (g : Gloesk) (l : Nat) : Bool :=
  (List.range 18).any (fun i =>
    let t := Tab.get 0 g.lan.granted (l * 32 + i)
    t != 0 && decide (g.ns < t - 1 + 1600))

/-- The transmitter `i` of the hub of lane `l` has had no window within MININT seconds (R408). -/
def grantSpaced (g : Gloesk) (l i : Nat) : Bool :=
  let t := Tab.get 0 g.lan.granted (l * 32 + i)
  t == 0 || decide (t - 1 + g.rd F.LAN_CAL_MININT * 1000000000 ≤ g.ns)

/-- The rules permit a window on lane `n` now (R187, R408, R409). -/
def winPermitted (g : Gloesk) (n : Nat) : Bool :=
  let t := Tab.get 0 g.lan.lastWin n
  let spaced := t == 0 || decide (t - 1 + g.rd F.LAN_CAL_MININT * 1000000000 ≤ g.ns)
  let free := if n < 64 then g.rd F.LAN_L_STAT_TXST ((n + 32) % 64) != 4 && !(g.grantOpen ((n + 32) % 64))
    else [64, 65, 66, 67].all (fun m => g.rd F.LAN_L_STAT_TXST m != 4)
  spaced && free

/-- A window on lane `n` has been asked for: by drift under CAL_AUTO, or by LAN_CALREQ (R408). -/
def winWanted (g : Gloesk) (n : Nat) : Bool :=
  (g.on F.LAN_L_STAT_DRIFT n && g.on F.LAN_CTRL_CAL_AUTO) || (g.on F.LAN_CALREQ_GO && g.rd F.LAN_CALREQ_LANE == n)

/-- CAL_WINDOW_START on a lane of the Gloesk. -/
def winStart (g : Gloesk) (n : Nat) : Gloesk :=
  if g.rd F.LAN_L_STAT_TXST n ≠ 3 ∨ !(g.winWanted n) ∨ !(g.winPermitted n) then g
  else
    let g := ((g.wr F.LAN_L_STAT_TXST 4 n).down F.LAN_L_STAT_DRIFT n).inc F.LAN_L_CNT3_WIN n |>.inc F.LAN_CAL_CNT
    let g := g.iff (g.rd F.LAN_CALREQ_LANE == n) (·.down F.LAN_CALREQ_GO)
    g.onLan (fun l => { l with lastWin := Tab.set 0 l.lastWin n (g.ns + 1) })

/-- CAL_REQUEST (R408). -/
def calRequest (g : Gloesk) (n : Nat) : Gloesk := (g.wr F.LAN_CALREQ_LANE n).up F.LAN_CALREQ_GO

/-- HUB_CAL_POLL (R409): the needs of one hub are read; the twin whose claim the hub has accepted grants one of them, which
one the manual does not say (a free value), where the pair rule permits it. -/
def hubCalPoll (g : Gloesk) (lane gneed uneed : Nat) : Gloesk :=
  let other := (lane + 32) % 64
  let mine := match g.echoOf lane with
    | none => false
    | some e => e.claim == g.claim && e.twin == g.twinNo
  let needs := below 18 (fun i => (if i < 16 then bit gneed i else bit uneed (i - 16)) && g.grantSpaced lane i)
  let busy := g.grantOpen lane || g.grantOpen other || g.rd F.LAN_L_STAT_TXST other == 4
  match needs[g.free % needs.length]? with
  | none => g
  | some i =>
    if !mine || busy then g
    else ((g.nextFree).onLan (fun l => { l with granted := Tab.set 0 l.granted (lane * 32 + i) (g.ns + 1) })).mgmtFrame
      lane 2 0 0 0 R.HUB_CAL.addr [i * 2 ^ 20 + 2 ^ 25]

end Gloesk

namespace Stanak

def onLan (h : Stanak) (f : LaneExt → LaneExt) : Stanak := { h with lan := f h.lan }

/-- A fall of an uplink receiver from UP (R404). -/
def laneFalls (h : Stanak) (n : Nat) : Stanak := (h.wr F.HLAN_L_STAT_RXST 0 n).inc F.HLAN_L_CNT3_LOL n

/-- A valid frame has arrived on an uplink. -/
def frameSeen (h : Stanak) (n : Nat) : Stanak :=
  (h.onLan (fun l => { l with lastFrame := Tab.set 0 l.lastFrame n (h.stroke + 1) })).lower (1 + n)

/-- Change what uplink `n`'s receiver keeps. -/
def onLine (h : Stanak) (n : Nat) (f : LineRx → LineRx) : Stanak :=
  h.onLan (fun l => { l with line := Tab.set LineRx.reset l.line n (f (Tab.get LineRx.reset l.line n)) })

/-- PILOT_LOCK of an uplink (R397, R404). -/
def pilotLock (h : Stanak) (n : Nat) (seen : List Nat) : Stanak :=
  match LineRx.ofPilots seen with
  | some x => if h.rd F.HLAN_L_STAT_RXST n = 2 then
      ((h.wr F.HLAN_L_STAT_RXST 3 n).onLan (fun l => { l with okRun := Tab.set 0 l.okRun n 0 })).onLine n (fun _ => x)
    else h
  | none => h

/-- CODEWORD on an uplink (R396-R400, R404); `lim` is SEC_LIM.GCMF (R435). -/
def codeword (h : Stanak) (lim n : Nat) (line : List Nat) (tags : List (Bool × Bool)) : Stanak :=
  let rx := h.rd F.HLAN_L_STAT_RXST n
  if rx < 3 then h
  else if rx = 5 then h.onLine n (fun x => x.pass x.cw)
  else
  let d := (Tab.get LineRx.reset h.lan.line n).receive line tags
  let ⟨hcrc, gcm, retry, valid⟩ := d.gain
  let (bad, syms, pilots) := (d.bad, d.syms, d.lock)
  let h := h.onLine n (fun _ => d.rx)
  let h := if !bad && decide (0 < syms) then (h.inc F.HLAN_L_CNT0_CCW n).inc F.HLAN_L_CNT1_CSYM n syms else h
  let h := ((h.inc F.HLAN_L_CNT2_RETRY n retry).inc F.HLAN_L_CNT3_HCRC n hcrc).inc F.HLAN_L_CNT3_GCM n gcm
  let run := if bad then Tab.get 0 h.lan.ucwRun n + 1 else 0
  let fails := Tab.get 0 h.lan.failSec n + gcm
  let h := (h.inc F.HLAN_L_CNT2_UCW n (if bad then 1 else 0)).onLan (fun l => { l with
    ucwRun := Tab.set 0 l.ucwRun n run, okRun := Tab.set 0 l.okRun n (if bad then 0 else min 32 (Tab.get 0 l.okRun n + 1)),
    failSec := Tab.set 0 l.failSec n fails })
  let h := h.iff (valid && rx == 4) (·.frameSeen n)
  if rx = 4 ∧ (8 ≤ run ∨ pilots = true ∨ lim < fails) then
    ((h.laneFalls n).iff (decide (lim < fails)) (·.tamper 7)).onLan (fun l => { l with ucwRun := Tab.set 0 l.ucwRun n 0 })
  else h

/-- FOM_REFRESH of an uplink (R405); the limits of LAN_LIM lie in the Gloesk alone. -/
def fomRefresh (h : Stanak) (n : Nat) (mu : List Int) (sd : List Nat) : Stanak :=
  let lvl (r : Reg) (i : Nat) (h : Stanak) : Stanak := h.setReg r (ofS 16 (nth 0 mu i) + nth 0 sd i % 65536 * 65536) n
  (lvl R.HLAN_L_LVL3 3 (lvl R.HLAN_L_LVL2 2 (lvl R.HLAN_L_LVL1 1 (lvl R.HLAN_L_LVL0 0 h)))).wr F.HLAN_L_STAT_FOM
    (figureOfMerit mu sd) n

/-- At a stroke boundary: uplinks without a valid frame for 4 strokes (R361), and a new second of the failure counts. -/
def laneSilence (h : Stanak) (newSecond : Bool) : Stanak :=
  let h := h.iff newSecond (·.onLan (fun l => { l with failSec := [] }))
  h.each [0, 1] (fun h n =>
    let f := Tab.get 0 h.lan.lastFrame n
    if f = 0 then h.onLan (fun l => { l with lastFrame := Tab.set 0 l.lastFrame n (h.stroke + 1) })
    else if 4 < strokeDiff (f - 1) h.stroke then h.raise (1 + n) else h)

/-- The ports of group `i`. -/
def groupPorts (i : Nat) : List Nat := (List.range 12).map (fun j => 12 * i + j)

/-- HUB_CAL_GRANT (R409, R418): the granted transmitters enter their window. Never both uplinks at once. -/
def calGrant (h : Stanak) (i : Nat) : Stanak :=
  if i < 16 then
    (h.each (groupPorts i) (fun h c => if h.rd F.HLNK_LK_STAT_TXST c = 3 then h.wr F.HLNK_LK_STAT_TXST 4 c else h)).wrBit
      F.HUB_CAL_GNEED i false
  else if i < 18 then
    if h.rd F.HLAN_L_STAT_TXST (i - 16) = 3 ∧ h.rd F.HLAN_L_STAT_TXST (17 - i) ≠ 4 then
      (((h.wr F.HLAN_L_STAT_TXST 4 (i - 16)).down F.HLAN_L_STAT_DRIFT (i - 16)).inc F.HLAN_L_CNT3_WIN (i - 16)).wrBit
        F.HUB_CAL_UNEED (i - 16) false
    else h
  else h

/-- A cell-port receiver goes down (R411): `viol`, `disp`, `disc` violations, disparity errors and discards it met. -/
def portDown (h : Stanak) (c viol disp disc : Nat) (silent : Bool) : Stanak :=
  let h := ((h.inc F.HLNK_LK_CNT0_CVIOL c viol).inc F.HLNK_LK_CNT0_DISP c disp).inc F.HLNK_LK_CNT1_MDISC c disc
  let h := h.iff silent (fun h => (h.onLan (fun l => { l with silent := without l.silent c ++ [c] })).raiseAt 6 c)
  if 3 ≤ h.rd F.HLNK_LK_STAT_RXST c then
    ((h.wr F.HLNK_LK_STAT_RXST 0 c).up F.HLNK_LK_STAT_DOWN c).inc F.HLNK_LK_CNT1_LOL c
  else h

/-- A cell-port receiver comes up; it is UP only while its figure is at least 16 (R411, R412). Source 6 holds while any port
is silent. The hub, the verifier of the link, starts an attestation (R428). -/
def portUp (h : Stanak) (c fom : Nat) : Stanak :=
  let h := h.wr F.HLNK_LK_STAT_FOM fom c
  let rx := h.rd F.HLNK_LK_STAT_RXST c
  if 16 ≤ fom ∧ rx < 3 then
    let h := ((h.wr F.HLNK_LK_STAT_RXST 3 c).inc F.HLNK_LK_CNT2_UPCNT c).onLan (fun l => { l with silent := without l.silent c })
    (h.iff h.lan.silent.isEmpty (·.lower 6)).send .secure [2 + c, 0]
  else if fom < 16 ∧ rx = 3 then h.portDown c 0 0 0 false
  else h

/-- A report tag failed on a port; beyond the limit the hub takes the link down (R435). -/
def tagFailed (h : Stanak) (lim c : Nat) : Stanak :=
  let n := Tab.get 0 h.lan.failSec (256 + c) + 1
  let h := h.onLan (fun l => { l with failSec := Tab.set 0 l.failSec (256 + c) n })
  if lim < n then (h.portDown c 0 0 0 false).tamper 7 else h

end Stanak

namespace Ihloon

def onLan (c : Ihloon) (f : LaneExt → LaneExt) : Ihloon := { c with lan := f c.lan }

/-- Source 19 and the SINGLE flag follow the receivers (R168). -/
def single (c : Ihloon) : Bool := (c.rd F.LNK_LK_STAT_RXST 0 == 3) != (c.rd F.LNK_LK_STAT_RXST 1 == 3)
def showSingle (c : Ihloon) : Ihloon := c.level 19 c.single

/-- A link of the cell goes down (R411). -/
def linkDown (c : Ihloon) (n viol disp disc : Nat) : Ihloon :=
  let c := ((c.inc F.LNK_LK_CNT0_CVIOL n viol).inc F.LNK_LK_CNT0_DISP n disp).inc F.LNK_LK_CNT1_MDISC n disc
  if 3 ≤ c.rd F.LNK_LK_STAT_RXST n then
    (((c.wr F.LNK_LK_STAT_RXST 0 n).up F.LNK_LK_STAT_DOWN n).inc F.LNK_LK_CNT1_LOL n).showSingle
  else c

/-- A link of the cell comes up: the cell repeats its attestation. It is UP only while its figure is at least 16 (R411,
R412). -/
def linkUp (c : Ihloon) (n fom : Nat) : Ihloon :=
  let c := c.wr F.LNK_LK_STAT_FOM fom n
  let rx := c.rd F.LNK_LK_STAT_RXST n
  if 16 ≤ fom ∧ rx < 3 then
    (((c.wr F.LNK_LK_STAT_RXST 3 n).inc F.LNK_LK_CNT2_UPCNT n).showSingle).send .secure [n, 0]
  else if fom < 16 ∧ rx = 3 then c.linkDown n 0 0 0
  else c

/-- A word tag failed on a link (R182, R435). -/
def tagFailed (c : Ihloon) (lim n : Nat) : Ihloon :=
  let k := Tab.get 0 c.lan.failSec n + 1
  let c := ((c.inc F.LNK_CNT0_WTAGF).raise 20).onLan (fun l => { l with failSec := Tab.set 0 l.failSec n k })
  if lim < k then c.linkDown n 0 0 0 else c

/-- IHLOON_TX_WINDOW (R413): both links idle. -/
def txWindow (c : Ihloon) : Ihloon :=
  if c.rd F.LNK_LK_STAT_TXST 0 = 3 ∨ c.rd F.LNK_LK_STAT_TXST 1 = 3 then
    let c := c.each [0, 1] (fun c n => if c.rd F.LNK_LK_STAT_TXST n = 3 then c.wr F.LNK_LK_STAT_TXST 4 n else c)
    (c.wr F.LNK_TXCAL_CNT (c.rd F.LNK_TXCAL_CNT + 1)).down F.LNK_TXCAL_NEED
  else c

/-- IHLOON_TX_WINDOW_END (R413): the waiting messages start. -/
def txWindowEnd (c : Ihloon) : Ihloon :=
  let c := c.each [0, 1] (fun c n => if c.rd F.LNK_LK_STAT_TXST n = 4 then c.wr F.LNK_LK_STAT_TXST 3 n else c)
  c.messagesGo

end Ihloon

end Sys2Proof.Machine
end

