-- ==== Sys2Proof/Machine/Hub.lean ====
section
/-!
DEFINITION. Stroke traffic in the hub: reports upward, words downward, the echo and the heartbeat relay (R176-R180, R187,
R337).
-/

namespace Sys2Proof.Machine

namespace Stanak

def onHub (h : Stanak) (f : HubState → HubState) : Stanak := { h with hub := f h.hub }

/-- Port c is populated (R191). -/
def populated (h : Stanak) (c : Nat) : Bool :=
  let f := nth F.HUB_SLOT0_POP [F.HUB_SLOT0_POP, F.HUB_SLOT1_POP, F.HUB_SLOT2_POP, F.HUB_SLOT3_POP, F.HUB_SLOT4_POP,
    F.HUB_SLOT5_POP] (c / 32)
  decide (c < 192) && bit (h.rd f) (c % 32)

/-- The populated ports in rising order. -/
def ports (h : Stanak) : List Nat := below 192 h.populated

/-- The hub takes part in stroke traffic: locked, forwarding and bound (R44, R177, R429). -/
def forwards (h : Stanak) : Bool :=
  h.follow.locked && h.on F.HUB_FCTRL_EN && h.rd F.HSEC_ATT_STAND == 2 && h.rd F.HUB_BOOT_STATE == 5

/-- The stroke that a report's STK bits name among the 8 up to the present one (R178; the command stands at the report's first
bit, DESIGN CHOICE, log entry 213). -/
def reportStroke (h : Stanak) (stk : Nat) : Option Nat :=
  ((List.range 8).map (fun i => strokeMod (h.stroke + 2 ^ 48 - i))).find? (fun k => k % 2 ^ 24 = stk)

/-- CELL_REPORT at port `c` (R170, R178). `lim` is SEC_LIM.TAGF. -/
def cellReport (h : Stanak) (lim c r : Nat) (m : LinkMsg) (late : Bool) : Stanak :=
  if !(h.populated c) then h
  else if !m.framed then
    (h.inc F.HLNK_LK_CNT1_MDISC c).iff (!m.startOk) (fun h => (h.inc F.HUB_PERR_RTAGF c).raiseAt 7 c)
  else match (h.reportStroke (bits r 128 24)).filter m.tagFor with
    | none => ((h.inc F.HUB_PERR_RTAGF c).raiseAt 7 c).tagFailed lim c
    | some k =>
      if late then (h.inc F.HUB_PERR_LATE c).raiseAt 8 c
      else h.onHub (fun s => { s with slots := s.slots.filter (fun e => e.1 ≠ c ∨ e.2.1 % 2 ≠ k % 2) ++ [(c, k, r)] })

/-- A slot's report of stroke `k`; an empty slot carries the marker of R169. -/
def slotReport (h : Stanak) (k c : Nat) : Nat × Nat :=
  match h.hub.slots.find? (fun e => e.1 = c ∧ e.2.1 = k) with
  | some (_, _, r) => (r % 2 ^ 32, r / 2 ^ 32)
  | none => (0xF8002000, 0)

/-- The ECHO body (R176). -/
def echoBody (h : Stanak) : List (Nat × Nat) :=
  [(h.rd F.HUB_STAT_ACC_CLAIM, 16), (h.rd F.HUB_STAT_ACC_TWIN, 1), flagField h.follow.locked, (h.rd F.HUB_STAT_U0_OK, 1),
    (h.rd F.HUB_STAT_U1_OK, 1), (0, 12), (h.hub.lastT.getD 0, 48), (satU 16 h.hub.wdrop, 16), (0, 32)]

/-- One uplink's REPORT frame of stroke `k` and the ECHO behind it (R177, R178, R187). -/
def uplinkReport (h : Stanak) (k u : Nat) : Stanak :=
  let st := h.rd F.HLAN_L_STAT_TXST u
  let h := if !h.forwards then h
    else if st = 4 then (h.inc F.HUB_ERRCNT1_SETTLE).raise 10
    else if st ≠ 3 then h
    else h.frame u 0x01 k h.ports.length [packed 32 (h.ports.map (fun c => (h.slotReport k c).1)),
      packed 160 (h.ports.map (fun c => (h.slotReport k c).2))]
  h.frame u 0x04 k 0 [h.echoBody]

/-- REPORT_FRAME_SEND at SB(k) + W: the same plaintext on both uplinks (R178). -/
def reportFrameSend (h : Stanak) (k : Nat) : Stanak := (h.uplinkReport k 0).uplinkReport k 1

/-- Insert a queued word before the words of the same port and target that rank below it (R180, R330). -/
def enqueue (w : HubWord) : List HubWord → List HubWord
  | [] => [w]
  | x :: t => if x.port = w.port ∧ x.t = w.t ∧ above w.claim w.twin x.claim x.twin then w :: x :: t else x :: enqueue w t

/-- One word of a frame: queued on its port, or dropped where it does not match the frame or its slot (R179). -/
def takeWord (h : Stanak) (t claim twin c w : Nat) : Stanak :=
  if bits w 20 16 ≠ claim ∨ bits w 36 1 ≠ twin ∨ bits w 80 13 ≠ h.pair * 256 + c then
    ((h.inc F.HUB_ERRCNT0_WCLM).raise 4).onHub (fun s => { s with wdrop := s.wdrop + 1 })
  else h.onHub (fun s => { s with queue := enqueue ⟨c, t, claim, twin, w⟩ s.queue })

/-- The accepted claim and the uplink flags after a valid word frame for `t` (R180): both uplinks have brought one for `t`
whatever its order; only the latest target moves the claim. -/
def acceptFrame (h : Stanak) (u t claim twin : Nat) : Stanak :=
  let h := h.iff (h.hub.seen.contains (t, 1 - u) && !(h.hub.seen.contains (t, u))) (fun h => (h.up F.HUB_STAT_BOTH).raise 5)
  let h := h.onHub (fun s => { s with
    seen := (t, u) :: s.seen.filter (fun e => e != (t, u) && decide (0 < strokeDiff h.stroke e.1)) })
  let set (h : Stanak) : Stanak :=
    let h := (h.wr F.HUB_STAT_ACC_CLAIM claim).wr F.HUB_STAT_ACC_TWIN twin
    { h with follow := { h.follow with side := twin } }
  let d : Int := match h.hub.lastT with
    | none => 1
    | some s => strokeDiff s t
  if d < 0 then h
  else if 0 < d then
    set (((h.onHub (fun s => { s with lastT := some t, wdrop := 0 })).wr F.HUB_STAT_U0_OK (if u = 0 then 1 else 0)).wr
      F.HUB_STAT_U1_OK (if u = 1 then 1 else 0))
  else
    let h := if u = 0 then h.up F.HUB_STAT_U0_OK else h.up F.HUB_STAT_U1_OK
    if above claim twin (h.rd F.HUB_STAT_ACC_CLAIM) (h.rd F.HUB_STAT_ACC_TWIN) then set h else h

/-- WORD_FRAME on uplink `u` for target `t`; `ws` are bits [95:0] of its words in rising port order (R179, R180). -/
def wordFrame (h : Stanak) (u t claim twin : Nat) (gcmOk : Bool) (ws : List (BitVec 96)) : Stanak :=
  let d := strokeDiff h.stroke t
  if !gcmOk || decide (d < 1) || decide (8 < d) then
    ((h.inc F.HUB_ERRCNT0_WGCM).raise 3)
  else
    let h := ((h.frameSeen u).iff (h.on F.HUB_FCTRL_EN && h.rd F.HSEC_ATT_STAND == 2 && h.rd F.HUB_BOOT_STATE == 5)
      (·.acceptFrame u t claim twin))
    if !h.forwards then h
    else
      (h.ports.zip ws).foldl (fun (h : Stanak) e => h.takeWord t claim twin e.1 e.2.toNat) h

/-- The queued words leave on their cell ports with their tags (R177, R179); one that falls into a window is dropped and counts
in WDROP while its target is the latest (R176, R187). Then the messages that waited for the word window start. -/
def drainWords (h : Stanak) : Stanak :=
  let q := h.hub.queue
  (q.foldl (fun (h : Stanak) w =>
    let st := h.rd F.HLNK_LK_STAT_TXST w.port
    if st = 4 then
      (((h.inc F.HUB_ERRCNT1_SETTLE).inc F.HLNK_LK_CNT2_RDROP w.port).raise 10).onHub (fun s => { s with
        wdrop := if s.lastT = some w.t then s.wdrop + 1 else s.wdrop })
    else if st = 3 then h.send .cell [w.port, 1, w.bits, Config.crypto 2 [w.port, w.t, w.bits] % 2 ^ 32]
    else h) (h.onHub (fun s => { s with queue := [] }))).messagesGo

/-- One image block for each cell port that is free (R471). -/
def relayBlocks (h : Stanak) : Stanak :=
  h.hub.blocks.foldl (fun (s : Stanak × List Nat) b =>
    if has s.2 b.1 || !(s.1.portFree b.1) then s
    else ((s.1.onHub (fun x => { x with blocks := x.blocks.erase b })).message b.1 3 (mgmtMessage 6 7 0 b.2.1 b.2.2), b.1 :: s.2))
    (h, []) |>.1

/-- A management or time message at a cell port acts only if it is framed and its tag verifies; otherwise it is discarded and
counted (R170-R172). -/
def hears (h : Stanak) (c : Nat) (m : LinkMsg) (f : Stanak → Stanak) : Stanak :=
  if h.rd F.HLNK_LK_STAT_RXST c ≠ 3 then h else if m.recent h.stroke then f h else h.inc F.HLNK_LK_CNT1_MDISC c

/-- HUB_HEART_RELAY: unchanged, in the next HEART slot of the other uplink (R337). -/
def heartRelay (h : Stanak) (u : Nat) (b : Heart) : Stanak :=
  let h := h.frameSeen u
  h.frame (1 - u) 0x03 h.stroke 0 [heartBody b.claim b.twin b.role (if b.pref then 1 else 0) b.stroke b.seq]

end Stanak

end Sys2Proof.Machine
end

