-- ==== Sys2Proof/Machine/Nib.lean ====
section
/-!
DEFINITION. The Ihloon's nib module and protection island: edge lists, their planning under dead time and minimum pulse,
carrier mode, trips and blanking, latches, the bypass (R193-R214), and the last-fault records (R252).
-/

namespace Sys2Proof.Machine

/-- CRC-8 with polynomial 0x07, most significant bit first, initial value 0, over bytes in order (R252; log entry 21). -/
def crc8Bytes (l : List Nat) : Nat := crc8 (8 * l.length) (l.foldl (fun a b => a * 256 + b % 256) 0)

/-- The four bytes of a word, least significant first. -/
def wordBytes (w : Nat) : List Nat := [w % 256, w / 256 % 256, w / 65536 % 256, w / 16777216 % 256]

namespace Ihloon

def onCell (c : Ihloon) (f : CellState → CellState) : Ihloon := { c with cell := f c.cell }
def onNib (c : Ihloon) (f : NibModule → NibModule) : Ihloon := c.onCell (fun s => { s with nib := f s.nib })
def onIsl (c : Ihloon) (f : IslandState → IslandState) : Ihloon := c.onCell (fun s => { s with isl := f s.isl })
def onRsv (c : Ihloon) (f : ReservoirState → ReservoirState) : Ihloon := c.onCell (fun s => { s with rsv := f s.rsv })
def onKeep (c : Ihloon) (f : Keeper → Keeper) : Ihloon := c.onCell (fun s => { s with keep := f s.keep })
def onCore (c : Ihloon) (f : Core → Core) : Ihloon := c.onCell (fun s => { s with core := f s.core })

/-- Run a function of the acquisition block (R239). -/
def onAq (c : Ihloon) (f : AqPart → AqPart) : Ihloon :=
  let p := f ⟨c.regs, c.cell.aq⟩
  ({ c with regs := p.regs } : Ihloon).onCell (fun s => { s with aq := p.aq })

/-- The main domain runs with its clocks (R208, R210). -/
def mainRuns (c : Ihloon) : Bool := c.cell.rsv.main && c.cell.rsv.clocks

/-- Interrupt `n` of the Quill-S becomes pending (R281); the core is in reset while the main domain is. -/
def irq (c : Ihloon) (n : Nat) : Ihloon :=
  if c.cell.rsv.main then c.onCore (fun k => { k with ipend := setBit k.ipend n true }) else c

/-- The free value of this moment (log entry 4). -/
def free (c : Ihloon) : Nat := Config.freeNat c.fresh
def nextFree (c : Ihloon) : Ihloon := { c with fresh := c.fresh + 1 }

/-- Class `n` of work is admitted (R245). -/
def admitted (c : Ihloon) (n : Nat) : Bool := bit (c.rd F.RSV_STAT_ADM) (n - 1)

/-! ### Latches and what they show (R206, R211, R213) -/

/-- A local block latch is in force (R206). -/
def blockLatched (c : Ihloon) : Bool :=
  !c.cell.isl.tripLatch.isEmpty || c.cell.isl.ovpLatch || c.on F.PRT_STAT_ILOCK || c.cell.isl.safe == some false ||
    c.cell.isl.resvBlock

/-- The bypass is fired or kept (R213). -/
def fired (c : Ihloon) : Bool := c.on F.PRT_BYP_FIRED || c.on F.PRT_BYP_KEPT

/-- The gating holds every nib output low (R211, rows 1 and 2). -/
def gated (c : Ihloon) : Bool := c.fired || c.blockLatched

/-- The level an AUX output follows when nothing protects (R216): its register or a timer channel. -/
def auxSource (c : Ihloon) (src val : Fld) : Nat :=
  let ch (n : Nat) : Nat := if c.rd F.NIB_TMR_CFG_MODE n = 2 then c.rd F.NIB_TMR_STAT_RUN n else 0
  match c.rd src with
  | 1 => ch 2
  | 2 => ch 3
  | _ => c.rd val

/-- The level of an AUX output: on a local block or bypass as AUXn_SAFE sets it (R217). -/
def auxLevel (c : Ihloon) (held : Nat) (safe src val : Fld) : Nat :=
  if c.gated then (match c.rd safe with | 1 => 0 | 2 => 1 | _ => held) else c.auxSource src val

def showAux (c : Ihloon) : Ihloon :=
  let a := c.auxLevel c.cell.isl.aux0 F.PRT_CFG_AUX0_SAFE F.NIB_AUX_SRC0 F.NIB_AUX_AUX0
  let b := c.auxLevel c.cell.isl.aux1 F.PRT_CFG_AUX1_SAFE F.NIB_AUX_SRC1 F.NIB_AUX_AUX1
  c.onIsl (fun s => { s with aux0 := a, aux1 := b })

/-- The read-only bits of PRT_STAT and the level sources 0-7 and 9 follow the island (R217, R362). -/
def showPrt (c : Ihloon) : Ihloon :=
  let b (x : Bool) : Nat := if x then 1 else 0
  let c := ((c.wr F.PRT_STAT_SAFE_ACT (b c.cell.isl.safe.isSome)).wr F.PRT_STAT_LBLK (b c.blockLatched)).wr F.PRT_STAT_BYPF (b c.fired)
  let c := c.each [0, 1, 2, 3] (fun c n => c.level n (bit (c.rd F.PRT_STAT_TRIP) n))
  let c := ((c.level 4 (c.on F.PRT_STAT_OVP)).level 5 (c.on F.PRT_STAT_ILOCK)).level 6 c.fired
  ((c.level 7 (c.on F.PRT_STAT_SIL)).level 9 c.cell.isl.safe.isSome).showAux

/-- The outputs that are high in a state (R193), bits 0-3. -/
def outs (c : Ihloon) (s : NibState) : Nat :=
  if c.on F.NIB_CTRL_TYPE then
    match s with
    | .z => if c.on F.NIB_CTRL_ZSEL then 0b0101 else 0b1010
    | .ip => 0b1001
    | .ineg => 0b0110
    | .b => 0
    | .y => 0
  else
    match s with
    | .z => 0b0010
    | .ip => 0b0001
    | .ineg => 0b0001
    | .b => 0
    | .y => 0

/-- All nib outputs go low at instant `x` and the plan is discarded (R201, R204, R213). -/
def outputsOff (c : Ihloon) (x : Int) (s : NibState) : Ihloon :=
  (c.onNib (fun n => { n with levels := 0, plan := [], turnOn := [], cur := s, last := some x, state := s })).wr
    F.NIB_STAT_STATE s.code

/-- The gating after a change of the latches: outputs low and state B (R211). A fired bypass keeps them low since its firing. -/
def gate (c : Ihloon) (x : Int) : Ihloon := (c.iff (!c.fired && c.blockLatched) (·.outputsOff x .b)).showPrt

/-! ### Instants -/

/-- The instant of 2.5 ns tick `tick` of the present stroke, in 250 ps steps. -/
def instant (c : Ihloon) (T tick : Nat) : Int := ((c.stroke * edgeSteps T + 10 * tick : Nat) : Int)

/-! ### Last-fault records (R252) -/

/-- The eight words of a record, word 0 without its CRC. Without the main domain the time known last is not stated here and
is a free value (log entry 4). -/
def lfrWords (c : Ihloon) (T cause tick acc : Nat) : List Nat :=
  let b (x : Bool) (n : Nat) : Nat := if x then 2 ^ n else 0
  let ns := if c.mainRuns then c.stroke * T + tick * 5 / 2 else c.free
  [cause + 256 * (satU 8 (c.cell.keep.records + 1)) + b c.fired 16 + b (c.on F.LNK_HSTAT_SAFE) 17 + b c.blockLatched 18,
    c.stroke % 2 ^ 32, c.stroke / 2 ^ 32 % 2 ^ 16, ns / 1000000000 % 2 ^ 32, ns % 1000000000,
    c.rd F.RSV_LEVEL_E, c.reg R.PRT_STAT % 2 ^ 17, acc % 2 ^ 19]

/-- The registers that show a record: the first (true) or the last. -/
def lfrRegs (first : Bool) : List Reg :=
  if first then [R.RSV_LFRF0, R.RSV_LFRF1, R.RSV_LFRF2, R.RSV_LFRF3, R.RSV_LFRF4, R.RSV_LFRF5, R.RSV_LFRF6, R.RSV_LFRF7]
  else [R.RSV_LFRL0, R.RSV_LFRL1, R.RSV_LFRL2, R.RSV_LFRL3, R.RSV_LFRL4, R.RSV_LFRL5, R.RSV_LFRL6, R.RSV_LFRL7]

/-- The RSV registers show what the keeper holds (R257). -/
def showKeeper (c : Ihloon) : Ihloon :=
  let k := c.cell.keep
  let put (c : Ihloon) (rs : List Reg) (ws : List Nat) : Ihloon :=
    (rs.zip (List.range 8)).foldl (fun (c : Ihloon) e => c.setReg e.1 (nth 0 ws e.2)) c
  let c := put (put c (lfrRegs true) k.first) (lfrRegs false) k.last
  let c := ((c.wr F.RSV_KCTR_CTR k.counter).wr F.RSV_KLOGP_NEXT k.tamperTotal).wr F.RSV_KLOGP_TOTAL (satU 8 k.tamperTotal)
  let n := k.tamper.length
  (k.tamper.zip (List.range n)).foldl (fun (c : Ihloon) e =>
    let i := (k.tamperTotal + 16 * n - n + e.2) % 16
    (c.wr F.RSV_KLOG_LO_CTR e.1.1 i).wr F.RSV_KLOG_HI_CAUSE e.1.2 i) c

/-- Log a tamper cause in the keeper with the attestation counter, 16 entries (R252, R432). -/
def tamper (c : Ihloon) (cause : Nat) : Ihloon :=
  let l := c.cell.keep.tamper ++ [(c.cell.keep.counter, cause)]
  (c.onKeep (fun k => { k with tamper := l.drop (l.length - 16), tamperTotal := k.tamperTotal + 1 })).showKeeper

/-- LAST_FAULT_RECORD: the keeper writes a record (R252). `acc` is LNK_ACC at the event. -/
def lastFaultAcc (c : Ihloon) (T cause tick acc : Nat) : Ihloon :=
  let ws := c.lfrWords T cause tick acc
  let c := if c.mainRuns then c else c.nextFree
  let crc := crc8Bytes (ws.flatMap wordBytes)
  let ws := (ws.head?.getD 0 + crc * 2 ^ 24) :: ws.drop 1
  (c.onKeep (fun k => { k with first := if k.records = 0 then ws else k.first, last := ws, records := k.records + 1 })).showKeeper

def lastFault (c : Ihloon) (T cause tick : Nat) : Ihloon := c.lastFaultAcc T cause tick (c.reg R.LNK_ACC)

/-! ### Bypass (R213) -/

/-- BYPASS_FIRE at instant `x`. A cause while the bypass is fired or kept adds no firing. -/
def fireBypass (c : Ihloon) (x : Int) : Ihloon :=
  if c.fired then c.showPrt
  else
    let c := ((c.wr F.PRT_BYP_FIRED 1).inc F.PRT_CNT_ACTS).onKeep (fun k => { k with bypass := true })
    ((c.onIsl (fun s => { s with bypLow := true })).outputsOff x .y).showPrt

/-- BYPASS_PULSE_END: in pulse mode BYP_N returns high. -/
def bypassPulseEnd (c : Ihloon) : Ihloon :=
  if c.rd F.PRT_CFG_BYPMODE = 0 then c.onIsl (fun s => { s with bypLow := false }) else c

/-- A live cause that would fire the bypass (R213). -/
def bypassCause (c : Ihloon) : Bool :=
  (c.on F.PRT_STAT_OVP_LIVE && c.on F.PRT_OVP_ACT) ||
    [0, 1, 2, 3].any (fun n => bit (c.rd F.PRT_STAT_TRIP_LIVE) n && decide (2 ≤ c.rd F.PRT_TRIP_ACT n))

/-- REARM, from an owner-signed settings record only. The cell that was bypassed stands in state B, so that a later BYPASS word
plans Y again (R195, R213). -/
def rearm (c : Ihloon) : Ihloon :=
  if c.bypassCause then c.inc F.PRT_ERRCNT_CLRREJ
  else
    let had := c.fired
    let c := (((c.wr F.PRT_BYP_FIRED 0).wr F.PRT_BYP_KEPT 0).onKeep (fun k => { k with bypass := false })).onIsl
      (fun s => { s with bypLow := false })
    let c : Ihloon := if had then (c.onNib (fun n => { n with cur := .b, state := .b })).wr F.NIB_STAT_STATE NibState.b.code else c
    c.showPrt

/-! ### Enabling and disabling (R201, R202) -/

/-- Every path that disables the nib module: outputs low, state B, the plan discarded (R201). -/
def nibOff (c : Ihloon) (x : Int) : Ihloon :=
  let c := ((c.wr F.NIB_CTRL_EN 0).wr F.NIB_STAT_EN_ACT 0).onNib (fun n =>
    { n with starting := false, waiting := none, carrier := none, strobe := none })
  (c.onIsl (fun s => { s with silence := false })).outputsOff x .b

/-- The conditions of R202. -/
def mayEnable (c : Ihloon) : Bool :=
  c.rd F.CSEC_ATT_STAND == 2 && c.on F.LNK_ACC_VALID && c.follow.locked && !(c.on F.LNK_HSTAT_SAFE) && !c.blockLatched && !c.fired

/-- The nib module is enabled or about to be at the next boundary. -/
def nibOn (c : Ihloon) : Bool := c.on F.NIB_STAT_EN_ACT || c.cell.nib.starting

/-- The island or an accepted write enables the module at the next boundary. -/
def nibStart (c : Ihloon) : Ihloon :=
  (((c.wr F.NIB_CTRL_EN 1).wr F.RSV_STAT_NIBOFF 0).wr F.RSV_STAT_STAGE 6).onNib (fun n => { n with starting := true })

/-- NIB_ENABLE: refused while class 3 is deferred (R247) or where R202 does not hold. NIB_CTRL.EN reads the request (R216). -/
def nibEnable (c : Ihloon) : Ihloon :=
  if c.nibOn then c
  else
    let c := c.wr F.NIB_CTRL_EN 1
    if !(c.admitted 3) then c.inc F.RSV_CNT_REFUSE
    else if c.mayEnable then c.nibStart
    else ((c.up F.NIB_STAT_ENREJ).inc F.NIB_CNT1_ENREJ).irq 3

/-- NIB_DISABLE by a write of EN = 0: the stage returns to 5 and the island does not enable again (R201, R250). -/
def nibDisable (c : Ihloon) (T tick : Nat) : Ihloon :=
  let c := (c.nibOff (c.instant T tick)).onRsv (fun r => { r with auto := false })
  if c.rd F.RSV_STAT_STAGE = 6 then c.wr F.RSV_STAT_STAGE 5 else c

/-! ### Edge lists (R194, R195, R200) -/

/-- The state an inserting word takes (R194). -/
def insState (c : Ihloon) (pol : Nat) : NibState := if c.on F.NIB_CTRL_TYPE && pol = 1 then .ineg else .ip

/-- The pulse limit DTP in 250 ps steps (R197). -/
def dtp (c : Ihloon) : Nat := 10 * (c.rd F.NIB_DT_DT + c.rd F.NIB_MINP_MINP)

/-- The carrier list (R200), and whether the pulse was clamped. -/
def carrierList (c : Ihloon) (tq cmp pol : Nat) : List (Nat × NibState) × Bool :=
  let i := c.insState pol
  let ton := carrierOn cmp tq
  let low := decide (cmp < 0x8000)
  let bnd := if low then NibState.z else i
  let ctr := if low then i else NibState.z
  let w := if low then ton else tq - ton
  let clamp := decide (0 < w) && decide (w < c.dtp)
  if w = 0 ∨ clamp then ([(0, bnd)], clamp)
  else ([(0, bnd), ((tq - w) / 2, ctr), ((tq - w) / 2 + w, bnd)], false)

/-- The edge list of a word: STATE, POL and EDGE (R183, R195). -/
def edgeList (c : Ihloon) (tq st pol e : Nat) : List (Nat × NibState) × Bool :=
  let i := c.insState pol
  match st with
  | 0 => ([(0, .z)], false)
  | 1 => ([(0, i)], false)
  | 2 => (if e < tq then [(0, .z), (e, i)] else [(0, .z)], false)
  | 3 => (if e < tq then [(0, i), (e, .z)] else [(0, i)], false)
  | 4 => c.carrierList tq e pol
  | 5 => ([(0, .b)], false)
  | _ => ([(0, .y)], false)

/-! ### Planning (R198) -/

/-- What the planning of one list has produced so far. -/
structure Planning where
  cur : NibState
  last : Option Int
  /-- entries planned, newest first, each with cur and last before it -/
  plan : List ((Int × NibState) × NibState × Option Int)
  supp : Nat
  delayed : Nat

/-- One entry of an edge list (R198). -/
def planEntry (dtp : Nat) (p : Planning) (e : Int × NibState) : Planning :=
  let (x, s) := e
  if s = p.cur then p
  else
    let near := match p.last with
      | none => false
      | some l => decide (x - l < dtp)
    let put (x : Int) (d : Nat) : Planning :=
      { p with cur := s, last := some x, plan := ((x, s), p.cur, p.last) :: p.plan, delayed := p.delayed + d }
    if s = .b ∨ s = .y then
      if near then put (p.last.getD 0 + dtp) 1 else put x 0
    else if near then
      match p.plan with
      | ((_, st), c0, l0) :: t =>
        if st = .b ∨ st = .y then { p with supp := p.supp + 1 }
        else { p with cur := c0, last := l0, plan := t, supp := p.supp + 1 }
      | [] => { p with supp := p.supp + 1 }
    else put x 0

/-- EDGE_PLAN: plan an edge list for stroke `t` (R198). -/
def planList (c : Ihloon) (tq t : Nat) (l : List (Nat × NibState)) : Ihloon :=
  let n := c.cell.nib
  let p := (l.map (fun e => (((t * tq + e.1 : Nat) : Int), e.2))).foldl (planEntry c.dtp) ⟨n.cur, n.last, [], 0, 0⟩
  let c := c.onNib (fun n => { n with cur := p.cur, last := p.last, plan := n.plan ++ (p.plan.reverse.map (·.1)) })
  let c := if p.delayed = 0 then c else c.inc F.NIB_CNT1_DELAY 0 p.delayed
  if p.supp = 0 then c
  else
    ((((c.inc F.NIB_CNT0_SUPP 0 p.supp).up F.NIB_STAT_SUPP).raise 10).irq 3).onNib (fun n => { n with supp := t :: (n.supp.filter (· ≠ t)).take 2 })

/-- Form and plan the list of a word for stroke `t`. -/
def planWord (c : Ihloon) (T t st pol e : Nat) : Ihloon :=
  let tq := edgeSteps T
  let r := c.edgeList tq st pol e
  let c := if r.2 then ((c.inc F.NIB_CNT0_CCLAMP).up F.NIB_STAT_CCLAMP).irq 3 else c
  c.planList tq t r.1

/-- The module takes the word `w` chosen for stroke `t` at its arming deadline, or at a resumption (R185, R195, R206,
R210, R213). -/
def takeWord (c : Ihloon) (T t w : Nat) : Ihloon :=
  let st0 := bits w 0 3
  let st := if c.on F.LNK_HSTAT_SAFE && st0 != 6 then 5 else st0
  if !c.nibOn ∨ c.rd F.RSV_STAT_STAGE = 5 then
    if st = 6 then c.onNib (fun n => { n with bypassAt := some t }) else c.onNib (fun n => { n with waiting := some (t, w) })
  else if c.on F.NIB_STAT_FROZEN then c.onNib (fun n => { n with waiting := some (t, w) })
  else
    let c := c.onNib (fun n => { n with strobe := some t, carrier := if st = 4 then some (bits w 4 16, bits w 3 1) else none })
    if c.gated then c else c.planWord T t st (bits w 3 1) (bits w 4 16)

/-! ### Execution of edges (R196, R205, R212) -/

/-- An output rises: the timer channels that start on it start (R205, R216). -/
def startTimers (c : Ihloon) (pin : Nat) : Ihloon :=
  (c.each [0, 1, 2, 3] (fun c n =>
    if (c.rd F.NIB_TMR_CFG_MODE n = 1 ∨ c.rd F.NIB_TMR_CFG_MODE n = 2) ∧ c.rd F.NIB_TMR_CFG_START n = pin ∧
        c.rd F.NIB_TMR_LEN_LEN n ≠ 0
    then c.up F.NIB_TMR_STAT_RUN n else c)).showAux

/-- INTERLOCK: both outputs of a pair would be high at once (R212). -/
def interlock (c : Ihloon) (T tick : Nat) : Ihloon :=
  let c := (((c.up F.PRT_STAT_ILOCK).inc F.PRT_CNT_ACTS).gate (c.instant T tick)).irq 4
  c.lastFault T 7 tick

/-- Output `pin` turns on at instant `x`. -/
def turnOn (c : Ihloon) (T : Nat) (x : Int) (pin : Nat) : Ihloon :=
  if bit c.cell.nib.levels (pin ^^^ 1) then c.interlock T ((x - c.instant T 0) / 10).toNat
  else if bit c.cell.nib.levels pin then c
  else
    (c.onNib (fun n => { n with levels := setBit n.levels pin true, rose := Tab.set 0 n.rose pin x })).startTimers pin

/-- The legs whose switches change from `old` to `new` move at instant `x`: of each, the outgoing switch turns off at once and the
incoming one after DT (R196). -/
def moveLegs (c : Ihloon) (T : Nat) (x : Int) (old new : Nat) : Ihloon :=
  let moves (pin : Nat) : Bool := decide (bits old (pin / 2 * 2) 2 ≠ bits new (pin / 2 * 2) 2)
  let off := below 4 (fun p => moves p && !(bit new p))
  let onPins := below 4 (fun p => moves p && bit new p)
  let dt := 10 * c.rd F.NIB_DT_DT
  let c := c.onNib (fun n => { n with
    levels := off.foldl (fun l p => setBit l p false) n.levels, turnOn := n.turnOn.filter (fun e => !(off.contains e.2)) })
  if dt = 0 then onPins.foldl (fun (c : Ihloon) p => c.turnOn T x p) c
  else c.onNib (fun n => { n with turnOn := n.turnOn ++ (onPins.filter (fun p => !(bit n.levels p))).map (fun p => (x + dt, p)) })

/-- An edge of the plan at instant `x` to state `s` (R196). -/
def edge (c : Ihloon) (T : Nat) (x : Int) (s : NibState) : Ihloon :=
  let old := c.outs c.cell.nib.state
  let tq := edgeSteps T
  let c := c.onNib (fun n => { n with state := s })
  let c := ((c.wr F.NIB_STAT_STATE s.code).wr F.NIB_LAST_STEP (x.toNat % tq)).wr F.NIB_LAST_STK (x.toNat / tq)
  let c := c.moveLegs T x old (c.outs s)
  if s = .y then (if c.fired then c else ((c.fireBypass x).lastFault T 8 ((x - c.instant T 0) / 10).toNat).irq 4) else c

/-- The outputs follow a new cell type or zero state: the legs whose switches differ from those of the present state move as for
an edge, which is none of the plan (R193; DEDUCED, log entry 214). A frozen module keeps its levels until it resumes (R210). -/
def redrive (c : Ihloon) (T : Nat) : Ihloon :=
  if c.on F.NIB_STAT_FROZEN || c.gated then c
  else
    let n := c.cell.nib
    c.moveLegs T (c.instant T 0) (n.turnOn.foldl (fun l e => setBit l e.2 true) n.levels) (c.outs n.state)

/-- NIB_EDGE: the next instant of the module arrives, a planned edge or the end of a dead time (R196). -/
def nibEdge (c : Ihloon) (T : Nat) : Ihloon :=
  if c.on F.NIB_STAT_FROZEN || c.gated || !c.mainRuns then c
  else
    let ons := c.cell.nib.turnOn
    let first : Option (Int × Nat) := ons.foldl (fun m e => match m with
      | none => some e
      | some d => if e.1 < d.1 then some e else some d) none
    let dropOn (e : Int × Nat) (c : Ihloon) : Ihloon := c.onNib (fun n => { n with turnOn := n.turnOn.filter (fun y => y ≠ e) })
    let dropEdge (c : Ihloon) : Ihloon := c.onNib (fun n => { n with plan := n.plan.drop 1 })
    match c.cell.nib.plan, first with
    | [], none => c
    | [], some e => (dropOn e c).turnOn T e.1 e.2
    | (x, s) :: _, none => (dropEdge c).edge T x s
    | (x, s) :: _, some e => if x ≤ e.1 then (dropEdge c).edge T x s else (dropOn e c).turnOn T e.1 e.2

/-! ### Trips, overvoltage, silence (R203-R208) -/

/-- An urgent request of a trip (R227). -/
def tripUrgent (c : Ihloon) (T tick n : Nat) : Ihloon :=
  let f := nth F.CAQ_TURG_IN0 [F.CAQ_TURG_IN0, F.CAQ_TURG_IN1, F.CAQ_TURG_IN2, F.CAQ_TURG_IN3] n
  if c.on F.PRT_TRIP_URG n then c.onAq (fun p => p.request AqMap.cell n (p.rd f) (some (c.instant T tick))) else c

/-- A trip acts (R204). -/
def tripAct (c : Ihloon) (T n tick : Nat) : Ihloon :=
  let act := c.rd F.PRT_TRIP_ACT n
  let x := c.instant T tick
  let c := ((c.wrBit F.PRT_STAT_TRIP n true).wr F.PRT_TTS_TICK tick n).wr F.PRT_TTS_STK c.stroke n
  let c := (c.inc F.PRT_CNT_TRIPS).onIsl (fun s => { s with tripd := true, tripDone := n :: without s.tripDone n })
  let c := (c.tripUrgent T tick n).irq 4
  match act with
  | 0 => c.showPrt
  | 1 =>
    let c := (c.onIsl (fun s => { s with tripLatch := n :: without s.tripLatch n })).inc F.PRT_CNT_ACTS
    (c.gate x).lastFault T 1 tick
  | _ => ((c.fireBypass x).showPrt).lastFault T 2 tick

/-- Trip input `n` is blanked: its timer channel runs in MODE 1 (R205). -/
def blanked (c : Ihloon) (n : Nat) : Bool :=
  let ch := c.rd F.PRT_TRIP_TMR n
  c.on F.PRT_TRIP_BLK_EN n && c.rd F.NIB_TMR_CFG_MODE ch == 1 && c.on F.NIB_TMR_STAT_RUN ch

/-- TRIP: an active input acts once, by the first path that sees it active and unblanked (R203). -/
def trip (c : Ihloon) (T n tick : Nat) : Ihloon :=
  let c := (c.wrBit F.PRT_STAT_TRIP_LIVE n true).irq 4
  if c.blanked n || c.cell.isl.tripDone.contains n then c else c.tripAct T n tick

/-- The input returns to its inactive level (R203). -/
def tripRelease (c : Ihloon) (n : Nat) : Ihloon :=
  (c.wrBit F.PRT_STAT_TRIP_LIVE n false).onIsl (fun s => { s with tripDone := without s.tripDone n })

/-- Trips whose input is active and has not acted act once nothing blanks them. -/
def unblank (c : Ihloon) (T tick : Nat) : Ihloon :=
  c.each [0, 1, 2, 3] (fun c n =>
    if bit (c.rd F.PRT_STAT_TRIP_LIVE) n && !(c.cell.isl.tripDone.contains n) && !(c.blanked n) then c.tripAct T n tick else c)

/-- BLANKING_END of timer channel `ch` (R205). -/
def blankingEnd (c : Ihloon) (T ch tick : Nat) : Ihloon :=
  if c.rd F.NIB_TMR_CFG_MODE ch = 1 then ((c.down F.NIB_TMR_STAT_RUN ch).unblank T tick).showAux else c

/-- TIMER_PULSE_END of a channel in MODE 2 (R216). -/
def timerPulseEnd (c : Ihloon) (ch : Nat) : Ihloon :=
  if c.rd F.NIB_TMR_CFG_MODE ch = 2 ∧ c.on F.NIB_TMR_STAT_RUN ch then ((c.down F.NIB_TMR_STAT_RUN ch).showAux).irq 7 else c

/-- LATCH_CLEAR: a W1C of trip bit 0-3 or, as bit 4, of OVP that is set (R206). -/
def latchClear (c : Ihloon) (b : Nat) : Ihloon :=
  if !(if b < 4 then bit (c.rd F.PRT_STAT_TRIP) b else c.on F.PRT_STAT_OVP) then c
  else if b < 4 then
    if bit (c.rd F.PRT_STAT_TRIP_LIVE) b then c.inc F.PRT_ERRCNT_CLRREJ
    else ((c.wrBit F.PRT_STAT_TRIP b false).onIsl (fun s => { s with tripLatch := without s.tripLatch b })).showPrt
  else if c.on F.PRT_STAT_OVP_LIVE then c.inc F.PRT_ERRCNT_CLRREJ
  else ((c.down F.PRT_STAT_OVP).onIsl (fun s => { s with ovpLatch := false })).showPrt

/-- ILOCK_CLEAR: only after the module has been disabled (R206). -/
def ilockClear (c : Ihloon) : Ihloon :=
  if !(c.on F.PRT_STAT_ILOCK) then c
  else if c.nibOn then c.inc F.PRT_ERRCNT_CLRREJ else (c.down F.PRT_STAT_ILOCK).showPrt

/-- OVERVOLTAGE: OVP_IN crosses its threshold (R207). -/
def overvoltage (c : Ihloon) (T tick : Nat) : Ihloon :=
  if c.on F.PRT_STAT_OVP_LIVE then c
  else
    let x := c.instant T tick
    let c := ((c.up F.PRT_STAT_OVP_LIVE).up F.PRT_STAT_OVP).irq 4
    let c : Ihloon := if c.on F.PRT_OVP_ACT then (c.fireBypass x).showPrt
      else ((c.onIsl (fun s => { s with ovpLatch := true })).inc F.PRT_CNT_ACTS).gate x
    c.lastFault T 3 tick

/-- OVP_RELEASE. -/
def ovpRelease (c : Ihloon) : Ihloon := c.down F.PRT_STAT_OVP_LIVE

/-- The safe action at instant `x` with its record (R185, R208): block or bypass as PRT_CFG.SAFE selects; with the main
domain running SAFE is set, the accepted claim is cleared and the stage returns to 5. -/
def safeAct (c : Ihloon) (T cause tick : Nat) : Ihloon :=
  let x := c.instant T tick
  let byp := c.on F.PRT_CFG_SAFE
  let acc := c.reg R.LNK_ACC
  let c := (c.onIsl (fun s => { s with safe := some byp })).inc F.PRT_CNT_ACTS
  let c : Ihloon := if c.mainRuns then
      ((((c.up F.LNK_HSTAT_SAFE).setReg R.LNK_ACC 0).down F.LNK_HSTAT_HOLD).lower 8).wr F.RSV_STAT_STAGE
        (min 5 (c.rd F.RSV_STAT_STAGE))
    else c
  let c := (c.nibOff x).onRsv (fun r => { r with auto := false })
  let c : Ihloon := if byp then c.fireBypass x else c.gate x
  (c.showPrt.lastFaultAcc T cause tick acc).irq 4

/-- SAFE_ACTION: HOLD strokes of hold-over have expired (R184). -/
def safeAction (c : Ihloon) (T : Nat) : Ihloon :=
  if c.mainRuns && c.on F.LNK_ACC_VALID && decide (c.rd F.LNK_CMD_HOLD < c.rd F.LNK_HSTAT_HCNT) then c.safeAct T 5 0 else c

/-- LINK_SILENCE (R208). -/
def linkSilence (c : Ihloon) (T tick : Nat) : Ihloon :=
  if c.cell.isl.silence then
    (((c.onIsl (fun s => { s with silence := false })).up F.PRT_STAT_SIL).safeAct T 4 tick).irq 4
  else c

/-- CLR_SAFE, over the management channel only: SAFE and the safe-action latches clear (R185, R206); the island may enable
the module again where the cell had taken its safe action (R250). -/
def clrSafe (c : Ihloon) : Ihloon :=
  let was := c.on F.LNK_HSTAT_SAFE
  let c := ((c.down F.LNK_HSTAT_SAFE).down F.PRT_STAT_SIL).onIsl (fun s => { s with safe := none, resvBlock := false })
  (c.onRsv (fun r => { r with auto := r.auto || was })).showPrt

/-! ### Freeze (R210) -/

/-- FREEZE by a debug halt (permission bit 2) or a stop of the main clocks: outputs keep their levels, planned edges do not
execute, blanking windows end. A switch whose dead time runs turns on when the module resumes (log entry 175). -/
def freeze (c : Ihloon) (T tick : Nat) (clockStop : Bool) : Ihloon :=
  let allowed := clockStop || bit (c.rd F.CSEC_DBGCTL_PERM) 2
  if !allowed then c
  else
    let had := c.on F.NIB_STAT_FROZEN
    let c : Ihloon := if had then c else (c.up F.NIB_STAT_FROZEN).onNib (fun n => { n with
      plan := [], cur := n.state, strobe := none })
    let c := c.onNib (fun n => { n with resuming := false })
    let c : Ihloon := if clockStop then (c.onRsv (fun r => { r with clocks := false })).onCell (fun s =>
        { s with aq := { s.aq with stopped := true, entry := none } })
      else c.onCore (fun k => { k with halted := true })
    let c := c.each [0, 1, 2, 3] (fun c n => if c.rd F.NIB_TMR_CFG_MODE n = 1 then c.down F.NIB_TMR_STAT_RUN n else c)
    c.unblank T tick

/-- FREEZE_RESUME: the module goes on at the next stroke boundary. -/
def freezeResume (c : Ihloon) : Ihloon :=
  if !(c.on F.NIB_STAT_FROZEN) then c
  else
    ((c.onNib (fun n => { n with resuming := true })).onRsv (fun r => { r with clocks := r.main })).onCore
      (fun k => { k with halted := false })

/-- CORE_RESET: the nib module is disabled, the island keeps everything (R214). -/
def coreReset (c : Ihloon) (T tick : Nat) : Ihloon :=
  let c := c.nibDisable T tick
  (c.onCore (fun k => { Core.reset with mem := k.mem })).onCell (fun s => { s with waitsFor := none })

/-- The module at SB(n): an accepted enable takes effect, a frozen module resumes with the word accepted for this stroke,
the strobe goes to the island, an accepted BYPASS word fires through the island (R202, R208, R210, R213). -/
def nibBoundary (c : Ihloon) (T : Nat) : Ihloon :=
  let n := c.stroke
  let c : Ihloon := if c.cell.nib.starting then
      let c := (c.up F.NIB_STAT_EN_ACT).onNib (fun s => { s with starting := false })
      match c.cell.nib.waiting with
      | some (t, w) => if t = n ∧ !(c.on F.NIB_STAT_FROZEN) then c.takeWord T t w else c
      | none => c
    else c
  let c : Ihloon := if c.cell.nib.resuming && c.mainRuns then
      let c := (c.down F.NIB_STAT_FROZEN).onNib (fun s => { s with
        resuming := false, turnOn := s.turnOn.map (fun e => (max e.1 (c.instant T 0), e.2)) })
      let c := c.redrive T
      let c := c.onCell (fun s => { s with aq := { s.aq with stopped := false } })
      match c.cell.nib.waiting with
      | some (t, w) => if t = n then c.takeWord T t w else c
      | none => c
    else c
  let c : Ihloon := if c.cell.nib.strobe = some n && c.on F.NIB_STAT_EN_ACT && c.mainRuns then
      c.onIsl (fun s => { s with silence := true }) else c
  let c := c.onNib (fun s => { s with waiting := none })
  if c.cell.nib.bypassAt = some n then
    let c := c.onNib (fun s => { s with bypassAt := none })
    if c.fired then c else ((c.fireBypass (c.instant T 0)).lastFault T 8 0).irq 4
  else c

end Ihloon

end Sys2Proof.Machine
end

