-- ==== Sys2Proof/Machine/Quill.lean ====
section
/-!
DEFINITION. The Quill instruction set on one core: registers, flags, encodings and their legality, integer, accumulator
and vector instructions, branches (R258-R273, R284, R285).
-/

namespace Sys2Proof.Machine

/-! ### Encodings (R264, R285) -/

namespace Enc

/-- Format R. -/
def r (op rd ra rb fn : Nat) : Nat := op + rd * 2 ^ 6 + ra * 2 ^ 11 + rb * 2 ^ 16 + fn * 2 ^ 21

/-- Format I. -/
def i (op rd ra imm : Nat) : Nat := op + rd * 2 ^ 6 + ra * 2 ^ 11 + imm * 2 ^ 16

/-- Format B. -/
def b (op ra rb ofs : Nat) : Nat := op + ra * 2 ^ 6 + rb * 2 ^ 11 + ofs * 2 ^ 16

/-- Format J. -/
def j (op rd ofs : Nat) : Nat := op + rd * 2 ^ 6 + ofs * 2 ^ 11

/-- Format A: `x` is RB or SH. -/
def a (op rd ra x acc fn : Nat) : Nat := op + rd * 2 ^ 6 + ra * 2 ^ 11 + x * 2 ^ 16 + acc * 2 ^ 22 + fn * 2 ^ 25

/-- Format S. -/
def s (op rd ra imm fn : Nat) : Nat := op + rd * 2 ^ 6 + ra * 2 ^ 11 + imm * 2 ^ 16 + fn * 2 ^ 28

/-- Format M. -/
def m (op rd ra rb tag fn : Nat) : Nat :=
  op + rd * 2 ^ 6 + ra * 2 ^ 11 + rb * 2 ^ 16 + tag * 2 ^ 21 + fn * 2 ^ 28

/-- A CSR number that a core holds (R278). -/
def csrHeld (quill : Bool) (n : Nat) : Bool :=
  if quill then has [0x000, 0x001, 0x002, 0x003, 0x004, 0x005, 0x006, 0x008, 0x009, 0x00A, 0x010, 0x011, 0x012] n
  else has [0x000, 0x001, 0x003, 0x004, 0x005, 0x006, 0x008, 0x009, 0x00A, 0x00B, 0x00C, 0x00D, 0x00E, 0x00F, 0x011] n

/-- Whether a word is a legal instruction on a core (R265, R273, R284, R285). -/
def legal (quill : Bool) (w : Nat) : Bool :=
  let op := bits w 0 6
  let rd := bits w 6 5
  let ra := bits w 11 5
  let rb := bits w 16 5
  if op = 0x00 then
    let fn := bits w 21 11
    decide (1 ≤ fn ∧ fn ≤ 0x022) && (!(has [0x01B, 0x01C, 0x020, 0x022] fn) || rb == 0)
  else if op = 0x05 then ra == 0
  else if op ≤ 0x06 then true
  else if 0x08 ≤ op ∧ op ≤ 0x0F then true
  else if 0x10 ≤ op ∧ op ≤ 0x15 then true
  else if op = 0x16 then decide (rd ≤ 8) && ra == 0
  else if op = 0x18 ∨ op = 0x19 then true
  else if op = 0x1C then
    let fn := bits w 25 7
    let sh := bits w 16 6
    quill &&
      (if 1 ≤ fn ∧ fn ≤ 5 then rd == 0 && decide (sh < 32)
       else if fn = 6 then rd == 0 && decide (sh ≤ 16)
       else if 7 ≤ fn ∧ fn ≤ 9 then ra == 0 && decide (sh ≤ 47)
       else decide (fn = 10 ∨ fn = 11) && ra == 0 && sh == 0)
  else if op = 0x1D then
    let fn := bits w 21 11
    quill && decide (1 ≤ fn ∧ fn ≤ 10) && (!(has [6, 7, 9] fn) || rb == 0)
  else if op = 0x1E then
    let fn := bits w 28 4
    let imm := bits w 16 12
    if fn = 0 then ra == 0 && csrHeld quill imm
    else if fn = 1 then rd == 0 && csrHeld quill imm
    else if fn = 2 ∨ fn = 3 then csrHeld quill imm
    else if fn = 4 then true
    else if fn = 5 then quill
    else if 6 ≤ fn ∧ fn ≤ 8 then quill && imm == 0
    else if fn = 9 then quill && rd == 0 && imm == 0
    else if fn = 10 ∨ fn = 11 then quill && rd == 0 && ra == 0 && imm == 0
    else if fn = 12 ∨ fn = 14 then rd == 0 && ra == 0 && imm == 0
    else if fn = 13 then rd == 0 && ra == 0
    else !quill && rd == 0 && ra == 0 && imm == 0
  else if op = 0x1F then
    let fn := bits w 28 4
    let tag := bits w 21 2
    quill && bits w 23 5 == 0 &&
      (if fn = 1 ∨ fn = 2 then true
       else if fn = 3 then ra == 0 && rb == 0
       else decide (fn = 4 ∨ fn = 5) && rb == 0 && tag == 0)
  else false

end Enc

/-! ### Flags, registers and results -/

/-- The word of FLAGS (R260). -/
def Flags.word (f : Flags) : Nat :=
  f.n.toNat + f.z.toNat * 2 + f.c.toNat * 4 + f.v.toNat * 8 + f.q.toNat * 256 + f.aq.toNat * 512

/-- FLAGS from a word. -/
def Flags.ofWord (w : Nat) : Flags := ⟨bit w 0, bit w 1, bit w 2, bit w 3, bit w 8, bit w 9⟩

namespace Core

/-- Register w`n`; w0 reads as 0 (R259). -/
def reg (k : Core) (n : Nat) : Nat := if n = 0 then 0 else (Tab.get 0 k.w n).toNat

/-- Register w`n` as a signed value. -/
def sreg (k : Core) (n : Nat) : Int := toS 32 (k.reg n)

/-- Write w`n`; a write to w0 is discarded (R259). -/
def setReg (k : Core) (n v : Nat) : Core := if n = 0 then k else { k with w := Tab.set 0 k.w n (BitVec.ofNat 32 v) }

/-- Advance the pc past the instruction. -/
def next (k : Core) : Core := { k with pc := (k.pc + 4) % 2 ^ 32 }

/-- N and Z from a result (R267). -/
def nz (k : Core) (v : Nat) : Core := { k with flags := { k.flags with n := bit v 31, z := v % 2 ^ 32 == 0 } }

/-- C and V. -/
def cv (k : Core) (c v : Bool) : Core := { k with flags := { k.flags with c := c, v := v } }

/-- Set the sticky bit Q when `x` holds (R269). -/
def stick (k : Core) (x : Bool) : Core := { k with flags := { k.flags with q := k.flags.q || x } }

/-- Set the sticky bit AQ when `x` holds (R271). -/
def stickA (k : Core) (x : Bool) : Core := { k with flags := { k.flags with aq := k.flags.aq || x } }

/-- A result that writes N and Z. -/
def result (k : Core) (rd v : Nat) : Core := (k.setReg rd v).nz v

/-- A signed result clamped to `w` bits: Q, N and Z (R269). -/
def clamped (k : Core) (rd w : Nat) (x : Int) : Core := (k.result rd (ofS 32 (satS w x))).stick (overS w x)

/-- An addition with carry in: the result, N, Z, C and V (R260). -/
def addWith (k : Core) (rd a b c : Nat) : Core :=
  let u := a + b + c
  (k.result rd (u % 2 ^ 32)).cv (decide (2 ^ 32 ≤ u)) (overS 32 (toS 32 a + toS 32 b + c))

/-- A subtraction with borrow in: C is 1 when no borrow occurred. -/
def subWith (k : Core) (rd a b c : Nat) : Core :=
  (k.result rd (ofS 32 ((a : Int) - b - c))).cv (decide (b + c ≤ a)) (overS 32 (toS 32 a - toS 32 b - c))

/-! ### Integer instructions (R267, R268) -/

def add (k : Core) (rd ra rb : Nat) : Core := k.addWith rd (k.reg ra) (k.reg rb) 0
def sub (k : Core) (rd ra rb : Nat) : Core := k.subWith rd (k.reg ra) (k.reg rb) 0
def addc (k : Core) (rd ra rb : Nat) : Core := k.addWith rd (k.reg ra) (k.reg rb) k.flags.c.toNat
def subc (k : Core) (rd ra rb : Nat) : Core := k.subWith rd (k.reg ra) (k.reg rb) (1 - k.flags.c.toNat)
def and (k : Core) (rd ra rb : Nat) : Core := k.result rd (k.reg ra &&& k.reg rb)
def or (k : Core) (rd ra rb : Nat) : Core := k.result rd (k.reg ra ||| k.reg rb)
def xor (k : Core) (rd ra rb : Nat) : Core := k.result rd (k.reg ra ^^^ k.reg rb)

/-- Shifts by an amount of 0-31. -/
def shlBy (k : Core) (rd ra n : Nat) : Core := k.result rd (k.reg ra * 2 ^ n % 2 ^ 32)
def shrBy (k : Core) (rd ra n : Nat) : Core := k.result rd (k.reg ra / 2 ^ n)
def shaBy (k : Core) (rd ra n : Nat) : Core := k.result rd (ofS 32 (k.sreg ra / 2 ^ n))

def shl (k : Core) (rd ra rb : Nat) : Core := k.shlBy rd ra (k.reg rb % 32)
def shr (k : Core) (rd ra rb : Nat) : Core := k.shrBy rd ra (k.reg rb % 32)
def sha (k : Core) (rd ra rb : Nat) : Core := k.shaBy rd ra (k.reg rb % 32)
def slt (k : Core) (rd ra rb : Nat) : Core := k.result rd (if k.sreg ra < k.sreg rb then 1 else 0)
def sltu (k : Core) (rd ra rb : Nat) : Core := k.result rd (if k.reg ra < k.reg rb then 1 else 0)
def min (k : Core) (rd ra rb : Nat) : Core := k.result rd (if k.sreg rb < k.sreg ra then k.reg rb else k.reg ra)
def max (k : Core) (rd ra rb : Nat) : Core := k.result rd (if k.sreg ra < k.sreg rb then k.reg rb else k.reg ra)
def mul (k : Core) (rd ra rb : Nat) : Core := k.result rd (k.reg ra * k.reg rb % 2 ^ 32)
def mulh (k : Core) (rd ra rb : Nat) : Core := k.result rd (ofS 32 (k.sreg ra * k.sreg rb / 2 ^ 32))
def mulhu (k : Core) (rd ra rb : Nat) : Core := k.result rd (k.reg ra * k.reg rb / 2 ^ 32)

/-- DIV: division by 0 gives the extreme value of RA's sign, and Q; the one overflow clamps. -/
def div (k : Core) (rd ra rb : Nat) : Core :=
  if k.reg rb = 0 then (k.result rd (if 0 ≤ k.sreg ra then 0x7FFFFFFF else 0x80000000)).stick true
  else k.clamped rd 32 (Int.tdiv (k.sreg ra) (k.sreg rb))

def divu (k : Core) (rd ra rb : Nat) : Core :=
  if k.reg rb = 0 then (k.result rd 0xFFFFFFFF).stick true else k.result rd (k.reg ra / k.reg rb)

/-- REM: the sign is that of RA. -/
def rem (k : Core) (rd ra rb : Nat) : Core :=
  if k.reg rb = 0 then (k.result rd (k.reg ra)).stick true
  else k.result rd (ofS 32 (Int.tmod (k.sreg ra) (k.sreg rb)))

def remu (k : Core) (rd ra rb : Nat) : Core :=
  if k.reg rb = 0 then (k.result rd (k.reg ra)).stick true else k.result rd (k.reg ra % k.reg rb)

def adds (k : Core) (rd ra rb : Nat) : Core := k.clamped rd 32 (k.sreg ra + k.sreg rb)
def subs (k : Core) (rd ra rb : Nat) : Core := k.clamped rd 32 (k.sreg ra - k.sreg rb)
def abss (k : Core) (rd ra : Nat) : Core := k.clamped rd 32 (k.sreg ra).natAbs
def negs (k : Core) (rd ra : Nat) : Core := k.clamped rd 32 (-(k.sreg ra))
def adds14 (k : Core) (rd ra rb : Nat) : Core := k.clamped rd 14 (k.sreg ra + k.sreg rb)
def subs14 (k : Core) (rd ra rb : Nat) : Core := k.clamped rd 14 (k.sreg ra - k.sreg rb)
def muls14 (k : Core) (rd ra rb : Nat) : Core := k.clamped rd 14 (rshR (k.sreg ra * k.sreg rb) 13)
def sat14 (k : Core) (rd ra : Nat) : Core := k.clamped rd 14 (k.sreg ra)

/-- SATS: the range has RB[4:0] + 1 bits, 2-32. -/
def sats (k : Core) (rd ra rb : Nat) : Core :=
  k.clamped rd ((if k.reg rb % 32 = 0 then 1 else k.reg rb % 32) + 1) (k.sreg ra)

/-- Number of leading zero bits of a 32-bit value. -/
def leading (v : Nat) : Nat := ((List.range 32).find? (fun n => bit v (31 - n))).getD 32

def clz (k : Core) (rd ra : Nat) : Core := k.result rd (leading (k.reg ra))

/-- IMM16 and other signed immediates, as a 32-bit value. -/
def sext (w v : Nat) : Nat := ofS 32 (toS w v)

def addi (k : Core) (rd ra imm : Nat) : Core := k.addWith rd (k.reg ra) (sext 16 imm) 0
def andi (k : Core) (rd ra imm : Nat) : Core := k.result rd (k.reg ra &&& imm % 2 ^ 16)
def ori (k : Core) (rd ra imm : Nat) : Core := k.result rd (k.reg ra ||| imm % 2 ^ 16)
def xori (k : Core) (rd ra imm : Nat) : Core := k.result rd (k.reg ra ^^^ imm % 2 ^ 16)
def lui (k : Core) (rd imm : Nat) : Core := k.setReg rd (imm % 2 ^ 16 * 2 ^ 16)
def slti (k : Core) (rd ra imm : Nat) : Core := k.setReg rd (if k.sreg ra < toS 16 imm then 1 else 0)

/-! ### Branches and jumps (R266, R270): these set the pc themselves -/

/-- pc + 4 × offset. -/
def target (k : Core) (ofs : Int) : Nat := ofS 32 (k.pc + 4 * ofs)

/-- A B-format branch. -/
def branch (k : Core) (taken : Bool) (ofs : Nat) : Core := if taken then { k with pc := k.target (toS 16 ofs) } else k.next

def beq (k : Core) (ra rb ofs : Nat) : Core := k.branch (k.reg ra == k.reg rb) ofs
def bne (k : Core) (ra rb ofs : Nat) : Core := k.branch (k.reg ra != k.reg rb) ofs
def blt (k : Core) (ra rb ofs : Nat) : Core := k.branch (decide (k.sreg ra < k.sreg rb)) ofs
def bge (k : Core) (ra rb ofs : Nat) : Core := k.branch (decide (k.sreg rb ≤ k.sreg ra)) ofs
def bltu (k : Core) (ra rb ofs : Nat) : Core := k.branch (decide (k.reg ra < k.reg rb)) ofs
def bgeu (k : Core) (ra rb ofs : Nat) : Core := k.branch (decide (k.reg rb ≤ k.reg ra)) ofs

/-- The flag conditions of BFL. -/
def flagIs (k : Core) (code : Nat) : Bool :=
  let f := k.flags
  nth false [f.z, !f.z, f.n, !f.n, f.c, !f.c, f.v, !f.v, f.q] code

def bfl (k : Core) (code ofs : Nat) : Core := k.branch (k.flagIs code) ofs

def jal (k : Core) (rd ofs : Nat) : Core :=
  { k.setReg rd ((k.pc + 4) % 2 ^ 32) with pc := k.target (toS 21 ofs) }

def jalr (k : Core) (rd ra imm : Nat) : Core :=
  { k.setReg rd ((k.pc + 4) % 2 ^ 32) with pc := (k.reg ra + sext 16 imm) % 2 ^ 32 / 4 * 4 }

/-! ### Accumulators (R271) -/

/-- Accumulator n. -/
def accOf (k : Core) (n : Nat) : Int := Tab.get 0 k.acc n

/-- Write an accumulator with sat48; AQ is set when it clamps. -/
def setAcc (k : Core) (n : Nat) (x : Int) : Core :=
  ({ k with acc := Tab.set 0 k.acc n (satS 48 x) }).stickA (overS 48 x)

/-- The lanes of a register as signed 16-bit values. -/
def lo (k : Core) (n : Nat) : Int := toS 16 (k.reg n)
def hi (k : Core) (n : Nat) : Int := toS 16 (k.reg n / 2 ^ 16)

def macz (k : Core) (acc ra rb : Nat) : Core := k.setAcc acc (k.sreg ra * k.sreg rb)

def mac (k : Core) (acc ra rb : Nat) : Core :=
  let p := k.sreg ra * k.sreg rb
  (k.setAcc acc (k.accOf acc + satS 48 p)).stickA (overS 48 p)

def msu (k : Core) (acc ra rb : Nat) : Core :=
  let p := k.sreg ra * k.sreg rb
  (k.setAcc acc (k.accOf acc - satS 48 p)).stickA (overS 48 p)

def macv (k : Core) (acc ra rb : Nat) : Core := k.setAcc acc (k.accOf acc + k.lo ra * k.lo rb + k.hi ra * k.hi rb)
def accw (k : Core) (acc ra rb : Nat) : Core := k.setAcc acc (toS 48 (k.reg rb % 2 ^ 16 * 2 ^ 32 + k.reg ra))
def accadd (k : Core) (acc ra sh : Nat) : Core := k.setAcc acc (k.accOf acc + k.sreg ra * 2 ^ sh)

/-- Write a signed value clamped to `w` bits; Q but neither N nor Z. -/
def put (k : Core) (rd w : Nat) (x : Int) : Core := (k.setReg rd (ofS 32 (satS w x))).stick (overS w x)

def accrr (k : Core) (rd acc sh : Nat) : Core := k.put rd 32 (rshR (k.accOf acc) sh)
def accrd (k : Core) (rd acc sh : Nat) : Core := k.put rd 32 (k.accOf acc / 2 ^ sh)
def accr14 (k : Core) (rd acc sh : Nat) : Core := k.put rd 14 (rshR (k.accOf acc) sh)
def acclo (k : Core) (rd acc : Nat) : Core := k.setReg rd (ofS 32 (k.accOf acc))
def acchi (k : Core) (rd acc : Nat) : Core := k.setReg rd (ofS 32 (k.accOf acc / 2 ^ 32))

/-! ### Vector forms (R272) -/

/-- Two lane results, each clamped to 14 bits; a clamp in either sets Q. -/
def lanes (k : Core) (rd : Nat) (x y : Int) : Core :=
  (k.setReg rd (ofS 16 (satS 14 x) + ofS 16 (satS 14 y) * 2 ^ 16)).stick (overS 14 x || overS 14 y)

def vadd (k : Core) (rd ra rb : Nat) : Core := k.lanes rd (k.lo ra + k.lo rb) (k.hi ra + k.hi rb)
def vsub (k : Core) (rd ra rb : Nat) : Core := k.lanes rd (k.lo ra - k.lo rb) (k.hi ra - k.hi rb)
def vmul (k : Core) (rd ra rb : Nat) : Core := k.lanes rd (rshR (k.lo ra * k.lo rb) 13) (rshR (k.hi ra * k.hi rb) 13)
def vmin (k : Core) (rd ra rb : Nat) : Core := k.lanes rd (Min.min (k.lo ra) (k.lo rb)) (Min.min (k.hi ra) (k.hi rb))
def vmax (k : Core) (rd ra rb : Nat) : Core := k.lanes rd (Max.max (k.lo ra) (k.lo rb)) (Max.max (k.hi ra) (k.hi rb))
def vabs (k : Core) (rd ra : Nat) : Core := k.lanes rd (k.lo ra).natAbs (k.hi ra).natAbs
def vneg (k : Core) (rd ra : Nat) : Core := k.lanes rd (-(k.lo ra)) (-(k.hi ra))
def vpack (k : Core) (rd ra rb : Nat) : Core := k.lanes rd (k.sreg ra) (k.sreg rb)
def vsum (k : Core) (rd ra : Nat) : Core := k.setReg rd (ofS 32 (k.lo ra + k.hi ra))
def vdot (k : Core) (rd ra rb : Nat) : Core := k.put rd 32 (k.lo ra * k.lo rb + k.hi ra * k.hi rb)

/-! ### Memory of the core -/

/-- FENCE: fetches see every byte as it stands (R273, R276). -/
def fence (k : Core) : Core := { k with stale := [] }

/-- A byte as a fetch sees it. -/
def fetchByte (k : Core) (a : Nat) : Nat := ((Tab.get none k.stale a).getD (Memory.byte k.mem a)).toNat

/-- A word of the core's memory as a fetch sees it. -/
def fetchWord (k : Core) (a : Nat) : Nat :=
  k.fetchByte a + k.fetchByte (a + 1) * 2 ^ 8 + k.fetchByte (a + 2) * 2 ^ 16 + k.fetchByte (a + 3) * 2 ^ 24

/-- A correctable error is corrected and counted (R279, R286). -/
def corrected (k : Core) : Core := { k with ecc := satU 16 (k.ecc + 1), dbgCe := satU 16 (k.dbgCe + 1) }

/-- An uncorrectable error is counted. -/
def uncorrectable (k : Core) : Core := { k with dbgUe := satU 16 (k.dbgUe + 1) }

/-- MVSTAT (R278): tags outstanding, and the status of tags 0-3. -/
def mvstat (k : Core) (task : Nat) : Nat :=
  (List.range 4).foldl (fun v t =>
    v + (if k.moves.any (fun m => m.tag == t && m.owner == some task) then 2 ^ t else 0)
      + (Tab.get 0 k.tags t - 1) * 2 ^ (8 + 2 * t)) 0

/-! ### The debug unit (R286) -/

/-- QDBG_STAT. -/
def dbgStat (k : Core) (quill : Bool) : Nat :=
  k.halted.toNat + (quill && k.fenced).toNat * 2 + k.busy.toNat * 4 + k.task % 256 * 2 ^ 8 + k.xcause % 256 * 2 ^ 16

/-- A read of the debug unit at an offset from QDBG_CTRL; on a Quill-S the accumulator registers are absent. -/
def dbgRead (k : Core) (quill : Bool) (o : Nat) : Core × Nat :=
  if o = 0x00 then (k, k.brkEn.toNat * 8)
  else if o = 0x04 then (k, k.dbgStat quill)
  else if o = 0x08 then (k, k.pc)
  else if o = 0x0C then (k, k.flags.word)
  else if o = 0x10 then (k, k.xcause % 2 ^ 16)
  else if o = 0x14 then (k, k.xpc)
  else if o = 0x18 then (k, k.xaddr)
  else if o = 0x1C then ({ k with dbgCe := 0, dbgUe := 0 }, k.dbgCe + k.dbgUe * 2 ^ 16)
  else if 0x100 ≤ o ∧ o < 0x180 ∧ o % 4 = 0 then (k, k.reg ((o - 0x100) / 4))
  else if quill = true ∧ 0x200 ≤ o ∧ o < 0x240 ∧ o % 4 = 0 then
    let n := (o - 0x200) / 8
    let v := ofS 48 (k.accOf n)
    if o % 8 = 0 then ({ k with accH := Tab.set 0 k.accH n (v / 2 ^ 32) }, v % 2 ^ 32) else (k, Tab.get 0 k.accH n)
  else (k, 0)

/-- What HALT, RESUME and STEP do to the core. -/
def dbgHalt (k : Core) : Core := { k with halted := true }
def dbgResume (k : Core) : Core := { k with halted := false, stepping := false }
def dbgStep (k : Core) : Core := { k with halted := true, stepping := true }

/-- A write of the debug unit other than of HALT, RESUME and STEP; most are accepted only while halted. -/
def dbgWrite (k : Core) (quill : Bool) (o v : Nat) : Core :=
  if o = 0x00 then { k with brkEn := bit v 3 }
  else if !k.halted then k
  else if o = 0x08 then { k with pc := v }
  else if o = 0x0C then { k with flags := { Flags.ofWord v with aq := quill && bit v 9 } }
  else if 0x100 ≤ o ∧ o < 0x180 ∧ o % 4 = 0 then k.setReg ((o - 0x100) / 4) v
  else if quill = true ∧ 0x200 ≤ o ∧ o < 0x240 ∧ o % 4 = 0 then
    let n := (o - 0x200) / 8
    if o % 8 = 0 then { k with acc := Tab.set 0 k.acc n (toS 48 (Tab.get 0 k.accH n * 2 ^ 32 + v)) }
    else { k with accH := Tab.set 0 k.accH n (v % 2 ^ 16) }
  else k

end Core

end Sys2Proof.Machine
end

