-- ==== Sys2Proof/Machine/RegLists.lean ====
section
/-!
DEFINITION. The fields of each block as lists, for the accesses that reach a register by its address (R5, R443, R445,
R172): which register holds an address, and which fields that register has.
-/

namespace Sys2Proof.Machine.FieldList

def ptp0 : List Fld := [F.PTP_CTRL_EN, F.PTP_CTRL_SERVO_EN, F.PTP_CTRL_FREERUN_OK, F.PTP_CTRL_STEP_REQ, F.PTP_CTRL_DOMAIN, F.PTP_CTRL_PROFILE, F.PTP_STATUS_STATE, F.PTP_STATUS_SLAVE_PORT, F.PTP_STATUS_GM_CHANGED, F.PTP_STATUS_SUSPECT_FREQ, F.PTP_STATUS_SUSPECT_CLASS, F.PTP_STATUS_HOLDSPEC_EXC, F.PTP_STATUS_TWIN_OFS, F.PTP_STATUS_SUSPECT_OFS, F.PTP_TIME0_SUBNS, F.PTP_TIME1_NS, F.PTP_TIME2_SEC_LO, F.PTP_TIME3_SEC_HI, F.PTP_PERIOD_PERIOD, F.PTP_STROKE0_NUM_LO, F.PTP_STROKE1_NUM_HI, F.PTP_RATE_ADJ, F.PTP_OFFSET_OFS, F.PTP_SERVO_KP_SHIFT, F.PTP_SERVO_KI_SHIFT, F.PTP_SERVO_RATE_CLAMP, F.PTP_SERVO_SLEW, F.PTP_GMWIN_FREQ_WIN, F.PTP_GMWIN_HOLD_TO, F.PTP_GMWIN_LOCK_NS, F.PTP_HOLDSPEC_SECONDS, F.PTP_TWIN_OFS, F.PTP_DISC_LANE_INTV, F.PTP_DISC_CELL_INTV, F.PTP_ERRCNT_DROP, F.PTP_ERRCNT_REJ, F.PTP_UTC_UTC_OFS, F.PTP_UTC_VALID, F.PTP_UTC_LEAP61, F.PTP_UTC_LEAP59]
def ptp1 : List Fld := [F.PTP_P_CFG_ROLE, F.PTP_P_CFG_SPEED, F.PTP_P_CFG_LOG_SYNC, F.PTP_P_CFG_PDELAY_EN, F.PTP_P_ICORR_CORR, F.PTP_P_ECORR_CORR, F.PTP_P_PDELAY_DELAY, F.PTP_P_STATE_PORT_STATE]
/-- Every field of the PTP registers. -/
def ptp : List Fld := ptp0 ++ ptp1
def rul0 : List Fld := [F.RUL_CTRL_SRC, F.RUL_CTRL_BUMPLESS, F.RUL_CTRL_SW_CANCEL, F.RUL_STATUS_SRC_ACT, F.RUL_STATUS_SW_PEND, F.RUL_STATUS_VCLAMP, F.RUL_STATUS_SW_MISMATCH, F.RUL_STATUS_SW_LATE, F.RUL_STATUS_SEG_DONE, F.RUL_STATUS_SEG_REJ, F.RUL_STATUS_GEAR_ERR, F.RUL_STATUS_SET_REJ, F.RUL_STATUS_SEG_IDX, F.RUL_SW_STROKE0_TGT_LO, F.RUL_SW_STROKE1_TGT_HI, F.RUL_ANGLE_ANGLE, F.RUL_FRAC_FRAC, F.RUL_VEL_VEL, F.RUL_HOSTV_V, F.RUL_VMIN_V, F.RUL_VMAX_V, F.RUL_NUDGE_LIM, F.RUL_GRIDV_V, F.RUL_ERRCNT_REJ, F.RUL_GEAR_CFG_WIN, F.RUL_GEAR_CFG_TRACK, F.RUL_GEAR_NUM_NUM, F.RUL_GEAR_DEN_DEN, F.RUL_GEAR_OFS_OFS, F.RUL_GEAR_ANUM_ANUM, F.RUL_GEAR_ADEN_ADEN, F.RUL_GEAR_APOS_APOS, F.RUL_GEAR_ARM_ARM, F.RUL_GEAR_ARM_CANCEL, F.RUL_GEAR_ARM_ARMED, F.RUL_GEAR_ARM_FIRED, F.RUL_GEAR_TERR_ERR, F.RUL_ENC_CFG_MODE, F.RUL_ENC_CFG_INV, F.RUL_ENC_CFG_FILT]
def rul1 : List Fld := [F.RUL_ENC_CFG_IDX_ZERO, F.RUL_ENC_CFG_IDX_POL, F.RUL_ENC_CFG_ENCO_EN, F.RUL_ENC_POS_P, F.RUL_ENC_RAW_R_CNT, F.RUL_ENC_IDXPOS_IDX, F.RUL_ENC_STAT_DIR, F.RUL_ENC_STAT_IDX_SEEN, F.RUL_ENC_STAT_ZERO_DONE, F.RUL_ENC_STAT_ILLEGAL, F.RUL_ENC_STAT_OVERRATE, F.RUL_ENC_ERRCNT_ILLEGAL, F.RUL_ENC_ERRCNT_OVERRATE, F.RUL_SEG_CTRL_COUNT, F.RUL_SEG_CTRL_WBANK, F.RUL_SEG_CTRL_ARM, F.RUL_SEG_CTRL_ABORT, F.RUL_SEG_CTRL_NEXT, F.RUL_SEG_START0_KS_LO, F.RUL_SEG_START1_KS_HI, F.RUL_CMP_CFG_EN, F.RUL_CMP_CFG_ROUTE_DUC, F.RUL_CMP_CFG_ROUTE_FLR, F.RUL_CMP_CFG_ROUTE_FOL, F.RUL_CMP_CFG_MOD, F.RUL_CMP_VAL_VAL, F.RUL_CMP_SPACE_SPACE, F.RUL_CMP_IDX_IDX, F.RUL_CMP_IDX_MISS]
/-- Every field of the RUL registers. -/
def rul : List Fld := rul0 ++ rul1
def svi0 : List Fld := [F.SVI_CTRL_EN, F.SVI_CTRL_MODE, F.SVI_CTRL_ENC_TOL, F.SVI_STATUS_MODE_ACT, F.SVI_STATUS_NO_PEER, F.SVI_STATUS_SECT_MISMATCH, F.SVI_STATUS_VALUE_MISMATCH, F.SVI_STATUS_STREAM_LOST, F.SVI_STATUS_GOOSE_STALE, F.SVI_STATUS_SKEW, F.SVI_STATUS_MODE_REJ, F.SVI_STATUS_TAG_FAIL, F.SVI_STATUS_ENC_DIFF, F.SVI_STATUS_PAIR_SPEED, F.SVI_STATUS_TMPL_ERR, F.SVI_PAIR_PAIRA, F.SVI_PAIR_PAIRB, F.SVI_PAIR_FORGET, F.SVI_PAIR_SUPV, F.SVI_CUTOFF_OFS, F.SVI_SKEW_LATNEG, F.SVI_P_RX_CNT, F.SVI_P_DUP_CNT, F.SVI_P_DROP_CNT, F.SVI_P_TAGF_CNT, F.SVI_AGREE0_ONE_SIDED, F.SVI_AGREE0_SECT_MISM, F.SVI_AGREE1_NO_PEER, F.SVI_AGREE1_WREJ, F.SVI_AGREE1_VAL_MISM, F.SVI_DDTAB_OCC, F.SVI_DDTAB_OVF, F.SVI_SUB_CFG_EN, F.SVI_SUB_CFG_RATE, F.SVI_SUB_CFG_NCH, F.SVI_SUB_CFG_SUBST, F.SVI_SUB_CFG_HOLD_MAX, F.SVI_SUB_CFG_SEC, F.SVI_SUB_CFG_QUEST_OK, F.SVI_SUB_CFG_SYNC_MASK]
def svi1 : List Fld := [F.SVI_SUB_CFG_PORTS, F.SVI_SUB_CFG_SYNC0_OK, F.SVI_SUB_ID_APPID, F.SVI_SUB_ID_GMID, F.SVI_SUB_SVID_CRC_CRC, F.SVI_SUB_CONFREV_REV, F.SVI_SUB_LAT_LAT_BUD, F.SVI_SUB_LAT_BACKUP, F.SVI_SUB_LAT_BACKUP_EN, F.SVI_SUB_STAT_STATE, F.SVI_SUB_STAT_LAG, F.SVI_SUB_STAT_TEST_SEEN, F.SVI_SUB_STAT_SIM_SEEN, F.SVI_SUB_STAT_SKEW, F.SVI_SUB_STAT_QUAL_BAD, F.SVI_SUB_STAT_FMT_ERR, F.SVI_SUB_STAT_BACKUP_ACT, F.SVI_SUB_NEWEST_IDX, F.SVI_SUB_CNT_LATE, F.SVI_SUB_CNT_LOSTEV, F.SVI_GS_CFG_EN, F.SVI_GS_CFG_NMEMB, F.SVI_GS_CFG_SEC, F.SVI_GS_CFG_PORTS, F.SVI_GS_CFG_DEF_ACT, F.SVI_GS_APPID_APPID, F.SVI_GS_REF_CRC_CRC, F.SVI_GS_DS_CRC_CRC, F.SVI_GS_CONFREV_REV, F.SVI_GS_STAT_STATE, F.SVI_GS_STAT_TEST_SEEN, F.SVI_GS_STAT_SIM_SEEN, F.SVI_GS_STAT_NDSCOM, F.SVI_GS_STNUM_STNUM, F.SVI_GS_CNT_STALE, F.SVI_GS_CNT_SEQERR, F.SVI_GP_CFG_EN, F.SVI_GP_CFG_PORTS, F.SVI_GP_CFG_SRC, F.SVI_GP_CFG_T0]
def svi2 : List Fld := [F.SVI_GP_TIM_TMIN, F.SVI_GP_TIM_TAL_MUL, F.SVI_GP_TMPL_OFS, F.SVI_GP_STNUM_STNUM, F.SVI_GP_SQNUM_SQNUM, F.SVI_GP_TRIG_TRIG, F.SVI_GP_TXCNT_CNT]
/-- Every field of the SVI registers. -/
def svi : List Fld := svi0 ++ svi1 ++ svi2
def lpe0 : List Fld := [F.LPE_CTRL_EN, F.LPE_CTRL_SW_CANCEL, F.LPE_CTRL_BANK, F.LPE_STATUS_SW_PEND, F.LPE_STATUS_SW_MISMATCH, F.LPE_STATUS_SW_LATE, F.LPE_STATUS_CREJ, F.LPE_STATUS_QFULL, F.LPE_STATUS_ECC_UE, F.LPE_STATUS_SAT_ANY, F.LPE_STATUS_BUNDLE_REJ, F.LPE_WIN_EXT, F.LPE_SW_STROKE0_TGT_LO, F.LPE_SW_STROKE1_TGT_HI, F.LPE_OPCMD_SLOT, F.LPE_OPCMD_ACT, F.LPE_CWIDX_IDX, F.LPE_CWVAL_VAL, F.LPE_QCNT_OPS, F.LPE_QCNT_CWR, F.LPE_SATMAP0_SAT, F.LPE_SATMAP1_SAT, F.LPE_OSAT0_CLAMP, F.LPE_OSAT1_CLAMP, F.LPE_OPEN0_OPEN, F.LPE_OPEN1_OPEN, F.LPE_ACTIVE0_ACT, F.LPE_ACTIVE1_ACT, F.LPE_CREJCNT_CLOSED, F.LPE_CREJCNT_FIXED, F.LPE_ERRCNT_ECC_CE, F.LPE_ERRCNT_WREJ, F.LPE_ERRCNT_QFULL, F.LPE_XADDR_INDEX, F.LPE_XADDR_SPACE, F.LPE_XDATA0_LO, F.LPE_XDATA1_HI, F.LPE_PARAM_VAL, F.LPE_QRES_VAL, F.LPE_AREF_VAL]
def lpe1 : List Fld := [F.LPE_SLOT_CFG0_START, F.LPE_SLOT_CFG0_LEN, F.LPE_SLOT_CFG1_LANE, F.LPE_SLOT_CFG1_TIER, F.LPE_SLOT_CFG1_PHASE, F.LPE_SLOT_CFG1_DIV, F.LPE_SLOT_CFG2_DEST, F.LPE_SLOT_CFG2_GROUP, F.LPE_SLOT_CFG2_GRP_EN, F.LPE_SLOT_CFG2_FEEDS, F.LPE_SLOT_CFG2_FEEDS_EN, F.LPE_SLOT_CFG2_TRK, F.LPE_SLOT_CFG2_TRK_EN, F.LPE_SLOT_CFG2_OPEN_OUT, F.LPE_SLOT_CFG2_INIT_OPEN, F.LPE_SLOT_YMIN_YMIN, F.LPE_SLOT_YMAX_YMAX, F.LPE_SLOT_PRESET_PRESET, F.LPE_SLOT_COEF_CBASE, F.LPE_SLOT_COEF_CCNT, F.LPE_SLOT_STAT_STATE, F.LPE_SLOT_STAT_OSAT, F.LPE_SLOT_STAT_HOLD, F.LPE_SLOT_STAT_WIDE, F.LPE_SLOT_STAT_SATCNT, F.LPE_SLOT_STAT_HOLDCNT, F.LPE_GRP_CFG_MODE, F.LPE_GRP_CFG_DEST, F.LPE_GRP_MASK0_M_LO, F.LPE_GRP_MASK1_M_HI, F.LPE_GRP_STAT_WIN, F.LPE_GRP_STAT_NONE, F.LPE_GRP_STAT_CHG, F.LPE_IMAP_SEL, F.LPE_IMAP_CLASS]
/-- Every field of the LPE registers. -/
def lpe : List Fld := lpe0 ++ lpe1
def flr0 : List Fld := [F.FLR_CTRL_TRIG_BLT, F.FLR_STATUS_SAT_ANY, F.FLR_STATUS_ECC_UE, F.FLR_STATUS_FRZ_ANY, F.FLR_STATUS_CREJ, F.FLR_ERRCNT_CREJ, F.FLR_ERRCNT_WREJ, F.FLR_ERRCNT_ECC_CE, F.FLR_FROZEN0_FRZ, F.FLR_FROZEN1_FRZ, F.FLR_T_CFG_EN, F.FLR_T_CFG_SRC, F.FLR_T_CFG_HOLD, F.FLR_T_CFG_FRZ_OUT, F.FLR_T_CFG_CLR, F.FLR_T_CFG_KEEP, F.FLR_T_CFG_N, F.FLR_T_GAIN_G, F.FLR_T_FORGET_F, F.FLR_T_LEAD_LEAD, F.FLR_T_LEAD_REARM, F.FLR_T_FMIN_V, F.FLR_T_FMAX_V, F.FLR_T_BASE_OFS, F.FLR_T_STAT_FROZEN, F.FLR_T_STAT_WIN_OUT, F.FLR_T_STAT_SAT, F.FLR_T_STAT_ECC_UE, F.FLR_T_STAT_SKIP, F.FLR_T_STAT_IDX, F.FLR_T_CNT0_SATCNT, F.FLR_T_CNT0_SKIPCNT, F.FLR_T_CNT1_FRZCNT, F.FLR_T_CNT1_COMMITS, F.FLR_TAP_CFG_EN, F.FLR_TAP_CFG_SRC, F.FLR_TAP_CFG_SLOT, F.FLR_TAP_CFG_WORD, F.FLR_TAP_CFG_DEC, F.FLR_TAP_CFG_MODE]
def flr1 : List Fld := [F.FLR_TAP_BASE_OFS, F.FLR_TAP_SIZE_LOG, F.FLR_TAP_POST_POST, F.FLR_TAP_WPTR_PTR, F.FLR_TAP_WPTR_WRAPS, F.FLR_TAP_STAT_RUN, F.FLR_TAP_STAT_FULL, F.FLR_TAP_STAT_TRIGD, F.FLR_TAP_STAT_BADCFG, F.FLR_TAP_STAT_LOST, F.FLR_TAP_CTRL_START, F.FLR_TAP_CTRL_TRIG]
/-- Every field of the FLR registers. -/
def flr : List Fld := flr0 ++ flr1
def rnk0 : List Fld := [F.RNK_CTRL_EN, F.RNK_CTRL_SW_CANCEL, F.RNK_CTRL_STALE, F.RNK_STATUS_SW_PEND, F.RNK_STATUS_SW_MISMATCH, F.RNK_STATUS_SW_LATE, F.RNK_STATUS_QFULL, F.RNK_STATUS_ECC_UE, F.RNK_STATUS_RELREJ, F.RNK_STATUS_NOREP, F.RNK_STATUS_HOREJ, F.RNK_ERRCNT_ECC_CE, F.RNK_ERRCNT_WREJ, F.RNK_ERRCNT_QFULL, F.RNK_SW_STROKE0_TGT_LO, F.RNK_SW_STROKE1_TGT_HI, F.RNK_HOCMD_ADDR, F.RNK_HOCMD_ACT, F.RNK_QCNT_HO, F.RNK_BLK_ARMS, F.RNK_CXADDR_INDEX, F.RNK_CXADDR_SPACE, F.RNK_CXDATA0_GAIN_SWC_LO, F.RNK_CXDATA0_OFS_SWC_HI, F.RNK_CXDATA0_ORD, F.RNK_CXDATA0_ORD_B, F.RNK_CXDATA1_TJ, F.RNK_CXDATA1_PREV, F.RNK_CXDATA1_POL, F.RNK_CXDATA1_STALE_CNT, F.RNK_CXDATA1_LAST_E, F.RNK_CXDATA1_HELD, F.RNK_CXDATA1_ELIG, F.RNK_ARM_CFG_MODE, F.RNK_ARM_CFG_TYPE, F.RNK_ARM_CFG_NORM, F.RNK_ARM_CFG_ISIGN, F.RNK_ARM_CAP_NCAP, F.RNK_ARM_CAP_NMIN, F.RNK_ARM_RED_NRED]
def rnk1 : List Fld := [F.RNK_ARM_RED_TRIMHOLD, F.RNK_ARM_VNOM_VNOM, F.RNK_ARM_TMIN_TMIN, F.RNK_ARM_ISRC_STREAM, F.RNK_ARM_ISRC_CH, F.RNK_ARM_ISRC_EN, F.RNK_ARM_ISRC_IBAND, F.RNK_ARM_TJ0_VON0, F.RNK_ARM_TJ0_KTJ, F.RNK_ARM_TJ1_RON, F.RNK_ARM_WGT_WTJ, F.RNK_ARM_WGT_WSW, F.RNK_ARM_HYST_HYST, F.RNK_ARM_HYST_SWDEC, F.RNK_ARM_HYST_SWINC, F.RNK_ARM_CTRL_BLK, F.RNK_ARM_STAT_CLIP, F.RNK_ARM_STAT_SHORT, F.RNK_ARM_STAT_PINCLIP, F.RNK_ARM_STAT_REDLOW, F.RNK_ARM_STAT_SHORTAGE, F.RNK_ARM_STAT_BELOWMIN, F.RNK_ARM_STAT_BLK_BLT, F.RNK_ARM_STAT_DIR, F.RNK_ARM_STAT_POL, F.RNK_ARM_STAT_NH, F.RNK_ARM_CNT_CLIPCNT, F.RNK_ARM_CNT_RELREJ, F.RNK_ARM_CNT_NOREP, F.RNK_ARM_LEVEL_M, F.RNK_ARM_RES_RES, F.RNK_ARM_EDGE_CELL, F.RNK_ARM_EDGE_VALID, F.RNK_ARM_EDGE_TON]
/-- Every field of the RNK registers. -/
def rnk : List Fld := rnk0 ++ rnk1
def stk0 : List Fld := [F.STK_CTRL_START, F.STK_CTRL_STOP, F.STK_CTRL_SW_CANCEL, F.STK_CTRL_LEAD, F.STK_STATUS_RUN, F.STK_STATUS_SW_PEND, F.STK_STATUS_SW_MISMATCH, F.STK_STATUS_SW_LATE, F.STK_STATUS_START_REJ, F.STK_STATUS_SETTLE, F.STK_STATUS_EOUT, F.STK_STATUS_PEER_REJ, F.STK_WOFS_W, F.STK_SW_STROKE0_TGT_LO, F.STK_SW_STROKE1_TGT_HI, F.STK_ERRCNT_SETTLE, F.STK_ERRCNT_EOUT, F.STK_SDROP0_LANE, F.STK_SDROP1_LANE, F.STK_DBASE_OFS, F.STK_FIBRE_F, F.STK_FIBRE_G, F.STK_CHAIN_NEED, F.STK_CHAIN_OK]
/-- Every field of the STK registers. -/
def stk : List Fld := stk0
def hub0 : List Fld := [F.HUB_ID_DEVID, F.HUB_ID_STEP, F.HUB_FCTRL_EN, F.HUB_FCTRL_PAIR, F.HUB_FCTRL_PLANE, F.HUB_RWIN_W, F.HUB_WWIN_OPEN, F.HUB_WWIN_LEN, F.HUB_SLOT0_POP, F.HUB_SLOT1_POP, F.HUB_SLOT2_POP, F.HUB_SLOT3_POP, F.HUB_SLOT4_POP, F.HUB_SLOT5_POP, F.HUB_STAT_ACC_CLAIM, F.HUB_STAT_ACC_TWIN, F.HUB_STAT_U0_OK, F.HUB_STAT_U1_OK, F.HUB_STAT_BOTH, F.HUB_ERRCNT0_WGCM, F.HUB_ERRCNT0_WCLM, F.HUB_ERRCNT1_SETTLE, F.HUB_ERRCNT1_MGTO, F.HUB_PERR_RTAGF, F.HUB_PERR_LATE, F.HUB_CAL_GNEED, F.HUB_CAL_UNEED, F.HUB_CAL_GNT_IDX, F.HUB_CAL_GNT, F.HUB_BOOT_STATE, F.HUB_BOOT_SRCU, F.HUB_RST_RESTART, F.HUB_TEMP_TJ, F.HUB_PGATE_ON]
/-- Every field of the HUB registers. -/
def hub : List Fld := hub0
def lnk0 : List Fld := [F.LNK_ID_DEVID, F.LNK_ID_STEP, F.LNK_CMD_HOLD, F.LNK_CMD_CLR_SAFE, F.LNK_ACC_CLAIM, F.LNK_ACC_TWIN, F.LNK_ACC_PLANE, F.LNK_ACC_VALID, F.LNK_HSTAT_HCNT, F.LNK_HSTAT_HOLD, F.LNK_HSTAT_SAFE, F.LNK_HSTAT_PDIFF, F.LNK_HSTAT_EOUT, F.LNK_CNT0_WTAGF, F.LNK_CNT0_MISS, F.LNK_CNT1_LATE, F.LNK_CNT1_RANGE, F.LNK_CNT2_HOLDEV, F.LNK_CNT2_EOUT, F.LNK_LK_CFG_SWING, F.LNK_LK_STAT_TXST, F.LNK_LK_STAT_RXST, F.LNK_LK_STAT_FOM, F.LNK_LK_STAT_DOWN, F.LNK_LK_CNT0_CVIOL, F.LNK_LK_CNT0_DISP, F.LNK_LK_CNT1_MDISC, F.LNK_LK_CNT1_LOL, F.LNK_LK_CNT2_RDROP, F.LNK_LK_CNT2_UPCNT, F.LNK_TXCAL_NEED, F.LNK_TXCAL_DTEMP, F.LNK_TXCAL_CNT]
/-- Every field of the LNK registers. -/
def lnk : List Fld := lnk0
def nib0 : List Fld := [F.NIB_CTRL_EN, F.NIB_CTRL_TYPE, F.NIB_CTRL_ZSEL, F.NIB_STAT_STATE, F.NIB_STAT_EN_ACT, F.NIB_STAT_FROZEN, F.NIB_STAT_ENREJ, F.NIB_STAT_SUPP, F.NIB_STAT_CCLAMP, F.NIB_DT_DT, F.NIB_MINP_MINP, F.NIB_CNT0_SUPP, F.NIB_CNT0_CCLAMP, F.NIB_CNT1_ENREJ, F.NIB_CNT1_DELAY, F.NIB_LAST_STEP, F.NIB_LAST_STK, F.NIB_AUX_AUX0, F.NIB_AUX_AUX1, F.NIB_AUX_SRC0, F.NIB_AUX_SRC1, F.NIB_TMR_CFG_MODE, F.NIB_TMR_CFG_START, F.NIB_TMR_LEN_LEN, F.NIB_TMR_STAT_RUN]
/-- Every field of the NIB registers. -/
def nib : List Fld := nib0
def prt0 : List Fld := [F.PRT_CFG_SAFE, F.PRT_CFG_BYPMODE, F.PRT_CFG_AUX0_SAFE, F.PRT_CFG_AUX1_SAFE, F.PRT_STAT_TRIP, F.PRT_STAT_OVP, F.PRT_STAT_SIL, F.PRT_STAT_ILOCK, F.PRT_STAT_SAFE_ACT, F.PRT_STAT_LBLK, F.PRT_STAT_BYPF, F.PRT_STAT_TRIP_LIVE, F.PRT_STAT_OVP_LIVE, F.PRT_TRIP_ACT, F.PRT_TRIP_POL, F.PRT_TRIP_FILT, F.PRT_TRIP_TMR, F.PRT_TRIP_BLK_EN, F.PRT_TRIP_URG, F.PRT_TTS_TICK, F.PRT_TTS_STK, F.PRT_OVP_THR, F.PRT_OVP_HYST, F.PRT_OVP_ACT, F.PRT_SIL_TO, F.PRT_BYP_BYPW, F.PRT_BYP_FIRED, F.PRT_BYP_KEPT, F.PRT_BYP_REARM, F.PRT_ERRCNT_CLRREJ, F.PRT_ERRCNT_WDEN, F.PRT_CNT_TRIPS, F.PRT_CNT_ACTS]
/-- Every field of the PRT registers. -/
def prt : List Fld := prt0
def aq0 : List Fld := [F.AQ_CTRL_EN, F.AQ_STAT_RUN, F.AQ_STAT_SLICE_OUT, F.AQ_STAT_DRIFT, F.AQ_STAT_HARD, F.AQ_STAT_NOSPARE, F.AQ_STAT_SINGLE, F.AQ_CFG_QSETTLE, F.AQ_CFG_TC, F.AQ_SEQCTL_LAST, F.AQ_SEQCTL_LOOP, F.AQ_MAP_VON_E, F.AQ_MAP_VON_EN, F.AQ_MAP_VONB_E, F.AQ_MAP_VONB_EN, F.AQ_MAP_TEMP_E, F.AQ_MAP_TEMP_EN, F.AQ_MAP_AUX_E, F.AQ_MAP_AUX_EN, F.AQ_URG_INPUT, F.AQ_URG_REQ, F.AQ_TURG_IN0, F.AQ_TURG_IN1, F.AQ_TURG_IN2, F.AQ_TURG_IN3, F.AQ_URES0_VALUE, F.AQ_URES0_VALID, F.AQ_URES0_SAT, F.AQ_URES0_SRC, F.AQ_URES0_SLOT, F.AQ_URES1_STK, F.AQ_CNT_UDROP, F.AQ_CNT_CUT, F.AQ_CNT1_NOIDLE, F.AQ_CNT1_CLRREJ, F.AQ_CNT1_URGCNT, F.AQ_XCHK_DRIFT, F.AQ_XLIM_LIM, F.AQ_XLIM_HARD, F.AQ_REFCTL_SEL]
def aq1 : List Fld := [F.AQ_REFCTL_XOFF, F.AQ_CAL_RETIRED, F.AQ_CAL_ROT, F.AQ_SEQ_ENTRY, F.AQ_RES_VALUE, F.AQ_RES_VALID, F.AQ_RES_SAT, F.AQ_RES_SLOT, F.AQ_RES_STK, F.AQ_GCTRL_SW_CANCEL, F.AQ_STATUS_SW_PEND, F.AQ_STATUS_SW_MISMATCH, F.AQ_STATUS_SW_LATE, F.AQ_SW_STROKE0_TGT_LO, F.AQ_SW_STROKE1_TGT_HI, F.AQ_ARBCMD_ADDR, F.AQ_ARBCMD_GO, F.AQ_ARBD_D, F.AQ_ARB_CFG_STREAM, F.AQ_ARB_CFG_CH, F.AQ_ARB_CFG_ARB_EN, F.AQ_ARB_KV_KV, F.AQ_ARB_LIM_ACC_LOG, F.AQ_ARB_LIM_TO_LOG, F.AQ_ARB_STAT_BUSY, F.AQ_ARB_STAT_OUTCOME, F.AQ_ARB_STAT_CELL, F.AQ_ARB_N0_N0, F.AQ_ARB_N1_N1, F.AQ_ARB_U_U, F.AQ_ARB_CNT_SKIP, F.AQ_ARB_CNT_REJ]
/-- Every field of the AQ registers. -/
def aq : List Fld := aq0 ++ aq1
def caq0 : List Fld := [F.CAQ_CTRL_EN, F.CAQ_STAT_RUN, F.CAQ_STAT_SLICE_OUT, F.CAQ_STAT_DRIFT, F.CAQ_STAT_HARD, F.CAQ_STAT_NOSPARE, F.CAQ_STAT_SINGLE, F.CAQ_CFG_QSETTLE, F.CAQ_CFG_TC, F.CAQ_SEQCTL_LAST, F.CAQ_SEQCTL_LOOP, F.CAQ_MAP_VON_E, F.CAQ_MAP_VON_EN, F.CAQ_MAP_VONB_E, F.CAQ_MAP_VONB_EN, F.CAQ_MAP_TEMP_E, F.CAQ_MAP_TEMP_EN, F.CAQ_MAP_AUX_E, F.CAQ_MAP_AUX_EN, F.CAQ_URG_INPUT, F.CAQ_URG_REQ, F.CAQ_TURG_IN0, F.CAQ_TURG_IN1, F.CAQ_TURG_IN2, F.CAQ_TURG_IN3, F.CAQ_URES0_VALUE, F.CAQ_URES0_VALID, F.CAQ_URES0_SAT, F.CAQ_URES0_SRC, F.CAQ_URES0_SLOT, F.CAQ_URES1_STK, F.CAQ_CNT_UDROP, F.CAQ_CNT_CUT, F.CAQ_CNT1_NOIDLE, F.CAQ_CNT1_CLRREJ, F.CAQ_CNT1_URGCNT, F.CAQ_XCHK_DRIFT, F.CAQ_XLIM_LIM, F.CAQ_XLIM_HARD, F.CAQ_REFCTL_SEL]
def caq1 : List Fld := [F.CAQ_REFCTL_XOFF, F.CAQ_CAL_RETIRED, F.CAQ_CAL_ROT, F.CAQ_SEQ_ENTRY, F.CAQ_RES_VALUE, F.CAQ_RES_VALID, F.CAQ_RES_SAT, F.CAQ_RES_SLOT, F.CAQ_RES_STK]
/-- Every field of the CAQ registers. -/
def caq : List Fld := caq0 ++ caq1
def rsv0 : List Fld := [F.RSV_CFG_AUTO, F.RSV_CFG_BO_BYP, F.RSV_CFG_HZN, F.RSV_CAP_CAP, F.RSV_SNS_DIV, F.RSV_SNS_FLOOR, F.RSV_BYPE_BYPE, F.RSV_HYST_HYST, F.RSV_THR_THR, F.RSV_COST_COST, F.RSV_LEVEL_E, F.RSV_NET_NET, F.RSV_STAT_ADM, F.RSV_STAT_STAGE, F.RSV_STAT_RESV_HIT, F.RSV_STAT_NIBOFF, F.RSV_STAT_BORST, F.RSV_STAT_KLOST, F.RSV_CNT_DEFER, F.RSV_CNT_REFUSE, F.RSV_CNT_BORST, F.RSV_KCTR_CTR, F.RSV_KLOGP_NEXT, F.RSV_KLOGP_TOTAL, F.RSV_FWCTL_ERASE, F.RSV_FWCTL_VERIFY, F.RSV_FWCTL_ACTIVATE, F.RSV_FWCTL_CONFIRM, F.RSV_FWCTL_TRIAL, F.RSV_FWSTAT_ACTIVE, F.RSV_FWSTAT_TRIAL_RUN, F.RSV_FWSTAT_REVERTED, F.RSV_FWSTAT_VERIFIED, F.RSV_FWSTAT_ERASING, F.RSV_FWSTAT_ERASED, F.RSV_FWSTAT_NEXT, F.RSV_KLOG_LO_CTR, F.RSV_KLOG_HI_CAUSE, F.RSV_LFRF0_WORD, F.RSV_LFRF1_WORD]
def rsv1 : List Fld := [F.RSV_LFRF2_WORD, F.RSV_LFRF3_WORD, F.RSV_LFRF4_WORD, F.RSV_LFRF5_WORD, F.RSV_LFRF6_WORD, F.RSV_LFRF7_WORD, F.RSV_LFRL0_WORD, F.RSV_LFRL1_WORD, F.RSV_LFRL2_WORD, F.RSV_LFRL3_WORD, F.RSV_LFRL4_WORD, F.RSV_LFRL5_WORD, F.RSV_LFRL6_WORD, F.RSV_LFRL7_WORD, F.RSV_LFRCLR_CLR]
/-- Every field of the RSV registers. -/
def rsv : List Fld := rsv0 ++ rsv1
def duc0 : List Fld := [F.DUC_CTRL_EN, F.DUC_STATUS_RUN, F.DUC_STATUS_OVR, F.DUC_STATUS_LATE, F.DUC_STATUS_BUDGET, F.DUC_STATUS_LOCKTO, F.DUC_STATUS_BADCFG, F.DUC_STATUS_CTXERR, F.DUC_CTXBASE_OFS, F.DUC_CORE_EN, F.DUC_CORESTAT_FENCED, F.DUC_CORESTAT_TEST, F.DUC_CORERET_RET, F.DUC_TCMD_TASK, F.DUC_TCMD_ACT, F.DUC_TCRES_STATUS, F.DUC_TCRES_BADCFG, F.DUC_RDY_LISTS, F.DUC_ERRCNT_OVR, F.DUC_ERRCNT_LATE, F.DUC_ERRCNT_WREJ, F.DUC_ERRCNT_CTXERR, F.DUC_LOCK_HOLDER, F.DUC_LOCK_HELD, F.DUC_LOCK_ABAND, F.DUC_LOCK_WAITERS, F.DUC_TASK_ENTRY_PC, F.DUC_TASK_CFG_PRI, F.DUC_TASK_CFG_PER_EN, F.DUC_TASK_CFG_PER_SRC, F.DUC_TASK_CFG_FPOL, F.DUC_TASK_CFG_OVR_ACT, F.DUC_TASK_CFG_RESTMAX, F.DUC_TASK_AFF_MASK, F.DUC_TASK_PER_PERIOD, F.DUC_TASK_PER_PHASE, F.DUC_TASK_ARG_ARG, F.DUC_TASK_RGN_OFS, F.DUC_TASK_LIM_BUDGET, F.DUC_TASK_LIM_LATE]
def duc1 : List Fld := [F.DUC_TASK_LOCKTO_LOCKTO, F.DUC_TASK_STAT_STATE, F.DUC_TASK_STAT_EPRI, F.DUC_TASK_STAT_LAST, F.DUC_TASK_STAT_FLT, F.DUC_TASK_STAT_OVR, F.DUC_TASK_STAT_LATE, F.DUC_TASK_STAT_BUDGET, F.DUC_TASK_STAT_LOCKTO, F.DUC_TASK_STAT_XCAUSE, F.DUC_TASK_STAT_RESTCNT, F.DUC_TASK_CNT0_POSTMISS, F.DUC_TASK_CNT0_LATECNT, F.DUC_TASK_CNT1_FAULTS, F.DUC_TASK_CNT1_BUDCNT, F.DUC_TASK_WAKE_WAKE]
/-- Every field of the DUC registers. -/
def duc : List Fld := duc0 ++ duc1
def ink0 : List Fld := [F.INK_CTRL_LOCK, F.INK_CTRL_SCRUB_EN, F.INK_CTRL_SW_CANCEL, F.INK_STATUS_LOCKED, F.INK_STATUS_SW_PEND, F.INK_STATUS_SPARING, F.INK_STATUS_SPARE_USED, F.INK_STATUS_SW_MISMATCH, F.INK_STATUS_SW_LATE, F.INK_STATUS_LAYOUT_BAD, F.INK_STATUS_RESIZE_REJ, F.INK_STATUS_UE, F.INK_STATUS_GUARD, F.INK_STATUS_WALKF, F.INK_STATUS_NOSPARE, F.INK_SW_STROKE0_TGT_LO, F.INK_SW_STROKE1_TGT_HI, F.INK_RESIZE_PART, F.INK_RESIZE_SIZE, F.INK_QCNT_RSZ, F.INK_SCRUB_RATE, F.INK_SCRUB_PASSES, F.INK_SPARE_SBANK, F.INK_SPARE_RBANK, F.INK_SPARE_REQ, F.INK_SPARE_THR, F.INK_SPARE_PROG, F.INK_ERRCNT_CE, F.INK_ERRCNT_UE, F.INK_ERRCNT_GUARD, F.INK_ERRCNT1_WALKF, F.INK_ERRCNT1_RSZREJ, F.INK_UEADDR_ADDR, F.INK_UEINFO_BANK, F.INK_UEINFO_CLASS, F.INK_WALKADDR_ADDR, F.INK_WALKINFO_CORE, F.INK_WALKINFO_CODE, F.INK_WALKINFO_LEVEL, F.INK_RINV_ALL]
def ink1 : List Fld := [F.INK_RINV_RGN, F.INK_CLS_MIN, F.INK_BANK_CE, F.INK_BANK_UE, F.INK_BANK_SPARED, F.INK_PART_BASE_GRAN, F.INK_PART_SIZE_GRAN, F.INK_PART_MIN_GRAN, F.INK_PART_STAT_USED, F.INK_PART_STAT_VALID]
/-- Every field of the INK registers. -/
def ink : List Fld := ink0 ++ ink1
def twn0 : List Fld := [F.TWN_CTRL_HANDOVER, F.TWN_CTRL_SW_CANCEL, F.TWN_CTRL_JOIN, F.TWN_CTRL_UPD_OK, F.TWN_CTRL_AUTOJOIN, F.TWN_CTRL_REVERT, F.TWN_CTRL_DRILL_EN, F.TWN_CTRL_BUNDLE, F.TWN_STATUS_ROLE, F.TWN_STATUS_TWIN, F.TWN_STATUS_PREF, F.TWN_STATUS_NUM_VALID, F.TWN_STATUS_INSTEP, F.TWN_STATUS_HO_RUN, F.TWN_STATUS_SW_PEND, F.TWN_STATUS_SUSP, F.TWN_STATUS_PROV, F.TWN_STATUS_SW_MISMATCH, F.TWN_STATUS_SW_LATE, F.TWN_STATUS_DIGEST_MISM, F.TWN_STATUS_SPLIT, F.TWN_STATUS_LATENT, F.TWN_STATUS_JOINFAIL, F.TWN_STATUS_PART_MISMATCH, F.TWN_STATUS_NUM_CONFLICT, F.TWN_STATUS_PREF_CONFLICT, F.TWN_STATUS_HO_REJ, F.TWN_STATUS_BUNDLE_DIFF, F.TWN_STATUS_PATHLOSS, F.TWN_CLAIM_CLAIM, F.TWN_CLAIM_CLMAX, F.TWN_PEER_CLAIM, F.TWN_PEER_ROLE, F.TWN_PEER_PREF, F.TWN_PEER_SIL, F.TWN_PEER_H1_OK, F.TWN_PEER_H2_OK, F.TWN_CFG_HBTO, F.TWN_CFG_DEMN, F.TWN_CFG_OVL]
def twn1 : List Fld := [F.TWN_CFG_EVN, F.TWN_CFG_PATHN, F.TWN_CFG1_JOINN, F.TWN_CFG1_JTO, F.TWN_REVN_REVN, F.TWN_DRILL_INTV, F.TWN_DRILL_NEXT, F.TWN_SW_STROKE0_TGT_LO, F.TWN_SW_STROKE1_TGT_HI, F.TWN_BUNDLE_SLOT, F.TWN_DIGCNT_MISM, F.TWN_DIGCNT_SUSPEV, F.TWN_ERRCNT_TAKEOVER, F.TWN_ERRCNT_DEMOTE, F.TWN_ERRCNT_HOREJ, F.TWN_ERRCNT_JFAIL, F.TWN_HOCNT_DRILLS, F.TWN_HOCNT_HOFAIL, F.TWN_JOIN_PHASE, F.TWN_JOIN_RETRY, F.TWN_JOIN_PROG, F.TWN_ISMASK_PART, F.TWN_LATHUB0_HUB, F.TWN_LATHUB1_HUB, F.TWN_PATH0_HUB, F.TWN_PATH1_HUB]
/-- Every field of the TWN registers. -/
def twn : List Fld := twn0 ++ twn1
def blt0 : List Fld := [F.BLT_CTRL_FORCE_EN, F.BLT_CTRL_SW_CANCEL, F.BLT_CTRL_PTASK, F.BLT_CTRL_PT_EN, F.BLT_STATUS_TRIPPED, F.BLT_STATUS_INCIDENT, F.BLT_STATUS_SW_PEND, F.BLT_STATUS_ANY_A, F.BLT_STATUS_ANY_B, F.BLT_STATUS_SW_MISMATCH, F.BLT_STATUS_SW_LATE, F.BLT_ERRCNT_CLRREJ, F.BLT_ERRCNT_FREJ, F.BLT_ERRCNT_RELREJ, F.BLT_SW_STROKE0_TGT_LO, F.BLT_SW_STROKE1_TGT_HI, F.BLT_REL_ARMS, F.BLT_REL_TRIP, F.BLT_CREL_ADDR, F.BLT_QCNT_CREL, F.BLT_SUM_SET, F.BLT_ALERT_ASSERTED, F.BLT_ALERT_PIN, F.BLT_ALERT_REL, F.BLT_ALERT_MINP, F.BLT_LOGCTL_RPTR, F.BLT_LOGCTL_POP, F.BLT_LOGCTL_FILL, F.BLT_LOGCTL_COAL, F.BLT_LOG0_ENTRY, F.BLT_LOG1_ENTRY, F.BLT_LOG2_ENTRY, F.BLT_LOG3_ENTRY, F.BLT_CBADDR_ADDR, F.BLT_CBDATA_MARK, F.BLT_CBDATA_SRC, F.BLT_SRC_CFG_EN, F.BLT_SRC_CFG_CLASS, F.BLT_SRC_CFG_ACT, F.BLT_SRC_CFG_ALERT]
def blt1 : List Fld := [F.BLT_SRC_CFG_PERS, F.BLT_SRC_CTRL_FORCE, F.BLT_SRC_STAT_SET, F.BLT_SRC_STAT_CAUSE, F.BLT_SRC_STAT_FORCED, F.BLT_SRC_STAT_NREP, F.BLT_SRC_COUNT_CNT, F.BLT_SRC_FIRST0_NS, F.BLT_SRC_FIRST1_SEC, F.BLT_SRC_LAST0_NS, F.BLT_SRC_LAST1_SEC]
/-- Every field of the BLT registers. -/
def blt : List Fld := blt0 ++ blt1
def cblt0 : List Fld := [F.CBLT_CHGP0_CHG, F.CBLT_CHGP1_CHG, F.CBLT_CHGQ0_CHG, F.CBLT_CHGQ1_CHG, F.CBLT_EVCNT_EVCNT, F.CBLT_SRC_CFG_EN, F.CBLT_SRC_CFG_CLASS, F.CBLT_SRC_STAT_SET, F.CBLT_SRC_STAT_CAUSE, F.CBLT_SRC_STAT_FORCE, F.CBLT_SRC_STAT_COUNT, F.CBLT_SRC_FIRST_STK, F.CBLT_SRC_LAST_STK]
/-- Every field of the CBLT registers. -/
def cblt : List Fld := cblt0
def hblt0 : List Fld := [F.HBLT_CHGP0_CHG, F.HBLT_CHGP1_CHG, F.HBLT_CHGQ0_CHG, F.HBLT_CHGQ1_CHG, F.HBLT_EVCNT_EVCNT, F.HBLT_SRC_CFG_EN, F.HBLT_SRC_CFG_CLASS, F.HBLT_SRC_STAT_SET, F.HBLT_SRC_STAT_CAUSE, F.HBLT_SRC_STAT_FORCE, F.HBLT_SRC_STAT_COUNT, F.HBLT_SRC_FIRST_STK, F.HBLT_SRC_LAST_STK]
/-- Every field of the HBLT registers. -/
def hblt : List Fld := hblt0
def fol0 : List Fld := [F.FOL_CTRL_EN, F.FOL_CTRL_SR_EN, F.FOL_STATUS_BUSY, F.FOL_STATUS_TRIGD, F.FOL_STATUS_DONE, F.FOL_STATUS_SHED, F.FOL_STATUS_SRFULL, F.FOL_STATUS_ARMREJ, F.FOL_BUDGET_USED, F.FOL_BUDGET_CHN, F.FOL_ERRCNT_ARMREJ, F.FOL_ERRCNT_CHWREJ, F.FOL_ERRCNT_LATE, F.FOL_TRIGIN_EN, F.FOL_TRIGIN_POL, F.FOL_TRIGIN_SEEN, F.FOL_TTS0_TENTHS, F.FOL_TTS1_NS, F.FOL_TTS2_SEC_LO, F.FOL_TTS3_SEC_HI, F.FOL_SRBASE0_LO, F.FOL_SRBASE1_HI, F.FOL_SRSIZE_LOG, F.FOL_SRWPTR_WPTR, F.FOL_SRRPTR_RPTR, F.FOL_F_CFG_CLK, F.FOL_F_CFG_CSEL, F.FOL_F_CFG_DEC, F.FOL_F_CFG_TSCALE, F.FOL_F_CFG_STREAM, F.FOL_F_CH_FIRST, F.FOL_F_CH_COUNT, F.FOL_F_PRE_PRE, F.FOL_F_POST_POST, F.FOL_F_BASE_OFS, F.FOL_F_TRG_TSRC, F.FOL_F_TRG_CHAIN, F.FOL_F_TRG_BSRC, F.FOL_F_LVL_LCH, F.FOL_F_LVL_MODE]
def fol1 : List Fld := [F.FOL_F_LTHR_THR, F.FOL_F_LHYS_HYS, F.FOL_F_CTRL_ARM, F.FOL_F_CTRL_TRIG, F.FOL_F_CTRL_FREE, F.FOL_F_CTRL_ABORT, F.FOL_F_STAT_STATE, F.FOL_F_STAT_ASTAT, F.FOL_F_STAT_SHORT, F.FOL_F_STAT_TGAP, F.FOL_F_STAT_CAUSE, F.FOL_F_STAT_REC, F.FOL_F_ROWS_ROWS, F.FOL_F_SIZE_SIZE, F.FOL_F_RBYTES_RBYTES, F.FOL_F_CNT_RETRIG, F.FOL_F_CNT_MISS, F.FOL_CH_LO_SEL, F.FOL_CH_HI_CLASS, F.FOL_CH_HI_RED, F.FOL_CH_HI_DOR]
/-- Every field of the FOL registers. -/
def fol : List Fld := fol0 ++ fol1
def lan0 : List Fld := [F.LAN_CTRL_CAL_AUTO, F.LAN_CTRL_ADAPT, F.LAN_STATUS_ANY_DOWN, F.LAN_STATUS_UCW, F.LAN_STATUS_MARGIN, F.LAN_STATUS_LOL, F.LAN_LIM_FOM_UP, F.LAN_LIM_FOM_WARN, F.LAN_LIM_UCW, F.LAN_LIM_TOL, F.LAN_CAL_MININT, F.LAN_CAL_CNT, F.LAN_UP0_UP, F.LAN_UP1_UP, F.LAN_UP2_UP, F.LAN_CALREQ_LANE, F.LAN_CALREQ_GO, F.LAN_L_CFG_PRE, F.LAN_L_CFG_MAIN, F.LAN_L_CFG_POST, F.LAN_L_CFG_RXFRZ, F.LAN_L_STAT_TXST, F.LAN_L_STAT_RXST, F.LAN_L_STAT_FOM, F.LAN_L_STAT_MARGIN, F.LAN_L_STAT_UCWLIM, F.LAN_L_STAT_DRIFT, F.LAN_L_STAT_PD, F.LAN_L_EQ_CTLE, F.LAN_L_EQ_DFE1, F.LAN_L_EQ_DFE2, F.LAN_L_EQ_DFE3, F.LAN_L_LVL0_MEAN, F.LAN_L_LVL1_MEAN, F.LAN_L_LVL2_MEAN, F.LAN_L_LVL3_MEAN, F.LAN_L_LVL0_SD, F.LAN_L_LVL1_SD, F.LAN_L_LVL2_SD, F.LAN_L_LVL3_SD]
def lan1 : List Fld := [F.LAN_L_CNT0_CCW, F.LAN_L_CNT1_CSYM, F.LAN_L_CNT2_UCW, F.LAN_L_CNT2_RETRY, F.LAN_L_CNT3_HCRC, F.LAN_L_CNT3_GCM, F.LAN_L_CNT3_LOL, F.LAN_L_CNT3_WIN]
/-- Every field of the LAN registers. -/
def lan : List Fld := lan0 ++ lan1
def sec0 : List Fld := [F.SEC_LDSRC_ADDR, F.SEC_LDLEN_LEN, F.SEC_LDCTL_SLOT, F.SEC_LDCTL_GO, F.SEC_LDSTAT_BUSY, F.SEC_LDSTAT_CODE, F.SEC_LDSTAT_LCODE, F.SEC_LDSTAT_VALID, F.SEC_LDSTAT_ACTIVE, F.SEC_LDSTAT_PEND, F.SEC_STATUS_LCS, F.SEC_STATUS_PUF_OK, F.SEC_STATUS_DBG, F.SEC_STATUS_VFAIL, F.SEC_STATUS_NOKEY, F.SEC_STATUS_ENTROPY, F.SEC_VSTAT_CODE, F.SEC_VSTAT_TYPE, F.SEC_ID0_FP, F.SEC_ID1_FP, F.SEC_ID2_FP, F.SEC_ID3_FP, F.SEC_SVN_CTR, F.SEC_SVN_RUN, F.SEC_SLOTS_USE0, F.SEC_SLOTS_USE1, F.SEC_SLOTS_USE2, F.SEC_SLOTS_USE3, F.SEC_SLOTS_REV0, F.SEC_SLOTS_REV1, F.SEC_SLOTS_REV2, F.SEC_SLOTS_REV3, F.SEC_PROV_DATA, F.SEC_ROT_HOURS, F.SEC_LIM_TAGF, F.SEC_LIM_GCMF, F.SEC_DBGCHAL0_NONCE, F.SEC_DBGCHAL1_NONCE, F.SEC_DBGCHAL2_NONCE, F.SEC_DBGCHAL3_NONCE]
def sec1 : List Fld := [F.SEC_DBGCHAL4_NONCE, F.SEC_DBGCHAL5_NONCE, F.SEC_DBGCHAL6_NONCE, F.SEC_DBGCHAL7_NONCE, F.SEC_DBGCTL_PERM, F.SEC_DBGCTL_CLOSE, F.SEC_POSADDR_POS, F.SEC_POSDATA0_STAND, F.SEC_POSDATA0_CAUSE, F.SEC_POSDATA1_CTR, F.SEC_POSDATA2_FP, F.SEC_POSDATA3_FP, F.SEC_POSDATA4_FP, F.SEC_POSDATA5_FP, F.SEC_ERRCNT_VFAIL, F.SEC_ERRCNT_ATTF, F.SEC_ERRCNT_STRANGER]
/-- Every field of the SEC registers. -/
def sec : List Fld := sec0 ++ sec1
def hst0 : List Fld := [F.HST_ID_DEVID, F.HST_ID_STEP, F.HST_STATUS_SHED, F.HST_STATUS_WIDTH, F.HST_STATUS_SPEED, F.HST_STATUS_BADCNT, F.HST_HERR_CODE, F.HST_HERR_WIN, F.HST_HERR_VALID, F.HST_HERRADDR_OFS, F.HST_HCNT_CNT, F.HST_DPADDR_ADDR, F.HST_DPCTL_AINC, F.HST_DPCTL_ADV, F.HST_DPSTAT_DROP, F.HST_DPSTAT_GUARD, F.HST_DPSTAT_UE, F.HST_DOORBELL_VAL, F.HST_HSEL_PORT]
/-- Every field of the HST registers. -/
def hst : List Fld := hst0
def pwr0 : List Fld := [F.PWR_CTRL_REBOOT, F.PWR_STATUS_TSHED, F.PWR_STATUS_BSHED, F.PWR_STATUS_LEVEL, F.PWR_STATUS_OVER, F.PWR_STATUS_UNDER, F.PWR_STATUS_HOT, F.PWR_STATUS_CRIT, F.PWR_STATUS_SUPPLY, F.PWR_STATUS_REFCLK, F.PWR_STATUS_QREJ, F.PWR_TEMP_TJ, F.PWR_TEMP_SENSOR, F.PWR_THERM_SHED, F.PWR_THERM_CRIT, F.PWR_THERM_HYST, F.PWR_THERM_STEP, F.PWR_BUDGET_W, F.PWR_BUDGET_WIN, F.PWR_POWER_P, F.PWR_POWER_F, F.PWR_DXADDR_DOM, F.PWR_DXDATA_E, F.PWR_DXINFO_ON, F.PWR_QGATE_GATE, F.PWR_BOOT_NEXT, F.PWR_BOOT_LAST, F.PWR_BOOT_FALLBACK, F.PWR_BOOTSTAT_CODE0, F.PWR_BOOTSTAT_CODE1, F.PWR_BOOTSTAT_PUF_OK, F.PWR_RSTCAUSE_POR, F.PWR_RSTCAUSE_PIN, F.PWR_RSTCAUSE_REBOOT, F.PWR_RSTCAUSE_THERMTRIP, F.PWR_RSTCAUSE_SUPPLY, F.PWR_QCTL_PORT, F.PWR_QCTL_OP, F.PWR_QCTL_MODE, F.PWR_QCTL_LEN]
def pwr1 : List Fld := [F.PWR_QCTL_GO, F.PWR_QADDR_ADDR, F.PWR_QDATA_DATA, F.PWR_QSTAT_BUSY, F.PWR_IMG_HUBAUTO, F.PWR_IMG_SRC, F.PWR_IMGADDR_ADDR, F.PWR_IMGCELL_ADDR, F.PWR_IMGSTAT_HUBS, F.PWR_IMGSTAT_CELLS, F.PWR_IMGSTAT_ERR]
/-- Every field of the PWR registers. -/
def pwr : List Fld := pwr0 ++ pwr1
def hsec0 : List Fld := [F.HSEC_ATT_STAND, F.HSEC_ATT_LCS, F.HSEC_EPOCH_E, F.HSEC_EPOCHS_STK, F.HSEC_ID_FP, F.HSEC_VSTAT_CODE, F.HSEC_DBGCTL_PERM, F.HSEC_DBGCTL_CLOSE, F.HSEC_XWIN_DATA]
/-- Every field of the HSEC registers. -/
def hsec : List Fld := hsec0
def csec0 : List Fld := [F.CSEC_ATT_STAND, F.CSEC_ATT_LCS, F.CSEC_EPOCH_E, F.CSEC_EPOCHS_STK, F.CSEC_ID_FP, F.CSEC_VSTAT_CODE, F.CSEC_DBGCTL_PERM, F.CSEC_DBGCTL_CLOSE, F.CSEC_XWIN_DATA]
/-- Every field of the CSEC registers. -/
def csec : List Fld := csec0
def hlan0 : List Fld := [F.HLAN_L_CFG_PRE, F.HLAN_L_CFG_MAIN, F.HLAN_L_CFG_POST, F.HLAN_L_CFG_RXFRZ, F.HLAN_L_STAT_TXST, F.HLAN_L_STAT_RXST, F.HLAN_L_STAT_FOM, F.HLAN_L_STAT_MARGIN, F.HLAN_L_STAT_UCWLIM, F.HLAN_L_STAT_DRIFT, F.HLAN_L_STAT_PD, F.HLAN_L_EQ_CTLE, F.HLAN_L_EQ_DFE1, F.HLAN_L_EQ_DFE2, F.HLAN_L_EQ_DFE3, F.HLAN_L_LVL0_MEAN, F.HLAN_L_LVL1_MEAN, F.HLAN_L_LVL2_MEAN, F.HLAN_L_LVL3_MEAN, F.HLAN_L_LVL0_SD, F.HLAN_L_LVL1_SD, F.HLAN_L_LVL2_SD, F.HLAN_L_LVL3_SD, F.HLAN_L_CNT0_CCW, F.HLAN_L_CNT1_CSYM, F.HLAN_L_CNT2_UCW, F.HLAN_L_CNT2_RETRY, F.HLAN_L_CNT3_HCRC, F.HLAN_L_CNT3_GCM, F.HLAN_L_CNT3_LOL, F.HLAN_L_CNT3_WIN]
/-- Every field of the HLAN registers. -/
def hlan : List Fld := hlan0
def hlnk0 : List Fld := [F.HLNK_LK_CFG_SWING, F.HLNK_LK_STAT_TXST, F.HLNK_LK_STAT_RXST, F.HLNK_LK_STAT_FOM, F.HLNK_LK_STAT_DOWN, F.HLNK_LK_CNT0_CVIOL, F.HLNK_LK_CNT0_DISP, F.HLNK_LK_CNT1_MDISC, F.HLNK_LK_CNT1_LOL, F.HLNK_LK_CNT2_RDROP, F.HLNK_LK_CNT2_UPCNT]
/-- Every field of the HLNK registers. -/
def hlnk : List Fld := hlnk0
/-- Every field of the Gloesk's registers. -/
def gloesk : List Fld := ptp ++ rul ++ svi ++ lpe ++ flr ++ rnk ++ stk ++ aq ++ duc ++ ink ++ twn ++ blt ++ fol ++ lan ++ sec ++ hst ++ pwr
/-- Every field of the Stanak's registers. -/
def stanak : List Fld := hub ++ hblt ++ hsec ++ hlan ++ hlnk
/-- Every field of the Ihloon's registers. -/
def ihloon : List Fld := lnk ++ nib ++ prt ++ caq ++ rsv ++ cblt ++ csec

end Sys2Proof.Machine.FieldList
end

