-- ==== Sys2Proof/Machine/Cell.lean ====
section
/-!
DEFINITION. The cell controller: stroke words and their choice, hold-over, reports, acquisition, reservoir ledger,
bring-up, keeper and firmware banks (R168-R169, R182-R185, R218-R257).
-/

namespace Sys2Proof.Machine

namespace Ihloon

/-! ### Words (R182-R184) -/

/-- STROKE_WORD over plane `p`, complete by the deadline of its stroke unless `late`; one that completes after the boundary is late
too. A failed tag, a late word and a word out of range, for another address or with STATE 7 count each for itself (R182). Over a
link without keys or with its receiver down nothing is accepted (R411, R428). -/
def strokeWord (c : Ihloon) (lim p : Nat) (w : Nat) (m : LinkMsg) (late : Bool) : Ihloon :=
  if !c.mainRuns || c.rd F.LNK_LK_STAT_RXST p != 3 || !(c.trust.keyed.contains p) then c
  else if !m.framed then c.inc F.LNK_LK_CNT1_MDISC p
  else
    let d := (bits w 48 32 + 2 ^ 32 - c.stroke % 2 ^ 32) % 2 ^ 32
    let t := strokeMod (if d < 2 ^ 31 then c.stroke + d else c.stroke + 2 ^ 48 + d - 2 ^ 32)
    let late := late || decide (d = 0 ∨ 2 ^ 31 ≤ d)
    let out := decide (d < 1 ∨ 8 < d) || bits w 80 13 != c.addr || bits w 0 3 == 7
    let c := (c.iff late (·.inc F.LNK_CNT1_LATE)).iff out (·.inc F.LNK_CNT1_RANGE)
    if !(m.tagFor t) then
      let d := c.tagFailed lim p
      if d.rd F.LNK_LK_STAT_RXST p = 3 then d else d.tamper 7
    else if late || out then c
    else c.onCell (fun s => { s with words := s.words ++ [⟨p, t, w⟩] })

/-- No valid word for stroke `t` (R184). -/
def miss (c : Ihloon) (T t : Nat) : Ihloon :=
  if !(c.on F.LNK_ACC_VALID) then c
  else
    let n := c.rd F.LNK_HSTAT_HCNT
    let c := if n = 0 then (c.inc F.LNK_CNT2_HOLDEV).raise 8 else c
    let c := ((c.inc F.LNK_CNT0_MISS).wr F.LNK_HSTAT_HCNT (satU 7 (n + 1))).up F.LNK_HSTAT_HOLD
    let c := c.onCell (fun s => { s with info := some ⟨t, true, false, false⟩ })
    match c.cell.nib.carrier with
    | some (cmp, pol) =>
      if c.on F.NIB_STAT_EN_ACT && !(c.on F.NIB_STAT_FROZEN) && !c.gated then c.planWord T t 4 pol cmp else c
    | none => c

/-- The choice of R182 among the valid words for `t`. -/
def choose (l : List HeldWord) : Option (HeldWord × Bool) :=
  let claim (w : HeldWord) : Nat := bits w.word 20 16
  let twin (w : HeldWord) : Nat := bits w.word 36 1
  let best := l.filter (fun x => l.all (fun y => !(higher (claim y) (claim x))))
  let best := if best.any (fun x => twin x = 0) then best.filter (fun x => twin x = 0) else best
  let p := best.find? (fun x => x.plane = 0)
  let q := best.find? (fun x => x.plane = 1)
  match p, q with
  | some a, some b => some (a, decide (best.length = 2) && a.word != b.word)
  | some a, none => some (a, false)
  | none, some b => some (b, false)
  | none, none => none

/-- ARMING_DEADLINE of the next stroke (R182): choose, execute, or run hold-over. -/
def armingDeadline (c : Ihloon) (T : Nat) : Ihloon :=
  if !c.mainRuns then c
  else
    let t := strokeMod (c.stroke + 1)
    let mine := c.cell.words.filter (fun x => x.t = t)
    let low (x : HeldWord) : Bool := c.on F.LNK_ACC_VALID && higher (c.rd F.LNK_ACC_CLAIM) (bits x.word 20 16)
    let c := c.inc F.LNK_CNT1_RANGE 0 (mine.filter low).length
    let c := c.onCell (fun s => { s with words := s.words.filter (fun x => x.t ≠ t) })
    match choose (mine.filter (fun x => !(low x))) with
    | none => c.miss T t
    | some (x, differ) =>
      let st := bits x.word 0 3
      let eout := (st = 2 ∨ st = 3) ∧ edgeSteps T ≤ bits x.word 4 16
      let c := (((c.wr F.LNK_ACC_CLAIM (bits x.word 20 16)).wr F.LNK_ACC_TWIN (bits x.word 36 1)).wr F.LNK_ACC_PLANE
        x.plane).up F.LNK_ACC_VALID
      let c := if eout then (c.up F.LNK_HSTAT_EOUT).inc F.LNK_CNT2_EOUT else c
      let c := if differ then (c.up F.LNK_HSTAT_PDIFF).raise 21 else c
      let c := ((c.wr F.LNK_HSTAT_HCNT 0).down F.LNK_HSTAT_HOLD).lower 8
      let c := c.onCell (fun s => { s with
        info := some ⟨t, false, differ, eout⟩, lastAcc := (bits x.word 20 16, bits x.word 36 1, x.plane) })
      c.takeWord T t x.word

/-! ### Reports (R168, R169, R224) -/

/-- The latest result of entry `e` sampled by SB(k); with `recent` only one complete since SB(k − 1) + 50 ns. -/
def latest (c : Ihloon) (k e : Nat) (recent : Bool) : Option Nat :=
  let ok (r : AqRes) : Bool :=
    r.entry == e && (r.stroke == k && r.slot == 0 || r.stroke != k) && (!recent || decide (strokeDiff r.stroke k ≤ 1))
  ((c.cell.aq.hist.filter ok).getLast?).map (·.value)

/-- A sample field: the mapped entry's latest result, or the value for none. -/
def sample (c : Ihloon) (k : Nat) (en e : Fld) (recent : Bool) (none : Nat) : Nat :=
  if c.on en then (c.latest k (c.rd e) recent).getD none else none

/-- FLT of the report: a latch, overvoltage, SAFE, a HARD drift, or acquisition deferred (R168, R206, R207, R232, R245). -/
def faulted (c : Ihloon) : Bool :=
  c.blockLatched || c.on F.PRT_STAT_OVP || c.on F.LNK_HSTAT_SAFE || c.on F.CAQ_STAT_HARD || !(c.admitted 2)

/-- The report of stroke `k` without its tag (R168). -/
def reportBits (c : Ihloon) (k : Nat) : Nat :=
  let b (x : Bool) (n : Nat) : Nat := if x then 2 ^ n else 0
  let v := if c.on F.CAQ_RES_VALID then c.rd F.CAQ_RES_VALUE else 0
  let vcap := if v = 0x2000 then 0x2001 else v
  let i := match c.cell.info with
    | some i => if i.t = k then i else ⟨k, true, false, false⟩
    | none => ⟨k, true, false, false⟩
  let (cl, tw, pl) := c.cell.lastAcc
  vcap + c.sample k F.CAQ_MAP_VON_EN F.CAQ_MAP_VON_E true 0x2000 * 2 ^ 14
    + b c.fired 28 + b c.faulted 29 + b (!c.follow.locked) 30 + b (!(c.on F.NIB_STAT_EN_ACT)) 31
    + c.sample k F.CAQ_MAP_VONB_EN F.CAQ_MAP_VONB_E true 0x2000 * 2 ^ 32
    + c.sample k F.CAQ_MAP_TEMP_EN F.CAQ_MAP_TEMP_E false 0 * 2 ^ 46
    + c.sample k F.CAQ_MAP_AUX_EN F.CAQ_MAP_AUX_E false 0 * 2 ^ 60
    + satU 16 (c.rd F.RSV_LEVEL_E / 4) * 2 ^ 74 + cl * 2 ^ 90 + tw * 2 ^ 106 + pl * 2 ^ 107
    + b i.hold 108 + b (c.on F.LNK_HSTAT_SAFE) 109 + b i.pdiff 110 + b i.eout 111
    + b (has c.cell.nib.supp (strokeMod (k + 2 ^ 48 - 1))) 112 + b c.cell.isl.tripd 113 + b c.single 114
    + b c.follow.disagree 115 + c.rd F.CBLT_EVCNT_EVCNT * 2 ^ 120 + k % 2 ^ 24 * 2 ^ 128

/-- CELL_REPORT_SEND at SB(k) + 70 ns: one report on both links (R168, R173). In a transmit window it is not sent and is
counted (R413); a trip stays noted until a report has left. The messages that waited for the report start. -/
def reportSend (c : Ihloon) : Ihloon :=
  let c := c.onLan (fun l => { l with held := false })
  if !c.mainRuns then c
  else
    let k := c.stroke
    let r := c.reportBits k
    let left := [0, 1].any (fun n => c.rd F.LNK_LK_STAT_TXST n == 3)
    let c := c.each [0, 1] (fun c n =>
      match c.rd F.LNK_LK_STAT_TXST n with
      | 3 => c.send .cell [n, 2, r, Config.crypto 3 [n, k, r] % 2 ^ 32]
      | 4 => c.inc F.LNK_LK_CNT2_RDROP n
      | _ => c)
    (c.iff left (·.onIsl (fun s => { s with tripd := false }))).messagesGo

/-! ### Acquisition (R218-R233) -/

/-- NIBn has been high for QSETTLE at slot `j` of the present stroke (R221). -/
def settled (c : Ihloon) (T j n : Nat) : Bool :=
  bit c.cell.nib.levels n &&
    decide (Tab.get 0 c.cell.nib.rose n + 20 * c.rd F.CAQ_CFG_QSETTLE ≤ ((c.stroke * edgeSteps T + 20 * j : Nat) : Int))

/-- Sources 13 and 14 follow the block (R229, R232). -/
def aqSources (c : Ihloon) (retiredBefore : Nat) : Ihloon :=
  let c := c.level 13 (c.on F.CAQ_STAT_DRIFT)
  if c.rd F.CAQ_CAL_RETIRED = retiredBefore then c else c.raise 14

/-- A step of the acquisition block with what it shows. -/
def aqStep (c : Ihloon) (f : AqPart → AqPart) : Ihloon := (c.onAq f).aqSources (c.rd F.CAQ_CAL_RETIRED)

/-- AQ_SLOT of the cell. -/
def aqSlot (c : Ihloon) (T : Nat) (ins : List Int) : Ihloon :=
  let j := c.cell.aq.slot
  c.aqStep (fun p => p.nextSlot AqMap.cell T c.stroke ins (!(c.admitted 4)) (c.settled T j))

/-- AQ_RESULT of the cell. -/
def aqResult (c : Ihloon) : Ihloon := c.aqStep (fun p => (p.writeResult AqMap.cell).1)

/-- URGENT_RESULT of the cell. -/
def urgentResult (c : Ihloon) : Ihloon :=
  let some? := !c.cell.aq.urgComing.isEmpty
  let c := c.aqStep (fun p => (p.writeUrgent AqMap.cell).1)
  if some? then c.irq 2 else c

/-- URGENT_REQUEST by cell firmware (R227). -/
def urgentRequest (c : Ihloon) (T tick input : Nat) : Ihloon :=
  (c.wr F.CAQ_URG_INPUT input).aqStep (fun p => p.request AqMap.cell 4 input (some (c.instant T tick)))

/-- AQ_ENABLE: refused while class 2 is deferred (R247). -/
def aqEnable (c : Ihloon) (en : Bool) : Ihloon :=
  if en && !(c.admitted 2) then c.inc F.RSV_CNT_REFUSE else c.aqStep (fun p => p.enable AqMap.cell en)

/-- SLICE_CALIBRATED of the cell. -/
def sliceDone (c : Ihloon) (beyond : Bool) : Ihloon :=
  c.aqStep (fun p => p.sliceDone AqMap.cell beyond (!(c.admitted 4)))

/-- DRIFT_CLEAR of the cell. -/
def driftClear (c : Ihloon) (hard : Bool) : Ihloon := c.aqStep (fun p => p.driftClear AqMap.cell hard)

/-- A read of AQ_RES0 latches the other results (R223). -/
def aqRes0Read (c : Ihloon) (who : Nat) : Ihloon :=
  let c := c.each ((List.range 31).map (· + 1)) (fun c i => c.latch who R.CAQ_RES (c.reg R.CAQ_RES i) i)
  (c.latch who R.CAQ_RES 1).send .readData [who, c.reg R.CAQ_RES]

/-- A read of AQ_URES0 latches AQ_URES1 (R239). -/
def aqUres0Read (c : Ihloon) (who : Nat) : Ihloon :=
  (c.latch who R.CAQ_URES1 (c.reg R.CAQ_URES1)).send .readData [who, c.reg R.CAQ_URES0]

/-! ### Registers of the main domain and of the island -/

/-- Reset the registers at the addresses a test selects. -/
def resetRegs (c : Ihloon) (p : Nat → Bool) : Ihloon := { c with regs := c.regs.filter (fun e => !(p e.1)) }

/-- PRT and RSV lie in the island (R217, R257). -/
def islandReg (a : Nat) : Bool := decide (0x4000 ≤ a) && decide (a < 0x6000)

/-! ### Reservoir (R244-R249) -/

/-- RESV in µJ (R244). -/
def reserve (c : Ihloon) : Nat := c.rd F.RSV_BYPE_BYPE + 25

/-- Defer class `n` and every class above it (R245, R246). -/
def defer (c : Ihloon) (T tick n : Nat) : Ihloon :=
  let was (i : Nat) : Bool := decide (n ≤ i) && c.admitted i
  let w1 := was 1; let w2 := was 2; let w3 := was 3
  let any := w1 || w2 || w3 || was 4 || was 5
  let c := c.wr F.RSV_STAT_ADM (c.rd F.RSV_STAT_ADM % 2 ^ (n - 1))
  let c : Ihloon := if w3 && c.nibOn then
      (c.nibOff (c.instant T tick)).up F.RSV_STAT_NIBOFF |>.onRsv (fun r => { r with auto := true }) else c
  let c : Ihloon := if w2 then c.aqStep (fun p => p.enable AqMap.cell false) else c
  let c : Ihloon := if w1 then (c.each [0, 1] (fun c n => c.wr F.LNK_LK_STAT_TXST 0 n)).onRsv (fun r => { r with attested := false }) else c
  let c : Ihloon := if w1 || w2 || w3 then c.raise 15 else c
  let st := if n ≤ 1 then 2 else if n = 2 then 4 else if n = 3 then 5 else 6
  let c := c.wr F.RSV_STAT_STAGE (min st (c.rd F.RSV_STAT_STAGE))
  if any then c.irq 5 else c

/-- RESERVE_ACTION (R248), once per power cycle of the main domain: none before its reset is released (log entry 176). -/
def reserveAction (c : Ihloon) (T tick : Nat) : Ihloon :=
  if c.cell.rsv.taken || !c.cell.rsv.main then c
  else
    let x := c.instant T tick
    let had := c.fired
    let c := (c.onRsv (fun r => { r with taken := true })).defer T tick 1
    let c : Ihloon := if had then c
      else if c.on F.RSV_CFG_BO_BYP then (c.fireBypass x).showPrt
      else ((c.onIsl (fun s => { s with resvBlock := true })).inc F.PRT_CNT_ACTS).gate x
    (((c.lastFault T 6 tick).up F.RSV_STAT_RESV_HIT).raise 16).irq 4

/-- HOLDUP_CONVERSION of `code` (R244): V in µV × 65,536 / 1,000 is code × 1,200 × DIV. -/
def holdup (c : Ihloon) (T code tick : Nat) : Ihloon :=
  let v : Int := (code * 1200 * c.rd F.RSV_SNS_DIV : Nat)
  let f : Int := (c.rd F.RSV_SNS_FLOOR * 65536 : Nat)
  let e := max 0 (quotFree ((c.rd F.RSV_CAP_CAP : Int) * (v * v - f * f)) (2 * 1000000 * 65536 * 65536))
  let e := e.toNat
  let hist := keepLast 1001 (c.cell.rsv.energy ++ [e])
  let net : Int := (e : Int) - (hist.head?.getD e : Nat)
  let c := (c.wr F.RSV_LEVEL_E (satU 20 e)).wr F.RSV_NET_NET (ofS 32 net)
  let low := if e ≤ c.reserve then c.cell.rsv.low + 1 else 0
  let bf := if v < f then c.cell.rsv.belowFloor + 1 else 0
  let c := c.onRsv (fun r => { r with energy := hist, low := low, belowFloor := bf, above := decide (f < v) })
  if 4 ≤ low then c.reserveAction T tick else c

/-- The link transmitters that are off begin to settle (R245, R250, R411). -/
def startLinks (c : Ihloon) : Ihloon :=
  c.each [0, 1] (fun c n => if c.rd F.LNK_LK_STAT_TXST n = 0 then c.wr F.LNK_LK_STAT_TXST 1 n else c)

/-- STAGE_ADVANCE by one stage, where its condition holds (R250). -/
def advanceOnce (c : Ihloon) : Ihloon :=
  if !c.cell.rsv.main then c
  else
    let auto := c.on F.RSV_CFG_AUTO
    match c.rd F.RSV_STAT_STAGE with
    | 1 => if c.cell.rsv.booted && c.admitted 1 then (c.wr F.RSV_STAT_STAGE 2).startLinks else c
    | 2 =>
      if (c.rd F.LNK_LK_STAT_RXST 0 = 3 ∨ c.rd F.LNK_LK_STAT_RXST 1 = 3) ∧ c.follow.locked ∧ c.admitted 1
      then (c.wr F.RSV_STAT_STAGE 3).onRsv (fun r => { r with attested := false }) else c
    | 3 =>
      if c.cell.rsv.attested && c.admitted 2 then
        let c := c.wr F.RSV_STAT_STAGE 4
        if auto then c.aqEnable true else c
      else c
    | 4 =>
      if c.on F.CAQ_STAT_RUN then c.wr F.RSV_STAT_STAGE 5
      else if auto && c.admitted 2 && !(c.on F.CAQ_CTRL_EN) then c.aqEnable true else c
    | 5 =>
      if c.admitted 3 && auto && c.cell.rsv.auto && !c.nibOn && c.mayEnable then c.nibStart else c
    | _ => c

/-- STAGE_ADVANCE as far as its conditions hold. -/
def advance (c : Ihloon) : Ihloon := (List.range 6).foldl (fun (c : Ihloon) _ => c.advanceOnce) c

/-- LEDGER_PLAN (R246). -/
def ledgerPlan (c : Ihloon) (T tick : Nat) : Ihloon :=
  let hzn : Int := c.rd F.RSV_CFG_HZN
  let avail : Int := (c.rd F.RSV_LEVEL_E : Int) - c.reserve
  let proj := avail + hzn * min (c.rdS F.RSV_NET_NET) 0
  let thr (n : Nat) : Int := c.rd F.RSV_THR_THR (n - 1)
  let c := [5, 4, 3, 2, 1].foldl (fun (c : Ihloon) n =>
    if c.admitted n && decide (proj < thr n) then (c.defer T tick n).inc F.RSV_CNT_DEFER else c) c
  let c : Ihloon := match [1, 2, 3, 4, 5].find? (fun n => !(c.admitted n)) with
    | none => c
    | some n =>
      if thr n + c.rd F.RSV_HYST_HYST ≤ proj - hzn * c.rd F.RSV_COST_COST (n - 1)
      then
        let c := (c.wrBit F.RSV_STAT_ADM (n - 1) true).irq 5
        if n = 1 ∧ 2 ≤ c.rd F.RSV_STAT_STAGE then c.startLinks else c
      else c
  c.advance

/-- BROWN_OUT: the holdup below FLOOR in 4 conversions, or a supply outside its limits, resets the main domain (R249). The
Blotter's sources show the events and the island's latches after that reset (R379, log entry 177). -/
def brownOut (c : Ihloon) (T tick : Nat) (supply : Bool) : Ihloon :=
  if !c.cell.rsv.main || !(supply || decide (4 ≤ c.cell.rsv.belowFloor)) then c
  else
    let c := c.nibOff (c.instant T tick)
    let had := c.cell.rsv.taken
    let c := c.reserveAction T tick
    let c := (c.inc F.RSV_CNT_BORST).up F.RSV_STAT_BORST
    let c := c.resetRegs (fun a => !(islandReg a))
    let c := c.onCell (fun s => { s with
      words := [], info := none, nib := NibModule.reset, aq := AqState.reset, core := Core.reset, waitsFor := none,
      signed := [], rsv := { s.rsv with main := false, clocks := false, booted := false, attested := false } })
    let c : Ihloon := { c.wr F.RSV_STAT_STAGE 0 with
      follow := Follower.reset, lan := LaneExt.reset, latches := [], blt := LocalBlotter.reset,
      trust := { c.trust with keyed := [], session := none } }
    let c := c.showPrt.raise 17
    if had then c else c.raise 16

/-- VDD_IO_LOSS: the island stops and releases every output (R249). -/
def vddIoLoss (c : Ihloon) : Ihloon :=
  let c := c.resetRegs (fun _ => true)
  let c := c.onCell (fun s => { CellState.reset with keep := s.keep, fw := s.fw })
  { c with
    follow := Follower.reset, lan := LaneExt.reset, latches := [], blt := LocalBlotter.reset,
    trust := { c.trust with keyed := [], session := none } }

/-- ISLAND_RESET_RELEASE: the island, PRT and RSV start at their reset values with the keeper's content (R242, R257). -/
def islandRelease (c : Ihloon) : Ihloon :=
  if c.cell.isl.power then c
  else
    let c := c.resetRegs islandReg
    let c := c.onCell (fun s => { s with isl := { IslandState.reset with power := true }, rsv := ReservoirState.reset })
    let c : Ihloon := if c.cell.keep.bypass then c.up F.PRT_BYP_KEPT else c
    c.showKeeper.gate (c.instant 0 0)

/-- Clear a lost keeper item (R254). -/
def loseItem (c : Ihloon) (i : KeeperItem) : Ihloon :=
  match i with
  | .counter => c.onKeep (fun k => { k with counter := 0, counterLost := true })
  | .tamper => c.onKeep (fun k => { k with tamper := [], tamperTotal := 0 })
  | .bypass => c.onKeep (fun k => { k with bypass := true })
  | .first => c.onKeep (fun k => { k with first := [] })
  | .last => c.onKeep (fun k => { k with last := [] })

/-! ### Signed settings (R197, R214, R225, R426) -/

/-- Write a settings item: a register offset and its value; REARM acts (R213) unless the record is loaded at power-on. -/
def applyItem (c : Ihloon) (load : Bool) (e : Nat × Nat) : Ihloon :=
  let fixed (n : Nat) : Bool := decide (n < 8) || n == 9 || n == 16
  let c := { c with regs := (fieldsAt FieldList.ihloon e.1).foldl (fun rf d =>
    if d.1.kind == .signed && d.1.acc != .w1s && !(d.1 == F.CBLT_SRC_CFG_CLASS && fixed d.2)
    then rf.setFld d.1 (e.2 / 2 ^ d.1.lo) d.2 else rf) c.regs }
  if !load && e.1 == R.PRT_BYP.addr && bit e.2 24 then c.rearm else c

/-- A record's items as they take effect: acquisition starts afresh and entries changed lose their result (R225). -/
def applySettings (c : Ihloon) (load : Bool) (l : List (Nat × Nat)) : Ihloon :=
  let before := (List.range 32).map (fun i => c.rd F.CAQ_SEQ_ENTRY i)
  let c := l.foldl (fun (c : Ihloon) e => c.applyItem load e) c
  let key (w : Nat) : Nat := bits w 0 5 + bits w 9 4 * 32
  let c := c.each (List.range 32) (fun c i =>
    if key (nth 0 before i) = key (c.rd F.CAQ_SEQ_ENTRY i) then c
    else (c.wr F.CAQ_RES_VALID 0 i).onCell (fun s => { s with aq := { s.aq with hist := s.aq.hist.filter (fun r => r.entry ≠ i) } }))
  c.onCell (fun s => { s with aq := { s.aq with entry := none, wait := 0, made := 0 } })

/-- A record is refused whole when it sets DT or MINP above 4,096 or HOLD outside 2-64 (R192, R197). -/
def recordLegal (l : List (Nat × Nat)) : Bool :=
  l.all (fun e =>
    (e.1 != R.NIB_DT.addr || decide (bits e.2 0 13 ≤ 4096)) && (e.1 != R.NIB_MINP.addr || decide (bits e.2 0 13 ≤ 4096)) &&
    (e.1 != R.LNK_CMD.addr || (decide (2 ≤ bits e.2 0 7) && decide (bits e.2 0 7 ≤ 64))))

/-- SIGNED_SETTINGS_APPLY: at a boundary at which no dead time runs (R214). -/
def signedApply (c : Ihloon) (T : Nat) : Ihloon :=
  if c.cell.signed.isEmpty || !c.cell.nib.turnOn.isEmpty then c
  else ((c.applySettings false c.cell.signed).redrive T).onCell (fun s => { s with signed := [] })

/-- MAIN_RESET_RELEASE with the keeper items whose CRC fails (R242, R254): boot starts, the stored settings load. -/
def mainRelease (c : Ihloon) (lost : List KeeperItem) : Ihloon :=
  if !c.cell.isl.power || c.cell.rsv.main || !c.cell.rsv.above then c
  else
    let c := lost.foldl (fun (c : Ihloon) i => c.loseItem i) c
    let c : Ihloon := if lost.isEmpty then c else (c.up F.RSV_STAT_KLOST).raise 18
    let c : Ihloon := if c.cell.keep.bypass && !(c.on F.PRT_BYP_FIRED) then
        c.up F.PRT_BYP_KEPT
      else c
    let c := c.onRsv (fun r => { r with
      main := true, clocks := true, booted := false, taken := false, auto := true, low := 0 })
    let c := (c.showKeeper).wr F.RSV_STAT_STAGE 1
    let c : Ihloon := match c.cell.fw.settings with
      | some (_, l) => c.applySettings true l
      | none => c
    let c : Ihloon := if c.on F.PRT_BYP_KEPT && c.on F.PRT_CFG_BYPMODE then c.onIsl (fun s => { s with bypLow := true }) else c
    c.gate (c.instant 0 0)

/-! ### Firmware banks (R255, R256, R425) -/

def onFw (c : Ihloon) (f : FlashState → FlashState) : Ihloon := c.onCell (fun s => { s with fw := f s.fw })

/-- First byte of the idle bank. -/
def idleBase (c : Ihloon) : Nat := if c.on F.RSV_FWSTAT_ACTIVE then 0 else 0x100000

/-- FW_ERASE, over the management channel: class 5 work (R255). -/
def fwErase (c : Ihloon) : Ihloon :=
  if !(c.admitted 5) then c.inc F.RSV_CNT_REFUSE
  else
    ((((c.up F.RSV_FWSTAT_ERASING).down F.RSV_FWSTAT_ERASED).down F.RSV_FWSTAT_VERIFIED).wr F.RSV_FWSTAT_NEXT 0).onFw
      (fun f => { f with written := [], length := 32256, verifying := false })

/-- ERASE_COMPLETE: the settings sector stays (R425). -/
def eraseComplete (c : Ihloon) : Ihloon :=
  if !(c.on F.RSV_FWSTAT_ERASING) || !(c.admitted 5) then c
  else
    let b := c.idleBase
    ((c.down F.RSV_FWSTAT_ERASING).up F.RSV_FWSTAT_ERASED).onFw (fun f => { f with
      mem := f.mem.filter (fun e => ¬(b ≤ e.1 ∧ e.1 < b + 32256 * 32)) })

/-- The lowest block not yet written; 32,768 when the image is complete (R255). -/
def nextBlock (f : FlashState) : Nat :=
  let n := f.written.foldl (fun n x => if x = n then n + 1 else n) 0
  if f.length ≤ n then 32768 else n

/-- Insert a number into a rising list. -/
def insertUp (x : Nat) : List Nat → List Nat
  | [] => [x]
  | y :: t => if x < y then x :: y :: t else if x = y then y :: t else y :: insertUp x t

/-- The image length in blocks that the header in block 0 gives: LEN at byte 8, envelope of 0x80 + LEN + 3,408 bytes
(R423). -/
def imageBlocks (data : Nat) : Nat := (bits data 64 32 + 0x80 + 3408 + 31) / 32

/-- An image block's outcome: 0 programmed or identical, or the error code (R255). -/
def imageBlock (c : Ihloon) (idx cnt data : Nat) : Ihloon × Nat :=
  let f := c.cell.fw
  let a := c.idleBase + 32 * idx
  if !(c.on F.RSV_FWSTAT_ERASED) || !(c.admitted 5) then (c, 6)
  else if cnt ≠ 7 ∨ f.length ≤ idx ∨ (idx = 0 ∧ 32256 < imageBlocks data) then (c, 5)
  else if f.written.contains idx then
    (c, if (List.range 32).all (fun i => (Tab.get 0 f.mem (a + i)).toNat = bits data (8 * i) 8) then 0 else 5)
  else
    let mem := (List.range 32).foldl (fun m i => Tab.set 0 m (a + i) (BitVec.ofNat 8 (bits data (8 * i) 8))) f.mem
    let c := c.onFw (fun f => { f with
      mem := mem, written := insertUp idx f.written, length := if idx = 0 then imageBlocks data else f.length })
    (c.wr F.RSV_FWSTAT_NEXT (nextBlock c.cell.fw), 0)

/-- FW_VERIFY starts the signature check of the idle image. -/
def fwVerify (c : Ihloon) : Ihloon := c.onFw (fun f => { f with verifying := true })

/-- FW_ACTIVATE, over the management channel (R256). -/
def fwActivate (c : Ihloon) (T tick : Nat) : Ihloon :=
  if c.on F.RSV_FWSTAT_VERIFIED && c.admitted 5 && (c.fired || !c.nibOn) then
    let c := (c.coreReset T tick).up F.RSV_FWSTAT_TRIAL_RUN
    (c.wr F.RSV_STAT_STAGE 1).onRsv (fun r => { r with booted := false, attested := false, auto := true })
  else c.inc F.RSV_CNT_REFUSE

/-- FW_CONFIRM by cell firmware: the trial image becomes the active one (R256, R425). -/
def fwConfirm (c : Ihloon) : Ihloon :=
  if !(c.on F.RSV_FWSTAT_TRIAL_RUN) then c
  else
    let f := c.cell.fw
    let c := ((c.down F.RSV_FWSTAT_TRIAL_RUN).down F.RSV_FWSTAT_VERIFIED).down F.RSV_FWSTAT_ERASED
    let c := c.wr F.RSV_FWSTAT_ACTIVE (1 - c.rd F.RSV_FWSTAT_ACTIVE)
    let c := { c with trust := { c.trust with
      svn := if f.adv && decide (c.trust.svn < f.svn) then min 64 f.svn else c.trust.svn } }
    ((c.wr F.RSV_STAT_STAGE 1).onRsv (fun r => { r with attested := false })).advance

/-- TRIAL_TIMEOUT: the old bank boots (R256). -/
def trialTimeout (c : Ihloon) (T tick : Nat) : Ihloon :=
  if !(c.on F.RSV_FWSTAT_TRIAL_RUN) then c
  else
    let c := (((c.coreReset T tick).down F.RSV_FWSTAT_TRIAL_RUN).up F.RSV_FWSTAT_REVERTED).raise 22
    (c.wr F.RSV_STAT_STAGE 1).onRsv (fun r => { r with booted := false, attested := false, auto := true })

/-- SECURE_BOOT_DONE (R250, R421): a part whose image or identity fails does not leave boot. -/
def secureBootDone (c : Ihloon) (ok : Bool) : Ihloon :=
  if !c.cell.rsv.main || c.rd F.RSV_STAT_STAGE != 1 then c
  else if ok then (c.onRsv (fun r => { r with booted := true })).advance
  else c.raise 24

/-- LFR_CLEAR (R257). -/
def lfrClear (c : Ihloon) : Ihloon := (c.onKeep (fun k => { k with first := [], last := [], records := 0 })).showKeeper

/-- A read of RSV_LFRF0 (true) or RSV_LFRL0 latches the rest of its record (R257). -/
def lfrRead (c : Ihloon) (who : Nat) (first : Bool) : Ihloon :=
  let rs := lfrRegs first
  let c := (rs.drop 1).foldl (fun (c : Ihloon) r => c.latch who r (c.reg r)) c
  c.send .readData [who, (rs.head?.map (fun r => c.reg r)).getD 0]

/-- Source 25: the island oscillator against the main clock, every 100 µs (R362). -/
def oscCheck (c : Ihloon) (good : Bool) : Ihloon := if c.mainRuns then c.level 25 (!good) else c

/-! ### The stroke boundary of the cell -/

/-- Event sources count the boundaries to the fall of their cause (R358). -/
def eventCount (c : Ihloon) : Ihloon :=
  { c with blt := { c.blt with eventLeft := c.blt.eventLeft.map (fun e => (e.1, max 1 (e.2 - 1))) } }

/-- A WAITS of the Quill-S whose stroke has come returns the stroke number (R274). -/
def cellWake (c : Ihloon) : Ihloon :=
  match c.cell.waitsFor with
  | none => c
  | some w =>
    if w.asleep && decide (strokeDiff w.target c.stroke ≥ 0) then
      (c.onCore (fun k => { k.setReg w.rd (c.stroke % 2 ^ 32) with pc := (w.pc + 4) % 2 ^ 32 })).onCell
        (fun s => { s with waitsFor := none })
    else c

/-- STROKE_BOUNDARY on cell time: a new stroke begins (R28, R202, R208, R222, R233, R281, R435). -/
def boundary (c : Ihloon) (T : Nat) : Ihloon :=
  if !c.cell.rsv.main || !(c.cell.rsv.clocks) then c
  else
    let prev := c.stroke
    let c := { c with stroke := strokeMod (c.stroke + 1) }
    let c := { c with follow := if c.follow.locked then c.follow.slewStroke ihloonLimits else c.follow }
    let c := c.eventCount
    let second (k : Nat) : Nat := k * T / 1000000000
    let c : Ihloon := if second prev = second c.stroke then c else c.onLan (fun l => { l with failSec := [] })
    let c := c.onLan (fun l => { l with held := true })
    let c := c.aqStep (fun p => p.boundary AqMap.cell prev (!(c.admitted 4)))
    let c := c.signedApply T
    let c := c.nibBoundary T
    let c := c.cellWake
    ((c.onCell (fun s => { s with words := s.words.filter (fun x => 0 < strokeDiff c.stroke x.t) })).irq 0).advance

/-- An island action: nothing while the island has no power. -/
def island (c : Ihloon) (f : Ihloon → Ihloon) : Ihloon := if c.cell.isl.power then f c else c

end Ihloon

end Sys2Proof.Machine
end

