-- ==== Sys2Proof/Machine/Arbiter.lean ====
section
/-!
DEFINITION. The Gloesk's auxiliary acquisition and the arbiters that decide which reference of a cell has drifted
(R234-R238).
-/

namespace Sys2Proof.Machine

namespace Gloesk

/-- Run a function of the auxiliary acquisition block (R238). -/
def onAq (g : Gloesk) (f : AqPart → AqPart) : Gloesk :=
  let p := f ⟨g.regs, g.aq⟩
  { g with regs := p.regs, aq := p.aq }

/-- A step of the block; sources 45 and 46 follow it. -/
def aqStep (g : Gloesk) (f : AqPart → AqPart) : Gloesk :=
  let was := g.on F.AQ_STAT_HARD
  let old := g.rd F.AQ_CAL_RETIRED
  let g := g.onAq f
  let g := if was = g.on F.AQ_STAT_HARD then g else g.level 45 (g.on F.AQ_STAT_HARD)
  if g.rd F.AQ_CAL_RETIRED = old then g else g.raise 46

/-- AQ_SLOT of the Gloesk, aligned to Baseline time. -/
def aqSlot (g : Gloesk) (ins : List Int) : Gloesk :=
  g.aqStep (fun p => p.nextSlot AqMap.gloesk g.period g.stroke ins false (fun _ => false))

/-- AQ_RESULT: written, and copied to the auxiliary record of its entry (R238, R314). -/
def aqResult (g : Gloesk) : Gloesk :=
  let r := (AqPart.mk g.regs g.aq).writeResult AqMap.gloesk
  let g := g.aqStep (fun p => (p.writeResult AqMap.gloesk).1)
  match r.2 with
  | none => g
  | some x => g.store (stagingAddr 1 (0x30400 + 0x40 * x.entry)) 64 (g.reg R.AQ_RES x.entry)

def aqUrgentResult (g : Gloesk) : Gloesk := g.aqStep (fun p => (p.writeUrgent AqMap.gloesk).1)

/-- An urgent request by Quill firmware. -/
def aqUrgentRequest (g : Gloesk) (input : Nat) : Gloesk :=
  (g.wr F.AQ_URG_INPUT input).aqStep (fun p => p.request AqMap.gloesk 4 input none)

/-- An urgent request of TRIGIN0 or TRIGIN1. -/
def aqTrigin (g : Gloesk) (n : Nat) : Gloesk :=
  let i := if n = 0 then g.rd F.AQ_TURG_IN0 else g.rd F.AQ_TURG_IN1
  g.aqStep (fun p => p.request AqMap.gloesk n i none)

def aqEnable (g : Gloesk) (en : Bool) : Gloesk := g.aqStep (fun p => p.enable AqMap.gloesk en)
def sliceDone (g : Gloesk) (beyond : Bool) : Gloesk := g.aqStep (fun p => p.sliceDone AqMap.gloesk beyond false)
def driftClear (g : Gloesk) (hard : Bool) : Gloesk := g.aqStep (fun p => p.driftClear AqMap.gloesk hard)
def aqBoundary (g : Gloesk) (prev : Nat) : Gloesk := g.aqStep (fun p => p.boundary AqMap.gloesk prev false)

def aqRes0Read (g : Gloesk) (who : Nat) : Gloesk :=
  (g.each ((List.range 31).map (· + 1)) (fun g i => g.latch who R.AQ_RES (g.reg R.AQ_RES i) i)).latch who R.AQ_RES 1 |>.answer who [g.reg R.AQ_RES]

def aqUres0Read (g : Gloesk) (who : Nat) : Gloesk :=
  (g.latch who R.AQ_URES1 (g.reg R.AQ_URES1)).answer who [g.reg R.AQ_URES0]

/-! ### Arbiters (R234-R237) -/

def onArb (g : Gloesk) (f : ArbiterState → ArbiterState) : Gloesk := { g with arb := f g.arb }

/-- A management write to a cell's register from the twin, on the plane whose lane is up (R188). -/
def cellWrite (g : Gloesk) (x ofs v : Nat) : Gloesk :=
  g.mgmtFrame (g.cellLane x) 2 0 1 (x % 256) ofs [v]

/-- Start the arbiter of the suspect cell's arm, or count the rejection (R234). For a cell of no arm the spec leaves open which
arm counts it: free (log entry 214). -/
def arbStart (g : Gloesk) : Gloesk :=
  let x := g.rd F.AQ_ARBCMD_ADDR
  let d := g.rdS F.AQ_ARBD_D
  let a := g.armOf x
  if 12 ≤ a then (g.inc F.AQ_ARB_CNT_REJ (g.free % 12)).nextFree
  else if g.on F.AQ_ARB_STAT_BUSY a || !(g.on F.AQ_ARB_CFG_ARB_EN a) || decide (d.natAbs < 500) then g.inc F.AQ_ARB_CNT_REJ a
  else
    let g := ((g.up F.AQ_ARB_STAT_BUSY a).wr F.AQ_ARB_STAT_CELL x a).wr F.AQ_ARB_N0_N0 0 a |>.wr F.AQ_ARB_N1_N1 0 a
    let s := (g.svAgreed (g.rd F.AQ_ARB_CFG_STREAM a)).map (·.idx)
    g.onArb (fun b => { b with run := b.run.filter (fun e => e.1 ≠ a) ++ [(a, ⟨x, d, none, [], 0, 0, 0, 0, 0, s⟩)] })

/-- One staged write of the AQ block takes effect (R234). -/
def aqApply (g : Gloesk) (addr v : Nat) : Gloesk :=
  if addr = R.AQ_ARBD.addr then g.wr F.AQ_ARBD_D v
  else if addr = R.AQ_ARBCMD.addr then
    let g := g.wr F.AQ_ARBCMD_ADDR v
    if bit v 16 then g.arbStart else g
  else g

/-- An arbiter ends with an outcome at input set `k` (R237): 1 PRIMARY, 2 CHECK, 3 UNRESOLVED. -/
def arbEnd (g : Gloesk) (a k outcome : Nat) (b : Arbiter) : Gloesk :=
  let g := (((g.wr F.AQ_ARB_STAT_OUTCOME outcome a).down F.AQ_ARB_STAT_BUSY a).raise 44).onArb (fun s =>
    { run := s.run.filter (fun e => e.1 ≠ a),
      holdOuts := if outcome = 2 then s.holdOuts else s.holdOuts ++ [(a, b.cell, strokeMod (k + 16))] })
  if !g.leadsClaim then g
  else if outcome = 1 then g.cellWrite b.cell R.CAQ_REFCTL.addr 1
  else if outcome = 2 then g.cellWrite b.cell R.CAQ_REFCTL.addr 2
  else g

/-- ARBITER_DECIDE (R236): none while the classes are short. A sum V1 of 0 leaves u unstated: a free value (log entry 4). -/
def arbDecide (g : Gloesk) (a k : Nat) (b : Arbiter) : Gloesk :=
  let n := 2 ^ g.rd F.AQ_ARB_LIM_ACC_LOG a
  if b.n0 < n ∨ b.n1 < n then g
  else
    let num : Int := 1000000 * (b.s0 * b.n1 - b.s1 * b.n0)
    let den : Int := b.n0 * b.v1
    let u : Int := if den = 0 then toS 32 g.free else if 0 < den then roundAway num den else roundAway (-num) (-den)
    let g := if den = 0 then g.nextFree else g
    let g := g.wrSat F.AQ_ARB_U_U u a
    if 2 * (u - b.d).natAbs ≤ b.d.natAbs then g.arbEnd a k 1 b
    else if 2 * u.natAbs ≤ b.d.natAbs then g.arbEnd a k 2 b
    else g.arbEnd a k 3 b

/-- ARBITER_SAMPLE: the agreed sample of the arm's stream, if it is new, GOOD and without lag (R235). -/
def arbSample (g : Gloesk) (a : Nat) (b : Arbiter) : Gloesk × Arbiter :=
  let n := g.rd F.AQ_ARB_CFG_STREAM a
  match g.svAgreed n, g.svi.inputs.find? (fun e => e.1 = n) with
  | some s, some (_, x) =>
    if b.sample = some s.idx then (g, b)
    else
      let b := { b with sample := some s.idx }
      if x.state ≠ 1 ∨ x.lag ≠ 0 then (g, b)
      else
        let rate := svRate (g.rd F.SVI_SUB_CFG_RATE n)
        let j := strokeMod ((2 * s.idx * 1000000000 + rate * g.period) / (2 * rate * g.period))
        match b.ring.find? (fun e => e.1 = j) with
        | some (_, false, agg, some (vc, counted)) =>
          let ch : Int := (nth (0, 0) s.vals (g.rd F.AQ_ARB_CFG_CH a)).1
          let r := ch * g.rdS F.AQ_ARB_KV_KV a / 65536 - agg
          if counted then (g, { b with s1 := b.s1 + r, n1 := b.n1 + 1, v1 := b.v1 + vc })
          else (g, { b with s0 := b.s0 + r, n0 := b.n0 + 1 })
        | _ => (g.inc F.AQ_ARB_CNT_SKIP a, b)
  | _, _ => (g, b)

/-- The busy arbiters at the agreement of input set `k`. -/
def arbStep (g : Gloesk) (k : Nat) : Gloesk :=
  g.arb.run.foldl (fun (g : Gloesk) e =>
    let (a, b) := e
    let r := g.rankOf k a
    let row := (k, g.armBlocked a, toS 32 (Tab.get 0 g.lpe.agg (a * 8 + 2)).toNat,
      ((r.order.zip r.vcs).find? (fun e => e.1 = b.cell)).map (fun e => (e.2, g.commandedIn k b.cell)))
    let b := { b with first := some (b.first.getD k), ring := keepLast 4096 (b.ring ++ [row]) }
    let (g, b) := g.arbSample a b
    let g := (g.wr F.AQ_ARB_N0_N0 b.n0 a).wr F.AQ_ARB_N1_N1 b.n1 a
    let g := g.onArb (fun s => { s with run := s.run.map (fun x => if x.1 = a then (a, b) else x) })
    g.arbDecide a k b) g

/-- ARBITER_TIMEOUT: 2^TO_LOG input sets from the start (R236). -/
def arbTimeout (g : Gloesk) (a : Nat) : Gloesk :=
  match g.arb.run.find? (fun e => e.1 = a) with
  | some (_, b) =>
    match b.first with
    | some f =>
      if ((2 ^ g.rd F.AQ_ARB_LIM_TO_LOG a : Nat) : Int) ≤ strokeDiff f g.svi.inputSet + 1 then g.arbEnd a g.svi.inputSet 3 b else g
    | none => g
  | none => g

/-- ARBITER_HOLD_OUT: the cell of arm `a` is held out for the ranking of input set k_o + 16 (R237). -/
def arbHoldOut (g : Gloesk) (a : Nat) : Gloesk :=
  match g.arb.holdOuts.find? (fun e => e.1 = a) with
  | some (_, x, t) =>
    if strokeDiff t (strokeMod (g.svi.inputSet + 1)) < 0 then g
    else (g.holdApply x 1).onArb (fun s => { s with holdOuts := s.holdOuts.filter (fun e => e ≠ (a, x, t)) })
  | none => g

end Gloesk

end Sys2Proof.Machine
end

