-- ==== Sys2Proof/Machine/Ductus.lean ====
section
/-!
DEFINITION. Ductus: task states, posts and releases, delay lists, locks and priority inheritance, dispatch and
pre-emption, contexts, faults and host control (R287-R305).
-/

namespace Sys2Proof.Machine

namespace Gloesk

/-! ### Tasks, cores and lists -/

/-- Change the Ductus state. -/
def onDuc (g : Gloesk) (f : DuctusState → DuctusState) : Gloesk := { g with duc := f g.duc }

/-- A Quill pair. -/
def core (g : Gloesk) (q : Nat) : Core := Tab.get Core.reset g.cores q

/-- Change a Quill pair. -/
def onPair (g : Gloesk) (q : Nat) (f : Core → Core) : Gloesk := { g with cores := Tab.upd Core.reset g.cores q f }

/-- A Quill pair that this part has (R2, R258). -/
def pairPresent (g : Gloesk) (q : Nat) : Bool := decide (q < if g.small then 8 else 16)

/-- The state of a task (R288). -/
def tstate (g : Gloesk) (t : Nat) : Nat := g.rd F.DUC_TASK_STAT_STATE t

/-- Base and effective priority. -/
def pri (g : Gloesk) (t : Nat) : Nat := g.rd F.DUC_TASK_CFG_PRI t
def epri (g : Gloesk) (t : Nat) : Nat := g.rd F.DUC_TASK_STAT_EPRI t

/-- DUC_RDY shows which ready lists hold a task. -/
def showReady (g : Gloesk) : Gloesk :=
  g.wr F.DUC_RDY_LISTS ((below 16 (fun p => g.duc.ready.any (fun t => g.epri t == p))).foldl (fun m p => m + 2 ^ p) 0)

/-- A task joins the tail of its ready list (R296). -/
def makeReady (g : Gloesk) (t : Nat) : Gloesk :=
  ((g.wr F.DUC_TASK_STAT_STATE 2 t).onDuc (fun d => { d with ready := without d.ready t ++ [t] })).showReady

/-- A task joins the head of its ready list (R296). -/
def readyFirst (g : Gloesk) (t : Nat) : Gloesk :=
  ((g.wr F.DUC_TASK_STAT_STATE 2 t).onDuc (fun d => { d with ready := t :: without d.ready t })).showReady

/-- READY at ENTRY with a fresh context (R289). -/
def startFresh (g : Gloesk) (t : Nat) : Gloesk :=
  (g.makeReady t).onDuc (fun d => { d with
    fresh := without d.fresh t ++ [t], results := d.results.filter (fun r => r.1 ≠ t), tags := Tab.set [] d.tags t [] })

/-- Remember that a tick made the task READY: its dispatch may be late (R300). -/
def mark (g : Gloesk) (t : Nat) : Gloesk :=
  g.onDuc (fun d => { d with ticked := d.ticked.filter (fun e => e.1 ≠ t) ++ [(t, g.time.bl)] })

/-- A post (R289): the task's status of R275 for it. `release` says that a periodic release made it. -/
def post1 (g : Gloesk) (t : Nat) (release : Bool) : Gloesk :=
  if g.tstate t = 0 then g
  else if g.tstate t = 1 then (g.startFresh t).iff release (·.mark t)
  else
    let g := g.inc F.DUC_TASK_CNT0_POSTMISS t
    if release then (((g.up F.DUC_TASK_STAT_OVR t).up F.DUC_STATUS_OVR).inc F.DUC_ERRCNT_OVR).raise 51 else g

/-- The status that a post returns (R275): 0 posted, 1 active already, 2 no such task. -/
def postStatus (g : Gloesk) (t : Nat) : Nat := if g.tstate t = 0 then 2 else if g.tstate t = 1 then 0 else 1

/-- A waiting task becomes READY; its wait or lock returns `v` (R274, R275). -/
def wake (g : Gloesk) (t v : Nat) : Gloesk :=
  let g := (g.wr F.DUC_TASK_WAKE_WAKE 0 t).makeReady t
  g.onDuc (fun d => { d with
    results := d.results ++ [(t, Tab.get 0 d.dest t, v)], wakeS := Tab.del d.wakeS t, lockFrom := Tab.del d.lockFrom t,
    wakeA := d.wakeA.filter (fun e => e.1 ≠ t), lockLate := without d.lockLate t })

/-! ### Locks (R293-R295) -/

/-- The locks a task holds. -/
def locksOf (g : Gloesk) (t : Nat) : List Nat :=
  below 64 (fun l => g.on F.DUC_LOCK_HELD l && g.rd F.DUC_LOCK_HOLDER l == t)

/-- The wait queue of a lock, in order of arrival. -/
def queue (g : Gloesk) (l : Nat) : List Nat := Tab.get [] g.duc.queues l

/-- Replace the wait queue of a lock. -/
def setQueue (g : Gloesk) (l : Nat) (q : List Nat) : Gloesk :=
  (g.onDuc (fun d => { d with queues := Tab.set [] d.queues l q })).wr F.DUC_LOCK_WAITERS q.length l

/-- The highest effective priority in a list of tasks. -/
def highest (g : Gloesk) (l : List Nat) : Nat := l.foldl (fun m t => max m (g.epri t)) 0

/-- Effective priorities from the locks held and waited for (R294); `also` are tasks that may have fallen. A READY task
whose priority changes goes behind the tasks already on its new list. -/
def reprioritise (g : Gloesk) (also : List Nat) : Gloesk :=
  let held := g.duc.queues.map (·.1)
  let holders := held.map (fun l => g.rd F.DUC_LOCK_HOLDER l)
  let all := (also ++ holders).eraseDups
  let before := g
  let g := g.each all (fun g t => g.wr F.DUC_TASK_STAT_EPRI (g.pri t) t)
  let round (g : Gloesk) : Gloesk := g.each held (fun g l =>
    let t := g.rd F.DUC_LOCK_HOLDER l
    g.wr F.DUC_TASK_STAT_EPRI (max (g.epri t) (g.highest (g.queue l))) t)
  let g := held.foldl (fun g _ => round g) g
  let moved := all.filter (fun t => has g.duc.ready t && before.epri t != g.epri t)
  (g.onDuc (fun d => { d with ready := d.ready.filter (fun t => !(has moved t)) ++ moved })).showReady

/-- The head of a wait queue: the highest effective priority, then arrival (R293). -/
def queueHead (g : Gloesk) (l : Nat) : Option Nat :=
  let q := g.queue l
  q.find? (fun t => g.epri t == g.highest q)

/-- A lock is released, marked abandoned or not; the head of its queue is granted at once (R293, R295). -/
def release (g : Gloesk) (l : Nat) (aband : Bool) : Gloesk :=
  let old := g.rd F.DUC_LOCK_HOLDER l
  let g : Gloesk := match g.queueHead l with
    | none =>
      ((g.wr F.DUC_LOCK_HOLDER 0 l).down F.DUC_LOCK_HELD l).wr F.DUC_LOCK_ABAND (if aband then 1 else 0) l
    | some t =>
      let g := (g.setQueue l (without (g.queue l) t)).wr F.DUC_LOCK_HOLDER t l
      (g.down F.DUC_LOCK_ABAND l).wake t (if aband then 1 else 0)
  g.reprioritise [old]

/-- Every lock of a task is released marked abandoned. -/
def releaseAll (g : Gloesk) (t : Nat) : Gloesk := g.each (g.locksOf t) (fun g l => g.release l true)

/-- A free lock is taken: the status of R275. -/
def grab (g : Gloesk) (l t : Nat) : Gloesk := ((g.wr F.DUC_LOCK_HOLDER t l).up F.DUC_LOCK_HELD l).down F.DUC_LOCK_ABAND l

/-- A task is removed from every list (R303). -/
def unlist (g : Gloesk) (t : Nat) : Gloesk :=
  let ls := (g.duc.queues.filter (fun e => has e.2 t)).map (·.1)
  let holders := ls.map (fun l => g.rd F.DUC_LOCK_HOLDER l)
  let g := g.each ls (fun g l => g.setQueue l (without (g.queue l) t))
  let g := g.onDuc (fun d => { d with
    ready := without d.ready t, wakeS := Tab.del d.wakeS t, wakeA := d.wakeA.filter (fun e => e.1 ≠ t),
    lockLate := without d.lockLate t, lockFrom := Tab.del d.lockFrom t, fresh := without d.fresh t,
    results := d.results.filter (fun r => r.1 ≠ t), ticked := d.ticked.filter (fun e => e.1 ≠ t),
    tags := Tab.set [] d.tags t [] })
  (g.wr F.DUC_TASK_WAKE_WAKE 0 t).reprioritise holders

/-! ### Contexts (R298) -/

/-- The context block of a task. -/
def ctxAddr (g : Gloesk) (t : Nat) : Nat := g.partBase 3 + g.rd F.DUC_CTXBASE_OFS + 256 * t

/-- Two words of a bit map of locks. -/
def lockWord (g : Gloesk) (t half : Nat) : Nat :=
  ((g.locksOf t).filter (fun l => l / 32 = half)).foldl (fun m l => m + 2 ^ (l % 32)) 0

/-- Save the context of the task on a core. -/
def saveContext (g : Gloesk) (q t : Nat) : Gloesk :=
  let k := g.core q
  let a := g.ctxAddr t
  let g := g.store a 4 k.pc |>.store (a + 4) 4 k.flags.word
  let g := g.each (List.range 31) (fun g n => g.store (a + 8 + 4 * n) 4 (k.reg (n + 1)))
  let g := (g.store (a + 0x84) 4 (k.mvstat t)).store (a + 0x88) 4 (g.lockWord t 0)
  let g := g.store (a + 0x8C) 4 (g.lockWord t 1)
  let g := g.each (List.range 8) (fun g n => g.store (a + 0x90 + 8 * n) 8 (ofS 64 (k.accOf n)))
  let g := g.each (List.range 6) (fun g n => g.store (a + 0xD0 + 8 * n) 8 0)
  g.onDuc (fun d => { d with tags := Tab.set [] d.tags t k.tags })

/-- The context of a task as a core takes it, its pending results written into their registers. -/
def loadContext (g : Gloesk) (k : Core) (t : Nat) : Core :=
  let a := g.ctxAddr t
  let k := { k with
    pc := g.peek a 4, flags := Flags.ofWord (g.peek (a + 4) 4), w := [], acc := [], tags := Tab.get [] g.duc.tags t }
  let k := (List.range 31).foldl (fun (k : Core) n => k.setReg (n + 1) (g.peek (a + 8 + 4 * n) 4)) k
  let k := (List.range 8).foldl
    (fun (k : Core) n => { k with acc := Tab.set 0 k.acc n (toS 48 (g.peek (a + 0x90 + 8 * n) 6)) }) k
  (g.duc.results.filter (fun r => r.1 = t)).foldl (fun (k : Core) r => k.setReg r.2.1 r.2.2) k

/-- The core is free. -/
def leave (g : Gloesk) (q : Nat) : Gloesk :=
  (g.onPair q (fun k => { k with busy := false, stall := none, stepping := false })).onDuc
    (fun d => { d with runs := without d.runs q, preempt := without d.preempt q })

/-! ### Faults (R301) -/

/-- A task ends by a fault: cause, locks and the state that FPOL gives it. -/
def endByFault (g : Gloesk) (t cause : Nat) : Gloesk :=
  let g := ((g.wr F.DUC_TASK_STAT_XCAUSE cause t).up F.DUC_TASK_STAT_FLT t).inc F.DUC_TASK_CNT1_FAULTS t
  let g := (g.releaseAll t).unlist t
  let p := g.rd F.DUC_TASK_CFG_FPOL t
  let n := g.rd F.DUC_TASK_STAT_RESTCNT t
  if p = 0 then g.wr F.DUC_TASK_STAT_STATE 1 t
  else if p = 2 ∧ n < g.rd F.DUC_TASK_CFG_RESTMAX t then (g.wr F.DUC_TASK_STAT_RESTCNT (n + 1) t).startFresh t
  else g.wr F.DUC_TASK_STAT_STATE 0 t

/-- An uncorrectable error in a context block ends its task (R301, R334). -/
def contextError (g : Gloesk) (t : Nat) : Gloesk :=
  (((g.up F.DUC_STATUS_CTXERR).inc F.DUC_ERRCNT_CTXERR).suspect).endByFault t 11

/-- The moves of a task are abandoned: they still complete (R280). -/
def abandonMoves (g : Gloesk) (q t : Nat) : Gloesk :=
  g.onPair q (fun k => { k with
    moves := k.moves.map (fun m => if m.owner = some t then { m with owner := none } else m), tags := [] })

/-- An exception ends the task on a core (R280). -/
def taskException (g : Gloesk) (q cause addr : Nat) : Gloesk :=
  let t := (g.core q).task
  let g := g.onPair q (fun k => { k with xcause := cause + 256 * t, xpc := k.pc, xaddr := addr % 2 ^ 32 })
  ((((g.abandonMoves q t).leave q).endByFault t cause).raise 48)

/-! ### Dispatch (R296, R297, R300) -/

/-- A core is eligible for a task. -/
def mayRun (g : Gloesk) (t q : Nat) : Bool :=
  g.pairPresent q && bit (g.rd F.DUC_TASK_AFF_MASK t) q && bit (g.rd F.DUC_CORE_EN) q && !((g.core q).fenced) &&
  !((g.core q).halted) && !(q == 0 && g.pwr.bootRun)

/-- A dispatch later than LATE × 10 ns after the tick (R300). -/
def lateCheck (g : Gloesk) (t : Nat) : Gloesk :=
  match g.duc.ticked.find? (fun e => e.1 = t) with
  | none => g
  | some e =>
    let g := g.onDuc (fun d => { d with ticked := d.ticked.filter (fun e => e.1 ≠ t) })
    let lim := g.rd F.DUC_TASK_LIM_LATE t
    if lim = 0 ∨ g.time.bl ≤ e.2 + lim * 10 * 2 ^ 32 then g
    else (((g.inc F.DUC_TASK_CNT0_LATECNT t).inc F.DUC_ERRCNT_LATE).up F.DUC_TASK_STAT_LATE t).up F.DUC_STATUS_LATE
      |>.raise 52

/-- Dispatch a READY task on an idle core: a fresh start, or its context restored (R289, R298, R301). -/
def dispatch (g : Gloesk) (q t : Nat) : Gloesk :=
  let g := (g.onDuc (fun d => { d with ready := without d.ready t })).showReady
  let isFresh := has g.duc.fresh t
  if !isFresh && g.poisoned (g.ctxAddr t) 256 then
    g.contextError t
  else
    let k := g.core q
    let k : Core := if isFresh then
        ({ k with pc := g.rd F.DUC_TASK_ENTRY_PC t, flags := Flags.reset, w := [], acc := [], tags := [] }).setReg 1
          (g.rd F.DUC_TASK_ARG_ARG t)
      else g.loadContext k t
    let g := g.onPair q (fun _ => { k with task := t, busy := true, stall := none, regions := [] })
    let g := (g.wr F.DUC_TASK_STAT_STATE 3 t).wr F.DUC_TASK_STAT_LAST q t
    let g := g.onDuc (fun d => { d with
      runs := without d.runs q ++ [q], fresh := without d.fresh t, results := d.results.filter (fun r => r.1 ≠ t),
      tags := Tab.set [] d.tags t [] })
    g.lateCheck t

/-- The victim of a pre-emption: lowest effective priority, then latest start, then lowest number (R296). -/
def victim (g : Gloesk) (t : Nat) : Option Nat :=
  let v := (g.duc.runs.filter (fun q => g.mayRun t q && !(has g.duc.preempt q)
    && decide (g.epri (g.core q).task < g.epri t))).reverse
  v.foldl (fun best q => match best with
    | none => some q
    | some b => if g.epri (g.core q).task < g.epri (g.core b).task then some q else some b) none

/-- One READY task is considered; `taken` are cores whose pre-emption serves tasks considered before. -/
def consider (gt : Gloesk × List Nat) (t : Nat) : Gloesk × List Nat :=
  let g := gt.1
  if g.tstate t ≠ 2 then gt
  else
    let last := g.rd F.DUC_TASK_STAT_LAST t
    let free (q : Nat) : Bool := g.mayRun t q && !((g.core q).busy)
    let idle : Option Nat := if free last then some last else (List.range 16).find? free
    match idle with
    | some q => (g.dispatch q t, gt.2)
    | none =>
      match g.duc.preempt.find? (fun q => g.mayRun t q && !(has gt.2 q)) with
      | some q => (g, gt.2 ++ [q])
      | none =>
        match g.victim t with
        | some q => (g.onDuc (fun d => { d with preempt := d.preempt ++ [q] }), gt.2 ++ [q])
        | none => gt

/-- Ductus considers its ready lists from the highest down (R296). While EN = 0 it dispatches nothing (R304). -/
def schedule (g : Gloesk) : Gloesk :=
  if g.duc.ready.isEmpty || !(g.on F.DUC_STATUS_RUN) then g
  else
    let order := ((List.range 16).map (fun p => g.duc.ready.filter (fun t => g.epri t = 15 - p))).flatten
    (order.foldl consider (g, [])).1

/-- The run on a core ends with its context saved (R274, R297, R298); `err` an uncorrectable error on save ends the
task (R301). -/
def endRun (g : Gloesk) (q : Nat) (err : Bool) (f : Gloesk → Nat → Gloesk) : Gloesk :=
  let t := (g.core q).task
  let g := (g.saveContext q t).leave q
  if err then g.contextError t else f g t

/-- PREEMPTION: a pre-empted core reaches its instruction boundary (R297). -/
def preemption (g : Gloesk) (q : Nat) (finding : Nat) : Gloesk :=
  if !(has g.duc.preempt q) || !((g.core q).busy) || (g.core q).stall.isSome then g
  else
    let t := (g.core q).task
    let g := g.ecc finding (g.ctxAddr t) 4
    g.endRun q (finding == 2) (fun g t => g.readyFirst t)

/-! ### Ticks (R290-R292) -/

/-- Stroke ticks and releases at SB(k). -/
def strokeTick (g : Gloesk) (k : Nat) : Gloesk :=
  let due := (g.duc.wakeS.filter (fun e => 0 ≤ strokeDiff e.2 k)).map (·.1)
  let g := g.each due (fun g t => (g.wake t (k % 2 ^ 32)).mark t)
  let rel := below 256 (fun t => g.tstate t != 0 && g.on F.DUC_TASK_CFG_PER_EN t && g.rd F.DUC_TASK_CFG_PER_SRC t == 0)
  g.each rel (fun g t =>
    let p := g.rd F.DUC_TASK_PER_PERIOD t
    if p ≠ 0 ∧ ((k : Int) - g.rd F.DUC_TASK_PER_PHASE t) % p = 0 then g.post1 t true else g)

/-- A compare channel reaches Ductus (R290). -/
def routed (g : Gloesk) (n : Nat) : Bool := g.on F.RUL_CMP_CFG_EN n && g.on F.RUL_CMP_CFG_ROUTE_DUC n

/-- The waits of a list in increasing task index (R299). -/
def byTask (l : List (Nat × Nat × Int)) : List (Nat × Nat × Int) := (below 256 (fun _ => true)).flatMap (fun t => l.filter (fun e => e.1 = t))

/-- A hit event reduces the remaining counts on the channel's list (R292). -/
def hitCounts (g : Gloesk) (n : Nat) (c : Int) : Gloesk :=
  let g := g.onDuc (fun d => { d with wakeA := d.wakeA.map (fun e => if e.2.1 = n then (e.1, n, e.2.2 - c.natAbs) else e) })
  let on_ := byTask (g.duc.wakeA.filter (fun e => e.2.1 = n))
  on_.foldl (fun (g : Gloesk) e =>
    if e.2.2 ≤ 0 then (g.wake e.1 (g.rd F.RUL_CMP_IDX_IDX n)).mark e.1
    else g.wrS F.DUC_TASK_WAKE_WAKE e.2.2 e.1) g

/-- Whether one of the last |c| values of IDX met PHASE (R290). -/
def metPhase (g : Gloesk) (n t : Nat) (c : Int) : Bool :=
  let m : Int := if g.rd F.RUL_CMP_CFG_MOD n = 0 then 65536 else g.rd F.RUL_CMP_CFG_MOD n
  let p := g.rd F.DUC_TASK_PER_PERIOD t
  let s : Int := if 0 < c then 1 else -1
  p != 0 && (List.range (min c.natAbs 65536)).any (fun j =>
    (((g.rd F.RUL_CMP_IDX_IDX n : Int) - s * j) % m).toNat % p == g.rd F.DUC_TASK_PER_PHASE t)

/-- Angle ticks of this step, channel by channel, then the releases they make (R290, R292, R299). -/
def angleTicks (g : Gloesk) : Gloesk :=
  let hs := g.hits
  let g : Gloesk := { g with hits := [] }
  let g := hs.foldl (fun (g : Gloesk) h => g.hitCounts h.1 h.2) g
  hs.foldl (fun (g : Gloesk) h =>
    let rel := below 256 (fun t => g.tstate t != 0 && g.on F.DUC_TASK_CFG_PER_EN t
      && g.rd F.DUC_TASK_CFG_PER_SRC t == h.1 + 1)
    g.each rel (fun g t => if g.metPhase h.1 t h.2 then g.post1 t true else g)) g

/-- Tasks that wait on a channel that is disabled or has lost its route become READY (R292). -/
def lostRoutes (g : Gloesk) : Gloesk :=
  (byTask (g.duc.wakeA.filter (fun e => !(g.routed e.2.1)))).foldl (fun (g : Gloesk) e => g.wake e.1 0xFFFFFFFF) g

/-- What Ductus does at the end of every step of the Gloesk: angle ticks, lost routes, dispatch. -/
def ductus (g : Gloesk) : Gloesk := (g.angleTicks.lostRoutes).schedule

/-! ### Limits -/

/-- BUDGET_EXCEEDED (R300): with OVR_ACT = 1 the task is ended with cause 13. -/
def budgetExceeded (g : Gloesk) (t : Nat) : Gloesk :=
  if g.tstate t ≠ 3 ∨ g.rd F.DUC_TASK_LIM_BUDGET t = 0 then g
  else
    let g := ((g.inc F.DUC_TASK_CNT1_BUDCNT t).up F.DUC_TASK_STAT_BUDGET t).up F.DUC_STATUS_BUDGET
    if g.on F.DUC_TASK_CFG_OVR_ACT t then
      let q := g.rd F.DUC_TASK_STAT_LAST t
      ((((g.abandonMoves q t).leave q).endByFault t 13).raise 48)
    else g

/-- LOCK_WAIT_TIMEOUT (R295): once per wait. -/
def lockWaitTimeout (g : Gloesk) (t : Nat) : Gloesk :=
  let lim := g.rd F.DUC_TASK_LOCKTO_LOCKTO t
  if g.tstate t ≠ 6 ∨ lim = 0 ∨ has g.duc.lockLate t ∨ strokeDiff (Tab.get 0 g.duc.lockFrom t) g.stroke ≤ lim then g
  else ((g.up F.DUC_TASK_STAT_LOCKTO t).up F.DUC_STATUS_LOCKTO).onDuc (fun d => { d with lockLate := d.lockLate ++ [t] })
    |>.raise 53

/-! ### Host control (R302-R304) -/

/-- The moves of a task complete at once (R303). -/
def completeMoves (g : Gloesk) (q t : Nat) : Gloesk :=
  let ms := (g.core q).moves.filter (fun m => m.owner = some t)
  let g := g.onPair q (fun k => { k with moves := k.moves.filter (fun m => m.owner ≠ some t) })
  ms.foldl (fun (g : Gloesk) m =>
    if m.inward then g.onPair q (fun k => { k with mem := Memory.copy g.ink.mem m.ink k.mem m.scr m.len })
    else { g with ink := { g.ink with mem := Memory.copy (g.core q).mem m.scr g.ink.mem m.ink m.len } }) g

/-- Kill (R303): removed from every list and from its core, locks released abandoned. -/
def kill (g : Gloesk) (t st : Nat) : Gloesk :=
  if g.tstate t = 0 then g
  else
    let q := g.rd F.DUC_TASK_STAT_LAST t
    let g := g.each (List.range 16) (fun g q => g.completeMoves q t)
    let g := g.iff (g.tstate t == 3) (·.leave q)
    ((g.releaseAll t).unlist t).wr F.DUC_TASK_STAT_STATE st t

/-- TASK_POST_CMD. -/
def taskPost (g : Gloesk) (t : Nat) : Gloesk := (g.wr F.DUC_TCRES_STATUS (g.postStatus t)).post1 t false

/-- A region table base that Inkwell accepts (R321): 4 KB-aligned inside REGION. -/
def regionBase (g : Gloesk) (a : Nat) : Bool := decide (a % 4096 = 0) && g.inPart 2 a

/-- The checks of an enable (R304). -/
def enableOk (g : Gloesk) (t : Nat) : Bool :=
  let e := g.rd F.DUC_TASK_ENTRY_PC t
  let src := g.rd F.DUC_TASK_CFG_PER_SRC t
  let per := g.rd F.DUC_TASK_PER_PERIOD t
  decide (e % 4 = 0) && decide (e < 0x10000) &&
  (List.range 16).any (fun q => g.pairPresent q && bit (g.rd F.DUC_TASK_AFF_MASK t) q) &&
  decide (src ≤ 16) && (!(g.on F.DUC_TASK_CFG_PER_EN t) || (per != 0 && decide (g.rd F.DUC_TASK_PER_PHASE t < per))) &&
  g.regionBase (g.rd F.DUC_TASK_RGN_OFS t)

/-- TASK_ENABLE. -/
def taskEnable (g : Gloesk) (t : Nat) : Gloesk :=
  if g.tstate t ≠ 0 then g
  else if g.enableOk t then
    ((g.down F.DUC_TCRES_BADCFG).wr F.DUC_TASK_STAT_STATE 1 t).wr F.DUC_TASK_STAT_RESTCNT 0 t
      |>.wr F.DUC_TASK_STAT_EPRI (g.pri t) t
  else (g.up F.DUC_TCRES_BADCFG).up F.DUC_STATUS_BADCFG

/-- A write of DUC_TCMD (R303). -/
def taskCommand (g : Gloesk) (t act : Nat) : Gloesk :=
  if act = 1 then g.taskPost t else if act = 2 then g.kill t 1 else if act = 3 then g.kill t 0
  else if act = 4 then g.taskEnable t else g

/-- CORE_ENABLE_WRITE: cleared bits pre-empt and withdraw their cores (R302). -/
def coreEnable (g : Gloesk) (v : Nat) : Gloesk :=
  let v := v % (if g.small then 2 ^ 8 else 2 ^ 16)
  let g := g.wr F.DUC_CORE_EN v
  let off := below 16 (fun q => !(bit v q) && (g.core q).busy && !(has g.duc.preempt q))
  g.onDuc (fun d => { d with preempt := d.preempt ++ off })

/-- CORE_RETURN: fenced pairs start their self-test. -/
def coreReturn (g : Gloesk) (v : Nat) : Gloesk :=
  g.each (below 16 (fun q => bit v q && (g.core q).fenced)) (fun g q => g.wrBit F.DUC_CORESTAT_TEST q true)

/-- SELF_TEST_COMPLETE. -/
def selfTest (g : Gloesk) (q : Nat) (good : Bool) : Gloesk :=
  if !(bit (g.rd F.DUC_CORESTAT_TEST) q) then g
  else
    let g := g.wrBit F.DUC_CORESTAT_TEST q false
    if good then (g.wrBit F.DUC_CORESTAT_FENCED q false).onPair q (fun k => { k with fenced := false }) else g.raise 50

/-- LOCKSTEP_MISMATCH: the pair stops and is fenced; its task ends with cause 12 (R282, R334). -/
def lockstep (g : Gloesk) (q : Nat) : Gloesk :=
  if !(g.pairPresent q) || (g.core q).fenced then g
  else
    let g := g.iff (g.core q).busy (·.taskException q 12 0)
    let g := g.onPair q (fun k => { k with fenced := true, moves := [] })
    ((g.wrBit F.DUC_CORESTAT_FENCED q true).raise 49).suspect

/-- DUC_STATUS.RUN: dispatch is enabled and the context base valid. -/
def showDuctus (g : Gloesk) : Gloesk :=
  let b := g.rd F.DUC_CTXBASE_OFS
  g.wr F.DUC_STATUS_RUN (if g.on F.DUC_CTRL_EN && decide (b % 65536 = 0) && decide (b + 65536 ≤ g.partSize 3) then 1 else 0)

/-- A write of DUC_CTRL: EN cannot be set while the layout is unlocked (R318). -/
def ductusEnable (g : Gloesk) (en : Bool) : Gloesk :=
  if en && !(g.on F.INK_STATUS_LOCKED) then g else (g.wr F.DUC_CTRL_EN en.toNat).showDuctus

/-- A write of DUC_CTXBASE, only while EN = 0 (R304). -/
def contextBase (g : Gloesk) (v : Nat) : Gloesk :=
  if g.on F.DUC_CTRL_EN then g else (g.wr F.DUC_CTXBASE_OFS v).showDuctus

/-- A write of a descriptor word, only while the task is DISABLED (R304). -/
def descriptorWrite (g : Gloesk) (t : Nat) (f : Gloesk → Gloesk) : Gloesk :=
  if g.tstate t = 0 then f g else g.inc F.DUC_ERRCNT_WREJ

end Gloesk

end Sys2Proof.Machine
end

