-- ==== Sys2Proof/Machine/Folio.lean ====
section
/-!
DEFINITION. The Folio recorder: arming, channels, rows, triggers, the finished record, streaming (R380-R395).
-/

namespace Sys2Proof.Machine

/-- Integer square root, rounded down. -/
def isqrt (n : Nat) : Nat :=
  ((List.range 48).reverse).foldl (fun r b => if (r + 2 ^ b) * (r + 2 ^ b) ≤ n then r + 2 ^ b else r) 0

/-- The square root of `n / m`, rounded to the nearest integer. -/
def rootR (n m : Nat) : Nat :=
  let r := isqrt (n / m)
  if (2 * r + 1) * (2 * r + 1) * m ≤ 4 * n then r + 1 else r

namespace ChanAcc

/-- A base sample of a channel; a missing one is not counted. -/
def add (a : ChanAcc) (v : Option Int) : ChanAcc :=
  match v with
  | none => { a with last := none }
  | some x =>
    { m := a.m + 1, sum := a.sum + x, sq := a.sq + x.natAbs * x.natAbs,
      lo := if a.m = 0 then x else min a.lo x, hi := if a.m = 0 then x else max a.hi x,
      last := some x, anyBit := a.anyBit || x != 0 }

/-- The reductions of R383 in the order raw, minimum, maximum, mean, RMS: those of the mask. -/
def reduce (a : ChanAcc) (mask : Nat) : List (Option Int) :=
  let vals : List (Option Int) :=
    if a.m = 0 then [none, none, none, none, none]
    else [a.last, some a.lo, some a.hi, some (roundAway a.sum a.m), some (rootR a.sq a.m : Nat)]
  ((vals.zip (List.range 5)).filter (fun e => bit mask e.2)).map (·.1)

end ChanAcc

namespace Gloesk

/-! ### Folios -/

/-- A folio. -/
def folio (g : Gloesk) (n : Nat) : FolioRun := Tab.get FolioRun.reset g.fol.runs n

/-- Change the FOL state. -/
def onFol (g : Gloesk) (f : FolioState → FolioState) : Gloesk := { g with fol := f g.fol }

/-- Change a folio. -/
def onFolio (g : Gloesk) (n : Nat) (f : FolioRun → FolioRun) : Gloesk :=
  g.onFol (fun s => { s with runs := Tab.upd FolioRun.reset s.runs n f })

/-- The state of a folio (R386). -/
def fstate (g : Gloesk) (n : Nat) : Nat := g.rd F.FOL_F_STAT_STATE n

/-- Folios that are not IDLE. -/
def folBusy (g : Gloesk) : List Nat := below 8 (fun n => g.fstate n != 0)

/-- First channel entry and number of entries of a folio. -/
def folFirst (g : Gloesk) (n : Nat) : Nat := g.rd F.FOL_F_CH_FIRST n
def folCount (g : Gloesk) (n : Nat) : Nat := g.rd F.FOL_F_CH_COUNT n

/-- Class and reduction mask of a channel entry; an entry of class 16-31 is digital (R382). -/
def chClass (g : Gloesk) (c : Nat) : Nat := g.rd F.FOL_CH_HI_CLASS c
def chMask (g : Gloesk) (c : Nat) : Nat := g.rd F.FOL_CH_HI_RED c
def chDigital (g : Gloesk) (c : Nat) : Bool := decide (16 ≤ g.chClass c)

/-- The entries of a folio. -/
def folEntries (g : Gloesk) (n : Nat) : List Nat := (List.range (g.folCount n)).map (fun i => g.folFirst n + i)

/-- Analog values and digital channels of a row, and the row's bytes (R384). -/
def folA (g : Gloesk) (n : Nat) : Nat :=
  ((g.folEntries n).filter (fun c => !(g.chDigital c))).foldl (fun s c => s + popCount 5 (g.chMask c)) 0
def folD (g : Gloesk) (n : Nat) : Nat := ((g.folEntries n).filter g.chDigital).length
def folS (g : Gloesk) (n : Nat) : Nat := (16 + g.folD n + 15) / 16
def folRow (g : Gloesk) (n : Nat) : Nat := 8 + 4 * g.folA n + 2 * g.folS n

/-- Row slots, decimation, record size (R387). -/
def folSlots (g : Gloesk) (n : Nat) : Nat := g.rd F.FOL_F_PRE_PRE n + g.rd F.FOL_F_POST_POST n
def folDec (g : Gloesk) (n : Nat) : Nat := 2 ^ g.rd F.FOL_F_CFG_DEC n
def folClk (g : Gloesk) (n : Nat) : Nat := g.rd F.FOL_F_CFG_CLK n
def folSize (g : Gloesk) (n : Nat) : Nat := 256 + g.folSlots n * g.folRow n

/-- Address of the record, and of a row's slot. -/
def folBase (g : Gloesk) (n : Nat) : Nat := g.partBase 8 + g.rd F.FOL_F_BASE_OFS n
def rowAddr (g : Gloesk) (n r : Nat) : Nat := g.folBase n + 256 + r % g.folSlots n * g.rd F.FOL_F_RBYTES_RBYTES n

/-- Rate of a folio's stream (CLK 1). -/
def folRate (g : Gloesk) (n : Nat) : Nat := svRate (g.rd F.SVI_SUB_CFG_RATE (g.rd F.FOL_F_CFG_CSEL n))

/-- Demand of a folio in units of 2^-16 × 10^-9 bytes per stroke (R387). -/
def folDemand (g : Gloesk) (n : Nat) : Nat :=
  g.folRow n * 2 ^ (16 - min 16 (g.rd F.FOL_F_CFG_DEC n)) * (if g.folClk n = 1 then g.folRate n * g.period else 1000000000)

/-- FOL_STATUS and FOL_BUDGET follow the folios. -/
def showFolios (g : Gloesk) : Gloesk :=
  let mask (p : Nat → Bool) : Nat := (below 8 p).foldl (fun m n => m + 2 ^ n) 0
  let used := g.folBusy.foldl (fun s n => s + g.folDemand n) 0
  let chn := g.folBusy.foldl (fun s n => s + g.folCount n) 0
  (((g.wr F.FOL_STATUS_BUSY (mask (fun n => g.fstate n != 0))).wr F.FOL_STATUS_TRIGD
    (mask (fun n => decide (2 ≤ g.fstate n)))).wr F.FOL_STATUS_DONE (mask (fun n => g.fstate n == 4))).wr F.FOL_BUDGET_USED
      ((used + (4 * 2 ^ 16 * 1000000000 - 1)) / (4 * 2 ^ 16 * 1000000000))
    |>.wr F.FOL_BUDGET_CHN (min 4095 chn)

/-! ### Arming (R387) -/

/-- Classes that R382 gives. -/
def chKnown (cls : Nat) : Bool := has [1, 3, 5, 6, 8, 9, 10, 11, 12, 16, 17, 18, 19, 20] cls

/-- The channel entries of a folio fail code 4. -/
def chBad (g : Gloesk) (n : Nat) : Bool :=
  let c0 := g.folFirst n
  let cn := g.folCount n
  let l := c0 + g.rd F.FOL_F_LVL_LCH n
  cn == 0 || decide (4096 < c0 + cn) ||
  g.folBusy.any (fun m => m != n && decide (c0 < g.folFirst m + g.folCount m) && decide (g.folFirst m < c0 + cn)) ||
  (g.folEntries n).any (fun c => !(chKnown (g.chClass c)) ||
    (if g.chDigital c then g.chMask c != 0
     else g.chMask c == 0 || (g.chClass c == 11 && g.rd F.FOL_CH_LO_SEL c == 0 && g.chMask c != 1))) ||
  decide (cn ≤ g.rd F.FOL_F_LVL_LCH n) || g.chDigital l

/-- The configuration fails code 7. -/
def folCfgBad (g : Gloesk) (n : Nat) : Bool :=
  let clk := g.folClk n
  let sel := g.rd F.FOL_F_CFG_CSEL n
  clk == 3 || decide (16 < g.rd F.FOL_F_CFG_DEC n) || (clk == 1 && !(g.on F.SVI_SUB_CFG_EN sel)) ||
  (clk == 2 && (decide (16 ≤ sel) || !(g.on F.RUL_CMP_CFG_ROUTE_FOL sel))) || g.rd F.FOL_F_POST_POST n == 0 ||
  g.rd F.FOL_F_BASE_OFS n % 65536 != 0 || decide (2 ^ 24 ≤ g.folSlots n) || g.rd F.FOL_F_LVL_MODE n == 3

/-- The time range fails code 5. -/
def folLong (g : Gloesk) (n : Nat) : Bool :=
  let s := g.folSlots n * g.folDec n
  let lim := 2 ^ 31 * 2 ^ g.rd F.FOL_F_CFG_TSCALE n
  (g.folClk n == 0 && decide (lim ≤ s * g.period)) ||
  (g.folClk n == 1 && decide (lim * g.folRate n ≤ s * 1000000000))

/-- The first failing code of an arming, 0 when it succeeds. -/
def armCode (g : Gloesk) (n : Nat) : Nat :=
  let b := g.rd F.FOL_F_BASE_OFS n
  let e := b + g.folSize n
  if decide (g.rd F.INK_PART_MIN_GRAN 8 * 65536 < e) || !(g.on F.INK_STATUS_LOCKED) then 1
  else if g.folBusy.any (fun m => m != n && decide (b < g.rd F.FOL_F_BASE_OFS m + g.rd F.FOL_F_SIZE_SIZE m)
      && decide (g.rd F.FOL_F_BASE_OFS m < e)) then 2
  else if 81920 * g.period * 1000000 * 2 ^ 16 <
      ((without g.folBusy n) ++ [n]).foldl (fun s m => s + g.folDemand m) 0 then 3
  else if g.chBad n then 4
  else if g.folLong n then 5
  else if g.fstate n ≠ 0 ∨ !(g.on F.FOL_CTRL_EN) then 6
  else if g.folCfgBad n then 7 else 0

/-- FOLIO_ARM. -/
def folioArm (g : Gloesk) (n : Nat) : Gloesk :=
  let code := g.armCode n
  let g := g.wr F.FOL_F_STAT_ASTAT code n
  if code ≠ 0 then (g.up F.FOL_STATUS_ARMREJ).inc F.FOL_ERRCNT_ARMREJ
  else
    let g := (g.wr F.FOL_F_SIZE_SIZE (g.folSize n) n).wr F.FOL_F_RBYTES_RBYTES (g.folRow n) n
    let g := (((g.wr F.FOL_F_STAT_STATE 1 n).wr F.FOL_F_STAT_REC (g.rd F.FOL_F_STAT_REC n + 1) n).down F.FOL_F_STAT_SHORT n).down
      F.FOL_F_STAT_TGAP n |>.wr F.FOL_F_ROWS_ROWS 0 n
    (g.onFolio n (fun _ => { FolioRun.reset with armed := g.time.bl })).showFolios

/-! ### Channel values (R382) -/

/-- The value of a channel for the agreed input set; none when it is missing. -/
def chValue (g : Gloesk) (k c : Nat) : Option Int :=
  let sel := g.rd F.FOL_CH_LO_SEL c
  let rem (x : Nat) : Option Nat := match Tab.get 0 g.svi.remAgreed x with
    | 0 => none
    | v + 1 => some v
  let key (x : Nat) : Option Nat := match g.keyWord k x with
    | 0 => none
    | v + 1 => some v
  let von (v : Nat) : Option Int := if toS 14 v = -8192 then none else some (toS 14 v)
  let gooseOk := !(has g.svi.gooseBad (bits sel 8 7)) && decide (g.rd F.SVI_GS_STAT_STATE (bits sel 8 7) = 1)
  let member := (Tab.get [] g.svi.gooseIn (bits sel 8 7))[bits sel 0 5]?
  match g.chClass c with
  | 1 => match g.svi.inputs.find? (fun e => e.1 = bits sel 4 8) with
    | none => none
    | some (_, x) => if x.state = 3 ∨ !(g.on F.SVI_SUB_CFG_EN (bits sel 4 8)) then none else some (nth 0 x.vals (bits sel 0 4))
  | 3 => if gooseOk then member.map (fun v => toS 32 (gooseInput v (toS 8 (bits sel 16 8)))) else none
  | 5 => some (Tab.get 0 g.lpe.agg (bits sel 4 4 * 8 + bits sel 0 4)).toInt
  | 6 => match nth none g.svi.encAgreed (bits sel 4 1) with
    | none => none
    | some (p, f) => some (match bits sel 0 2 with
      | 0 => toS 32 (ofS 32 p)
      | 1 => 2 * f
      | _ => 1)
  | 8 =>
    let x := sel % 8192
    match bits sel 13 3 with
    | 0 => (key x).map (fun v => toS 14 (bits v 0 14))
    | 1 => (key x).bind (fun v => von (bits v 14 14))
    | 2 => (rem x).bind (fun v => von (bits v 0 14))
    | 3 => (rem x).map (fun v => toS 14 (bits v 14 14))
    | 4 => (rem x).map (fun v => toS 14 (bits v 28 14))
    | 5 => (rem x).map (fun v => (bits v 42 16 : Nat))
    | 6 => (key x).map (fun _ => (g.cellRank x).vc)
    | _ => none
  | 9 =>
    let s := bits sel 0 6
    let i := bits sel 6 5
    if g.slotState s = 0 then none
    else some (if i = 0 then (Tab.get 0 g.lpe.y s).toInt else if i = 1 then (Tab.get 0 g.lpe.yc s).toInt
      else (Tab.get 0 g.lpe.locals (s * 16 + (i - 2))).toInt)
  | 10 =>
    let i := bits sel 0 6
    some (toS 32 (if i < 32 then g.rd F.LPE_QRES_VAL i else g.rd F.LPE_AREF_VAL (i - 32)))
  | 11 =>
    let r := g.recordOf k
    some (if sel = 0 then (r.theta / 2 ^ 33 : Nat) else if sel = 1 then r.vel else (g.srcAct : Nat))
  | 12 => if g.on F.AQ_RES_VALID (sel % 32) then some (g.rdS F.AQ_RES_VALUE (sel % 32)) else none
  | 16 => some (g.rd F.BLT_SRC_STAT_CAUSE (sel % 512) : Nat)
  | 17 => (rem (sel % 8192)).map (fun v => (bits v (72 + bits sel 16 5) 1 : Nat))
  | 18 => if gooseOk then member.map (fun v => ((GooseVal.code v) % 2 : Nat)) else none
  | 19 =>
    let st := match g.svi.inputs.find? (fun e => e.1 = bits sel 4 8) with
      | none => 0
      | some (_, x) => x.state
    some (if st = bits sel 0 2 + 1 then 1 else 0)
  | 20 => some (bits (Tab.get 0 g.lpe.agg (bits sel 4 4 * 8 + 7)).toNat (bits sel 16 5) 1 : Nat)
  | _ => none

/-- The value of a channel for sample `n` of the folio's own stream (CLK 1, R381), and whether it is a substitute. -/
def streamValue (g : Gloesk) (st ch : Nat) (n : Int) : Option Int × Bool :=
  match g.svAgreed st with
  | none => (none, true)
  | some a =>
    match (g.ring st).find? (fun s => (s.idx : Int) = n ∧ s.good ∧ s.idx ≤ a.idx) with
    | some s => (some (nth (0, 0) s.vals ch).1, false)
    | none =>
      let lag := n - a.idx
      if lag ≤ 0 then (some (nth (0, 0) a.vals ch).1, true)
      else if lag ≤ g.rd F.SVI_SUB_CFG_HOLD_MAX st then
        let m := g.rd F.SVI_SUB_CFG_SUBST st
        (some (if m = 1 then nth 0 (g.svLinear st a lag) ch else if m = 2 then 0 else (nth (0, 0) a.vals ch).1), true)
      else match g.svi.inputs.find? (fun e => e.1 = st) with
        | some (_, x) => (if x.state = 3 then none else some (nth 0 x.vals ch), true)
        | none => (none, true)

/-- The value of an entry in a base sample; `own` is the stream sample it is (CLK 1). The Bool is SUBST. -/
def baseValue (g : Gloesk) (k c : Nat) (own : Option (Nat × Int)) : Option Int × Bool :=
  let sel := g.rd F.FOL_CH_LO_SEL c
  match own with
  | some (st, n) =>
    if g.chClass c = 1 ∧ bits sel 4 8 = st then g.streamValue st (bits sel 0 4) n
    else (g.chValue k c, g.chClass c == 1 && g.svStatusWord (bits sel 4 8) % 4 != 1)
  | none => (g.chValue k c, g.chClass c == 1 && g.svStatusWord (bits sel 4 8) % 4 != 1)

/-! ### Triggers (R388, R390) -/

/-- Time quality code of R392. -/
def timeQuality (g : Gloesk) : Nat :=
  let st := g.servoState
  if st = stLocked ∨ st = stFollow then 0
  else if st = stHoldover then (if g.time.holdExc then 0xB else 4) else 0xF

/-- Set a flag in a row already written. -/
def rowFlag (g : Gloesk) (n r b : Nat) : Gloesk :=
  let a := g.rowAddr n r + 8 + 4 * g.folA n
  g.store a 2 (setBit (g.peek a 2) b true)

/-- Rows of the record that are to be written after the trigger row, the row first: the folio is FINAL when they are. -/
def postCheck (g : Gloesk) (n : Nat) : Gloesk :=
  let f := g.folio n
  match f.row with
  | some r => if g.fstate n = 2 ∧ r + g.rd F.FOL_F_POST_POST n ≤ f.rows then (g.wr F.FOL_F_STAT_STATE 3 n).showFolios else g
  | none => g

/-- A trigger reaches a folio (R390). -/
def trigger (g : Gloesk) (n : Nat) (t : FolTrig) : Gloesk :=
  let f := g.folio n
  if g.fstate n = 0 then g
  else if g.fstate n ≠ 1 then g.inc F.FOL_F_CNT_RETRIG n
  else
    let old := match f.times with
      | [] => false
      | e :: _ => decide (t.time < e.2)
    if decide (t.time < f.armed) || old then g.inc F.FOL_ERRCNT_LATE
    else match f.best with
      | none => g.onFolio n (fun f => { f with best := some t })
      | some b =>
        (if t.time < b.time then g.onFolio n (fun f => { f with best := some t }) else g).inc F.FOL_F_CNT_RETRIG n

/-- Triggers of one source bit reach every folio that enables it and passes a test. -/
def triggerAll (g : Gloesk) (t : FolTrig) (p : Gloesk → Nat → Bool) : Gloesk :=
  g.each (List.range 8) (fun g n => if bit (g.rd F.FOL_F_TRG_TSRC n) t.bit && p g n then g.trigger n t else g)

/-- The trigger row is fixed once a row lies at or after the trigger time; chained folios are triggered (R388, R390). -/
def fixRow (g : Gloesk) (n : Nat) : Gloesk :=
  let f := g.folio n
  match f.best with
  | none => g
  | some t =>
    if g.fstate n ≠ 1 then g else
    match f.times.find? (fun e => t.time ≤ e.2) with
    | none => g
    | some (r, _) =>
      let g := (g.rowFlag n r 2).iff t.forced (·.rowFlag n r 7)
      let g := ((g.wr F.FOL_F_STAT_STATE 2 n).wr F.FOL_F_STAT_CAUSE t.bit n).onFolio n (fun f =>
        { f with row := some r, utc := g.reg R.PTP_UTC, quality := g.timeQuality })
      let g := g.triggerAll ⟨t.time, 6, false⟩ (fun g m => m != n && g.rd F.FOL_F_TRG_CHAIN m == n)
      (g.showFolios).postCheck n

/-- Every folio looks for its trigger row; chains take a few rounds. -/
def fixRows (g : Gloesk) : Gloesk :=
  if (List.range 8).all (fun n => (g.folio n).best.isNone) then g
  else g.each (List.range 8) (fun g _ => g.each (List.range 8) (fun g n => g.fixRow n))

/-- Triggers of one source bit, and the trigger rows they fix at once. -/
def triggerFix (g : Gloesk) (t : FolTrig) (p : Gloesk → Nat → Bool) : Gloesk := (g.triggerAll t p).fixRows

/-- FOLIO_TRIG: the software trigger. -/
def folioTrig (g : Gloesk) (n : Nat) : Gloesk :=
  if bit (g.rd F.FOL_F_TRG_TSRC n) 5 then (g.trigger n ⟨g.time.bl, 5, false⟩).fixRows else g

/-- The level condition on a base sample (R388). -/
def levelTest (g : Gloesk) (n : Nat) (v : Option Int) (time : Nat) : Gloesk :=
  match v with
  | none => g
  | some x =>
    let f := g.folio n
    let thr := g.rdS F.FOL_F_LTHR_THR n
    let hys : Int := g.rd F.FOL_F_LHYS_HYS n
    let mode := g.rd F.FOL_F_LVL_MODE n
    let rise := f.wasBelow && decide (thr < x) && mode != 1
    let fall := f.wasAbove && decide (x < thr) && mode != 0
    let g := g.onFolio n (fun f => { f with
      wasBelow := (f.wasBelow && !(decide (thr < x))) || decide (x < thr - hys),
      wasAbove := (f.wasAbove && !(decide (x < thr))) || decide (thr + hys < x) })
    if (rise || fall) && bit (g.rd F.FOL_F_TRG_TSRC n) 4 then g.trigger n ⟨time, 4, false⟩ else g

/-! ### Rows (R381, R383-R385) -/

/-- Clamp of R383: the value as written and whether it was clamped. -/
def clampRow (v : Option Int) : Nat × Bool :=
  match v with
  | none => (0x80000000, false)
  | some x => (ofS 32 (clampI (-(2 ^ 31) + 1) (2 ^ 31 - 1) x), decide (clampI (-(2 ^ 31) + 1) (2 ^ 31 - 1) x ≠ x))

/-- Write the row whose window ends at `time` (2^-32 ns). -/
def writeRow (g : Gloesk) (n time : Nat) : Gloesk :=
  let f := g.folio n
  let es := (g.folEntries n).zip f.acc
  let an := (es.filter (fun e => !(g.chDigital e.1))).flatMap (fun e => (e.2.reduce (g.chMask e.1)).map clampRow)
  let dg := (es.filter (fun e => g.chDigital e.1)).map (fun e =>
    if g.on F.FOL_CH_HI_DOR e.1 then e.2.anyBit else e.2.last.getD 0 != 0)
  let flags := setBit f.flags 3 (f.flags.testBit 3 || an.any (·.2))
  let a := g.rowAddr n f.rows
  let stamp := time / 2 ^ 32 / 2 ^ g.rd F.FOL_F_CFG_TSCALE n % 2 ^ 32
  let word (i : Nat) : Nat := (List.range 16).foldl (fun m b => if nth false dg (16 * i + b) then m + 2 ^ b else m) 0
  let g := (g.store a 4 0).store (a + 4) 4 stamp
  let g := (an.zip (List.range an.length)).foldl (fun (g : Gloesk) e => g.store (a + 8 + 4 * e.2) 4 e.1.1) g
  let s := a + 8 + 4 * an.length
  let g := g.store s 2 flags
  let g := g.each (List.range (g.folS n - 1)) (fun g i => g.store (s + 2 + 2 * i) 2 (word i))
  let g := g.inc F.FOL_F_ROWS_ROWS n
  (g.onFolio n (fun f => { f with
    rows := f.rows + 1, times := keepLast (g.folSlots n) (f.times ++ [(f.rows, time)]), count := 0, acc := [], flags := 0
    })).postCheck n

/-- Row flags of a base sample (R385). -/
def baseFlags (g : Gloesk) (n k : Nat) (vals : List (Option Int × Bool)) (miss : Bool) : Nat :=
  let es := (g.folEntries n).zip vals
  let st := g.servoState
  (if vals.any (·.2) then 1 else 0)
  + (if es.any (fun e =>
      let sel := g.rd F.FOL_CH_LO_SEL e.1
      let ofRem := has [2, 3, 4, 5] (bits sel 13 3)
      (g.chClass e.1 == 8 && (if ofRem then Tab.get 0 g.svi.remAgreed (sel % 8192) == 0 else g.keyWord k (sel % 8192) == 0))
        || (g.chClass e.1 == 17 && e.2.1.isNone)) then 2 else 0)
  + (if miss then 16 else 0) + (if st = stLocked ∨ st = stFollow then 0 else 32) + (if g.inStep then 0 else 64)

/-- One base sample of a folio at `time`; `ends` closes the window of a row. -/
def baseSample (g : Gloesk) (n k time : Nat) (own : Option (Nat × Int)) (miss ends : Bool) : Gloesk :=
  let vals := (g.folEntries n).map (fun c => g.baseValue k c own)
  let fl := g.baseFlags n k vals miss
  let g := g.onFolio n (fun f =>
    let acc := if f.acc.isEmpty then vals.map (fun _ => ChanAcc.reset) else f.acc
    { f with count := f.count + 1, acc := (acc.zip vals).map (fun e => e.1.add e.2.1), flags := f.flags ||| fl })
  let g := g.levelTest n (nth (none, false) vals (g.rd F.FOL_F_LVL_LCH n)).1 time
  if ends then
    if (g.folio n).count = g.folDec n then g.writeRow n time
    else g.onFolio n (fun f => { f with count := 0, acc := [], flags := 0 })
  else g

/-- A folio at the end of the loop window of input set `k` (R381). -/
def folioStep (g : Gloesk) (k n : Nat) : Gloesk :=
  if g.fstate n ≠ 1 ∧ g.fstate n ≠ 2 then g
  else
    let d := g.folDec n
    let sel := g.rd F.FOL_F_CFG_CSEL n
    if g.folClk n = 0 then
      g.baseSample n k ((g.boundary k).toNat * 2 ^ 32) none false ((k + 1) % d == 0)
    else if g.folClk n = 1 then
      let e := g.svExpected k sel
      let first : Int := match (g.folio n).lastIdx with
        | none => e
        | some i => max (i + 1) (e - 63)
      let g := g.each (List.range (e + 1 - first).toNat) (fun g i =>
        let s := first + i
        if g.fstate n ≠ 1 ∧ g.fstate n ≠ 2 then g
        else g.baseSample n k ((s * 1000000000 * 2 ^ 32 / g.folRate n).toNat) (some (sel, s)) false ((s + 1) % d == 0))
      g.onFolio n (fun f => { f with lastIdx := some (max e (f.lastIdx.getD e)) })
    else
      let hits := g.rul.folHits.filter (fun h => h.2.1 = sel ∧ h.1 = k)
      match hits with
      | [] => g
      | h :: _ =>
        let total := hits.foldl (fun s x => s + x.2.2.2.natAbs) 0
        let fresh := decide ((g.folio n).lastIdx ≠ some (h.1 : Int))
        let more := if fresh then total - 1 else total
        let g := g.inc F.FOL_F_CNT_MISS n more
        if fresh then
          let g := g.onFolio n (fun f => { f with lastIdx := some (h.1 : Int) })
          g.baseSample n k h.2.2.1 none (decide (0 < more)) ((g.folio n).count + 1 == d)
        else g

/-- FOLIO_ROW: the recorder takes the values of input set `k` at the end of its loop window (R381). -/
def folioRows (g : Gloesk) (k : Nat) : Gloesk :=
  let g := g.each (List.range 8) (fun g n => g.folioStep k n)
  ({ g with rul := { g.rul with folHits := g.rul.folHits.filter (fun h => strokeDiff h.1 k < 0) } }).fixRows

/-! ### The finished record (R391) -/

/-- The stroke cycle stops: a TRIGGERED folio finalises with the rows it has. -/
def folioStop (g : Gloesk) : Gloesk :=
  (g.each (List.range 8) (fun g n =>
    if g.fstate n = 2 then (g.wr F.FOL_F_STAT_STATE 3 n).up F.FOL_F_STAT_SHORT n else g)).showFolios

/-- Seconds, nanoseconds and tenths of a time in 2^-32 ns. -/
def timeParts (t : Nat) : Nat × Nat × Nat :=
  let ns := t / 2 ^ 32
  (ns / 1000000000, ns % 1000000000, t % 2 ^ 32 * 10 / 2 ^ 32)

/-- Row rate in mHz, 0 under CLK 2. -/
def rowRate (g : Gloesk) (n : Nat) : Nat :=
  let d : Int := g.folDec n
  (if g.folClk n = 0 then quotFree 1000000000000 (g.period * d)
   else if g.folClk n = 1 then quotFree (g.folRate n * 1000) d else 0).toNat

/-- Timestamps of the rows in record order from their written stamps (R391): offsets and whether TGAP occurred. -/
def unwrap : Nat → Nat → Bool → List Nat → List (Nat × Bool)
  | _, _, _, [] => []
  | prev, sum, gap, s :: l =>
    let d := (s + 2 ^ 32 - prev) % 2 ^ 32
    let gap := gap || decide (2 ^ 31 ≤ d)
    (if gap || decide (0xFFFFFFFE < sum + d) then 0xFFFFFFFF else sum + d, gap) :: unwrap s (sum + d) gap l

/-- FINALISATION_COMPLETE. -/
def finalise (g : Gloesk) (n : Nat) : Gloesk :=
  let f := g.folio n
  if g.fstate n ≠ 3 then g else
  match f.row, f.best with
  | some r, some t =>
    let pre := min (g.rd F.FOL_F_PRE_PRE n) r
    let first := r - pre
    let rows := if g.on F.FOL_F_STAT_SHORT n then min (f.rows - first) (g.folSlots n) else pre + g.rd F.FOL_F_POST_POST n
    let addr (i : Nat) : Nat := g.rowAddr n (first + i)
    let stamps := (List.range rows).map (fun i => g.peek (addr i + 4) 4)
    let offs := unwrap (nth 0 stamps 0) 0 false stamps
    let gap := offs.any (·.2)
    let start := first % g.folSlots n
    let g := (offs.zip (List.range rows)).foldl
      (fun (g : Gloesk) e => (g.store (addr e.2) 4 (e.2 + 1)).store (addr e.2 + 4) 4 e.1.1) g
    let g := g.iff gap (·.up F.FOL_F_STAT_TGAP n)
    let b := g.folBase n
    let t0 := timeParts (((f.times.find? (fun e => e.1 = first)).map (·.2)).getD 0)
    let tt := timeParts t.time
    let sh := g.rd F.FOL_F_STAT_SHORT n
    let words : List Nat :=
      [1 + n * 2 ^ 16 + g.twinNo * 2 ^ 24 + sh * 2 ^ 25 + (if gap then 2 ^ 26 else 0), g.rd F.FOL_F_RBYTES_RBYTES n,
       g.folA n + g.folD n * 2 ^ 16, rows, pre, start, pre + 1,
       2 ^ t.bit + g.folClk n * 2 ^ 8 + g.rd F.FOL_F_CFG_TSCALE n * 2 ^ 16 + g.rd F.FOL_F_STAT_REC n % 256 * 2 ^ 24,
       g.rowRate n, t0.1 % 2 ^ 32, t0.1 / 2 ^ 32, t0.2.1, tt.1 % 2 ^ 32, tt.1 / 2 ^ 32, tt.2.1, tt.2.2 + f.quality * 16, f.utc]
    let g := g.each (List.range 64) (fun g i => g.store (b + 4 * i) 4 (nth 0 words i))
    let g := (g.wr F.FOL_F_STAT_STATE 4 n).showFolios
    g.iff (g.on F.FOL_CTRL_SR_EN && g.on F.FOL_F_CFG_STREAM n) (·.onFolio n (fun f => { f with streamed := some 0 }))
  | _, _ => (g.wr F.FOL_F_STAT_STATE 4 n).showFolios

/-- Bytes of the data file of a DONE folio: header and rows. -/
def fileBytes (g : Gloesk) (n : Nat) : Nat := 256 + g.peek (g.folBase n + 0x0C) 4 * g.rd F.FOL_F_RBYTES_RBYTES n

/-- A byte of the data file in record order: header, then the rows from slot START on. -/
def fileByte (g : Gloesk) (n i : Nat) : Nat :=
  if i < 256 then g.peek (g.folBase n + i) 1
  else
    let rb := g.rd F.FOL_F_RBYTES_RBYTES n
    g.peek (g.rowAddr n (g.peek (g.folBase n + 0x14) 4 + (i - 256) / rb) + (i - 256) % rb) 1

/-- FREE (R394): only a DONE folio whose stream is complete. -/
def folioFree (g : Gloesk) (n : Nat) : Gloesk :=
  if g.fstate n = 4 ∧ (g.folio n).streamed = none then
    ((g.wr F.FOL_F_STAT_STATE 0 n).onFolio n (fun _ => FolioRun.reset)).showFolios
  else g

/-- ABORT (R394). -/
def folioAbort (g : Gloesk) (n : Nat) : Gloesk :=
  ((g.wr F.FOL_F_STAT_STATE 0 n).onFolio n (fun _ => FolioRun.reset)).showFolios

/-! ### TRIGIN (R389) -/

/-- TRIGIN_EDGE: an edge of a TRIGIN pin at `tenths` of a nanosecond of Baseline time. -/
def triginEdge (g : Gloesk) (p : Nat) (rise : Bool) (tenths : Nat) : Gloesk :=
  let g := g.onFol (fun s => { s with levels := setBit s.levels p rise })
  let dead := decide (tenths < Tab.get 0 g.fol.stamped p + 199)
  if !(g.on F.FOL_TRIGIN_EN p) || rise == g.on F.FOL_TRIGIN_POL p || (dead && Tab.get 0 g.fol.stamped p != 0) then g
  else
    let g := g.onFol (fun s => { s with stamped := Tab.set 0 s.stamped p (tenths + 1) })
    let ns := tenths / 10
    let g := (g.wr F.FOL_TTS0_TENTHS (tenths % 10) p).wr F.FOL_TTS1_NS (ns % 1000000000) p
    let g := (g.wr F.FOL_TTS2_SEC_LO (ns / 1000000000) p).wr F.FOL_TTS3_SEC_HI (ns / 1000000000 / 2 ^ 32) p
    (g.up F.FOL_TRIGIN_SEEN p).triggerFix ⟨(tenths * 2 ^ 32 + 9) / 10, p, false⟩ (fun _ _ => true)

/-- FOL_TTS0_READ. -/
def tts0Read (g : Gloesk) (who p : Nat) : Gloesk :=
  let g := (g.latch who R.FOL_TTS1 (g.reg R.FOL_TTS1 p) p).latch who R.FOL_TTS2 (g.reg R.FOL_TTS2 p) p
  (g.latch who R.FOL_TTS3 (g.reg R.FOL_TTS3 p) p).answer who [g.reg R.FOL_TTS0 p]

/-! ### Streaming (R393) -/

/-- Ring size in bytes. -/
def ringSize (g : Gloesk) : Nat := 2 ^ g.rd F.FOL_SRSIZE_LOG * 1024

/-- The folio that streams: the lowest-numbered one with bytes left. -/
def streaming (g : Gloesk) : Option Nat := (List.range 8).find? (fun n => (g.folio n).streamed.isSome)

/-- Bytes between the host's read offset and the write offset. -/
def ringUsed (g : Gloesk) : Nat :=
  (g.rd F.FOL_SRWPTR_WPTR + g.ringSize - g.rd F.FOL_SRRPTR_RPTR % g.ringSize) % g.ringSize

/-- STREAM_UNIT: a descriptor and up to 4 KB go to the host ring, unless it is full or shed. -/
def streamUnit (g : Gloesk) : Gloesk :=
  if !(g.on F.FOL_CTRL_SR_EN) || g.on F.FOL_STATUS_SHED then g else
  match g.streaming with
  | none => g
  | some n =>
    let ofs := (g.folio n).streamed.getD 0
    let len := min 4096 (g.fileBytes n - ofs)
    let unit := 16 + (len + 15) / 16 * 16
    if g.ringSize ≤ g.ringUsed + unit then g.up F.FOL_STATUS_SRFULL
    else
      let last := decide (g.fileBytes n ≤ ofs + len)
      let rec_ := g.rd F.FOL_F_STAT_REC n
      let g := g.send .pcie ([1, g.rd F.FOL_SRBASE0_LO * 16 + g.rd F.FOL_SRBASE1_HI * 2 ^ 32 + g.rd F.FOL_SRWPTR_WPTR, n, rec_,
        ofs, len, if last then 1 else 0] ++ (List.range len).map (fun i => g.fileByte n (ofs + i)))
      let g := g.wr F.FOL_SRWPTR_WPTR ((g.rd F.FOL_SRWPTR_WPTR + unit) % g.ringSize)
      (g.onFolio n (fun f => { f with streamed := if last then none else some (ofs + len) })).msix 1

/-- A write of FOL_CTRL: SR_EN is refused with a ring size outside 4-16 (R395). -/
def folioCtrl (g : Gloesk) (v : Nat) : Gloesk :=
  let sz := g.rd F.FOL_SRSIZE_LOG
  let sr := bit v 1 && decide (4 ≤ sz) && decide (sz ≤ 16)
  (g.wr F.FOL_CTRL_EN (v % 2)).wr F.FOL_CTRL_SR_EN (if sr then 1 else 0)

/-- A write of a folio's words, only while it is IDLE (R387). -/
def folioWrite (g : Gloesk) (n : Nat) (f : Gloesk → Gloesk) : Gloesk :=
  if g.fstate n = 0 then f g else g.inc F.FOL_ERRCNT_CHWREJ

/-- A write of a channel entry, only while no folio that is not IDLE owns it. -/
def entryWrite (g : Gloesk) (c : Nat) (f : Gloesk → Gloesk) : Gloesk :=
  if g.folBusy.any (fun n => decide (g.folFirst n ≤ c) && decide (c < g.folFirst n + g.folCount n))
  then g.inc F.FOL_ERRCNT_CHWREJ else f g

end Gloesk

end Sys2Proof.Machine
end

