-- ==== Sys2Proof/Machine/Blotter.lean ====
section
/-!
DEFINITION. The Blotter: edges of the sources, status, counts and times, the log, persistence, actions in step, ALERT_N,
releases, clearing and forcing, records of hubs and cells (R357-R379).
-/

namespace Sys2Proof.Machine

/-- The Gloesk's own event sources (R358). -/
def gloeskEvents : List Nat :=
  [5, 6, 20, 26, 27, 28, 29, 30, 32, 33, 34, 35, 36, 43, 44, 48, 49, 50, 51, 52, 53, 56, 58, 65, 69, 70, 72, 73, 83, 84, 88,
   89, 104]

/-- The Gloesk's own sources (R360). -/
def gloeskSources : List Nat :=
  [0, 1, 2, 3, 4, 5, 6, 7, 8, 9, 10, 11, 16, 17, 18, 20, 21, 24, 25, 26, 27, 28, 29, 30, 32, 33, 34, 35, 36, 40, 41, 42, 43,
   44, 45, 46, 48, 49, 50, 51, 52, 53, 56, 57, 58, 64, 65, 66, 67, 68, 69, 70, 71, 72, 73, 74, 80, 81, 82, 83, 84, 85, 88, 89,
   90, 104, 105]

/-- Sources held separately for each cell, arm or hub pair (R360). -/
def heldApart : List Nat := [9, 10, 11, 40, 41, 42, 43, 90, 105]

/-- A source number of the tables of R360-R362, aggregated ones included. -/
def srcListed (n : Nat) : Bool :=
  if n < 256 then has gloeskSources n
  else if n < 384 then decide (n < 256 + 15)
  else decide (n < 384 + 26)

/-- A source whose every holder makes an edge (R360, R372). -/
def srcApart (n : Nat) : Bool := has heldApart n || decide (256 ≤ n)

/-- The number a log entry gives for who raised a source (R371, R373). -/
def Who.code : Who → Nat
  | .none => 0
  | .arm a => a
  | .cell x => x
  | .hub p q => p + 32 * q
  | .port p q _ => p + 32 * q
  | .pair h => h

/-- The reporter of a record: a port's record is its hub's (R371, R372). -/
def Who.reporter : Who → Who
  | .port p q _ => .hub p q
  | w => w

/-- Key of a holder of an event source. -/
def eventKey (src : Nat) (who : Who) : Nat := src + 512 * (if srcApart src then who.code + 1 else 0)

/-- A Blotter record's 128 bits (R176). -/
def BltRecord.fields (r : BltRecord) : List (Nat × Nat) :=
  [(r.src, 8), flagField r.hub, flagField r.set, flagField r.cause, flagField r.forced, (r.who.code, 13), (0, 7), (r.count, 16),
    (r.first, 32), (r.last, 32), (match r.who with
      | .port _ _ c => c
      | _ => 0, 8), (0, 8)]

namespace Gloesk

/-- Change the Blotter state. -/
def onBlt (g : Gloesk) (f : BlotterState → BlotterState) : Gloesk := { g with blt := f g.blt }

/-- A source's cause. -/
def caused (g : Gloesk) (n : Nat) : Bool := g.on F.BLT_SRC_STAT_CAUSE n

/-- Sources with their cause at 1: those with a holder, and the forced ones. -/
def live (g : Gloesk) : List Nat := ((g.blt.holders.map (·.1)) ++ g.blt.forced).eraseDups

/-- ANY_A and ANY_B. -/
def showAny (g : Gloesk) : Gloesk :=
  let any (c : Nat) : Nat := if g.live.any (fun n => g.rd F.BLT_SRC_CFG_CLASS n = c) then 1 else 0
  (g.wr F.BLT_STATUS_ANY_A (any 0)).wr F.BLT_STATUS_ANY_B (any 1)

/-- A holder that belongs to a hub pair this part does not have: its sources never assert (R2). -/
def whoAbsent (g : Gloesk) (w : Who) : Bool := w.pairOf.any (fun h => !(g.lanePresent h))

/-- SET of a source, and its copy in BLT_SUM. -/
def setStatus (g : Gloesk) (n : Nat) (x : Bool) : Gloesk :=
  (g.wr F.BLT_SRC_STAT_SET (if x then 1 else 0) n).wrBit F.BLT_SUM_SET (n % 32) x (n / 32)

/-! ### The log (R373-R375) -/

/-- INCIDENT is set while one of its conditions holds (R375). -/
def incidentNow (g : Gloesk) : Bool :=
  decide (768 ≤ g.blt.log.length) ||
  decide (16 < (g.blt.edgesA.filter (fun b => g.time.bl < b + 1000000 * 2 ^ 32)).length)

/-- INCIDENT rises. -/
def incident (g : Gloesk) : Gloesk := g.iff g.incidentNow (·.up F.BLT_STATUS_INCIDENT)

/-- Append a log entry. -/
def logAppend (g : Gloesk) (e : LogEntry) : Gloesk :=
  let g := g.onBlt (fun b => { b with log := b.log ++ [e] })
  g.wr F.BLT_LOGCTL_FILL g.blt.log.length

/-- An event is logged or coalesced (R374). -/
def logEvent (g : Gloesk) (n : Nat) (rise forced : Bool) (who : Who) : Gloesk :=
  let fill := g.blt.log.length
  let unread := g.blt.log.any (fun e => e.src = n)
  let cls := g.rd F.BLT_SRC_CFG_CLASS n
  let drop := decide (1024 ≤ fill) || (decide (1008 ≤ fill) && (unread || !rise || decide (2 ≤ cls)))
  if drop then
    let g := (g.inc F.BLT_LOGCTL_COAL).onBlt (fun b => { b with coalesced := if has b.coalesced n then b.coalesced else b.coalesced ++ [n] })
    if n = 104 then g else g.raise 104
  else (g.logAppend ⟨n, rise, forced, false, who.code, g.rd F.BLT_SRC_COUNT_CNT n, g.nsOfSec, g.sec % 2 ^ 32⟩).incident

/-- Space returns: one entry marked coalesced for each coalesced source, in increasing number (R374). -/
def logReturn (g : Gloesk) : Gloesk :=
  let srcs := below 512 (has g.blt.coalesced)
  g.each srcs (fun g n =>
    if 1008 ≤ g.blt.log.length then g
    else
      let g := g.onBlt (fun b => { b with coalesced := without b.coalesced n })
      g.logAppend ⟨n, true, g.on F.BLT_SRC_STAT_FORCED n, true, 0, g.rd F.BLT_SRC_COUNT_CNT n, g.nsOfSec, g.sec % 2 ^ 32⟩)

/-- LOG_POP. -/
def logPop (g : Gloesk) : Gloesk :=
  match g.blt.log with
  | [] => g
  | _ :: l =>
    let g := (g.onBlt (fun b => { b with log := l })).wr F.BLT_LOGCTL_FILL l.length
    (g.wr F.BLT_LOGCTL_RPTR (g.rd F.BLT_LOGCTL_RPTR + 1)).iff (decide (l.length < 1008)) (·.logReturn)

/-- The words of a log entry (R373). -/
def LogWords (e : LogEntry) : List Nat :=
  [e.src + (if e.rise then 2 ^ 9 else 0) + (if e.forced then 2 ^ 10 else 0) + (if e.coalesced then 2 ^ 11 else 0)
    + e.who % 2 ^ 13 * 2 ^ 12, e.count, e.ns, e.sec]

/-- LOG0_READ. -/
def log0Read (g : Gloesk) (who : Nat) : Gloesk :=
  let w := match g.blt.log with
    | [] => [0, 0, 0, 0]
    | e :: _ => LogWords e
  let g := ((g.latch who R.BLT_LOG1 (nth 0 w 1)).latch who R.BLT_LOG2 (nth 0 w 2)).latch who R.BLT_LOG3 (nth 0 w 3)
  g.answer who [nth 0 w 0]

/-! ### ALERT_N (R365, R366) -/

/-- An ALERT_N output is driven low. -/
def alertAssert (g : Gloesk) (n : Nat) : Gloesk :=
  if g.on F.BLT_ALERT_ASSERTED n then g
  else
    let g := ((g.up F.BLT_ALERT_ASSERTED n).up F.BLT_ALERT_PIN n).send .pin [n, 0]
    g.onBlt (fun b => { b with pulse := without b.pulse n ++ [n] })

/-- The ALERT_N outputs of a source's mask. -/
def alerts (g : Gloesk) (n : Nat) : Gloesk :=
  g.each (below 4 (fun m => bit (g.rd F.BLT_SRC_CFG_ALERT n) m)) (fun g m => g.alertAssert m)

/-- A release is judged (R366). -/
def alertJudge (g : Gloesk) (n : Nat) : Gloesk :=
  let g := (g.down F.BLT_ALERT_REL n).onBlt (fun b => { b with relHeld := without b.relHeld n })
  if !(g.on F.BLT_ALERT_ASSERTED n) then g
  else if g.live.any (fun s => bit (g.rd F.BLT_SRC_CFG_ALERT s) n) then g.inc F.BLT_ERRCNT_RELREJ
  else ((g.down F.BLT_ALERT_ASSERTED n).down F.BLT_ALERT_PIN n).send .pin [n, 1]

/-- ALERT_REL. -/
def alertRel (g : Gloesk) (n : Nat) : Gloesk :=
  if has g.blt.pulse n then
    (g.up F.BLT_ALERT_REL n).onBlt (fun b => { b with relHeld := without b.relHeld n ++ [n] })
  else g.alertJudge n

/-- ALERT_PULSE_END. -/
def alertPulseEnd (g : Gloesk) (n : Nat) : Gloesk :=
  let g := g.onBlt (fun b => { b with pulse := without b.pulse n })
  if has g.blt.relHeld n then g.alertJudge n else g

/-- ALERT_PIN_FAULT: the ball reads high for 1 ms while this twin drives it low. -/
def alertPinFault (g : Gloesk) (n : Nat) : Gloesk :=
  if g.on F.BLT_ALERT_ASSERTED n then (g.down F.BLT_ALERT_PIN n).raise 3 else g

/-! ### Actions (R359, R363-R365) -/

/-- The arms that a Block of this holder blocks. -/
def armsOf (g : Gloesk) (src : Nat) (who : Who) : List Nat :=
  match who with
  | .arm a => [a]
  | .cell x => if g.assigned x then [g.armOf x] else []
  | .pair h => if src = 90 then below 12 (fun a => (g.cellsOf a).any (fun x => x / 256 = h)) else List.range 12
  | _ => List.range 12

/-- The first input set whose agreement instant (R92) lies at least 200 ns after now. -/
def actionSet (g : Gloesk) : Nat :=
  let t : Int := g.period
  let ofs : Int := g.rd F.STK_WOFS_W + 842 + ((49 * g.rd F.STK_FIBRE_G + 9) / 10 : Nat)
  let need : Int := (g.time.bl : Int) + (200 - ofs) * 2 ^ 32
  let k := -((-need) / (t * 2 ^ 32))
  strokeMod ((g.stroke : Int) + k - (g.ns / g.period : Nat) + 2 ^ 48).toNat

/-- An action is named for an input set; of two names the earliest counts. -/
def addAction (g : Gloesk) (a : BltAction) : Gloesk :=
  match g.blt.actions.find? (fun x => x.act = a.act ∧ x.who = a.who) with
  | none => g.onBlt (fun b => { b with actions := b.actions ++ [a] })
  | some x =>
    if 0 < strokeDiff a.set x.set then
      g.onBlt (fun b => { b with actions := b.actions.map (fun y => if y = x then a else y) })
    else g

/-- The actions of R364 are this twin's to decide and apply. -/
def actsInStep (g : Gloesk) : Bool := g.role == roleStandby || g.role == roleActive

/-- This twin names an action and sends its notice (R363). -/
def nameAction (g : Gloesk) (a : BltAction) : Gloesk :=
  (g.addAction a).ligature 0x26 (stateBody 0x0B000000 0 [a.act, a.who.code, a.src, a.set % 2 ^ 32, a.set / 2 ^ 32])

/-- A source calls for its actions (R358, R359, R363). -/
def callActions (g : Gloesk) (n : Nat) (who : Who) (time : Nat) (forced : Bool) : Gloesk :=
  let act := g.rd F.BLT_SRC_CFG_ACT n
  let ok := g.actsInStep
  let s := g.actionSet
  let g := g.iff (bit act 1 && (ok || decide (n < 4))) (·.alerts n)
  let g := g.iff (bit act 0 && ok) (fun g => g.each (g.armsOf n who) (fun g a => g.nameAction ⟨0, .arm a, n, s, time, forced⟩))
  let g := g.iff (bit act 1 && ok) (·.nameAction ⟨1, .none, n, s, time, forced⟩)
  let g := match who with
    | .cell x => g.iff (bit act 3 && ok) (·.nameAction ⟨3, .cell x, n, s, time, forced⟩)
    | _ => g
  g.iff (bit act 2 && g.role == roleActive) (·.hoCommit false)

/-- ACTION_NOTICE: the partner's notice arrives. -/
def actionNotice (g : Gloesk) (a : BltAction) : Gloesk :=
  if !g.actsInStep then g
  else
    let g := g.iff (a.act == 1) (·.alerts a.src)
    g.addAction { a with time := g.time.bl, forced := false }

/-- Publications that follow the Blotter publish a new state (R365). -/
def tripPublish (g : Gloesk) : Gloesk :=
  g.each (below 32 (fun n => g.on F.SVI_GP_CFG_EN n && g.pubSrc n == 0)) (fun g n => g.pubNew n)

/-- An action takes effect (R363, R365). One already in force is not applied again. -/
def applyAction (g : Gloesk) (a : BltAction) : Gloesk :=
  match a.act, a.who with
  | 0, .arm m => if has g.blt.blocks m then g else (g.onBlt (fun b => { b with blocks := b.blocks ++ [m] })).showBlocks
  | 1, _ =>
    let t : FolTrig := ⟨a.time, 2, a.forced⟩
    if g.on F.BLT_STATUS_TRIPPED then g.triggerAll t (fun _ _ => true)
    else
      let g := (g.up F.BLT_STATUS_TRIPPED).onBlt (fun b => { b with blocks := List.range 12 })
      ((g.showBlocks.tripPublish).tapBlotterTrip).triggerAll t (fun _ _ => true)
  | 3, .cell x =>
    if Tab.get 0 g.blt.marks x = 0 then g.onBlt (fun b => { b with marks := Tab.set 0 b.marks x (a.src + 1) }) else g
  | _, _ => g

/-- Actions whose input set is agreed take effect; a twin outside the stroke cycle's roles applies none (R364). -/
def applyActions (g : Gloesk) (k : Nat) : Gloesk :=
  let due := g.blt.actions.filter (fun a => 0 ≤ strokeDiff a.set k)
  let g := g.onBlt (fun b => { b with actions := b.actions.filter (fun a => strokeDiff a.set k < 0) })
  if g.actsInStep then (due.foldl (fun (g : Gloesk) a => g.applyAction a) g).fixRows else g

/-! ### Edges (R358) -/

/-- A notification: vector 0 and the Ductus task (R358). -/
def notify (g : Gloesk) : Gloesk :=
  (g.msix 0).iff (g.on F.BLT_CTRL_PT_EN) (fun g => g.post1 (g.rd F.BLT_CTRL_PTASK) false)

/-- Count and times of an edge at Baseline time `t` (2^-32 ns). -/
def stampEdge (g : Gloesk) (n inc_ : Nat) (first last : Nat) : Gloesk :=
  let f := timeParts first
  let l := timeParts last
  let g := g.iff (g.rd F.BLT_SRC_COUNT_CNT n == 0) (fun g =>
    (g.wr F.BLT_SRC_FIRST0_NS f.2.1 n).wr F.BLT_SRC_FIRST1_SEC f.1 n)
  ((g.inc F.BLT_SRC_COUNT_CNT n inc_).wr F.BLT_SRC_LAST0_NS l.2.1 n).wr F.BLT_SRC_LAST1_SEC l.1 n

/-- What a rising edge does beside its status, count and times: by class (R358). -/
def actOnEdge (g : Gloesk) (n : Nat) (who : Who) (time : Nat) (forced : Bool) : Gloesk :=
  if !(g.on F.BLT_SRC_CFG_EN n) then g
  else
    let cls := g.rd F.BLT_SRC_CFG_CLASS n
    let g := g.iff (cls == 0) (·.onBlt (fun b => { b with
      edgesA := (b.edgesA.filter (fun x => g.time.bl < x + 1000000 * 2 ^ 32)) ++ [g.time.bl] }))
    let g := ((g.logEvent n true forced who).iff (decide (cls < 2)) (·.notify)).incident
    if cls = 0 then g.callActions n who time forced
    else if cls = 1 then g.onBlt (fun b => { b with persist := b.persist ++ [⟨n, who, time, forced, g.rd F.BLT_SRC_CFG_PERS n + 1⟩] })
    else g

/-- A rising edge of a source (R358, R369, R388). -/
def edge (g : Gloesk) (n : Nat) (who : Who) (forced : Bool) : Gloesk :=
  let g := (g.setStatus n true).wr F.BLT_SRC_STAT_FORCED (if forced then 1 else 0) n
  let g := (g.stampEdge n 1 g.time.bl g.time.bl).actOnEdge n who g.time.bl forced
  g.triggerAll ⟨g.time.bl, 3, forced⟩ (fun g m => g.rd F.FOL_F_TRG_BSRC m == n)

/-- CAUSE and NREP follow the holders and the force bit; a fall is logged with the holder it ends with (R373). -/
def showCause (g : Gloesk) (n : Nat) (who : Who := .none) : Gloesk :=
  let hs := (g.blt.holders.filter (fun e => e.1 = n)).length
  let now := decide (hs ≠ 0) || has g.blt.forced n
  let was := g.caused n
  let g := (g.wr F.BLT_SRC_STAT_CAUSE (if now then 1 else 0) n).wr F.BLT_SRC_STAT_NREP (if srcApart n then min hs 4095 else 0) n
  (g.iff (was && !now && g.on F.BLT_SRC_CFG_EN n) (·.logEvent n false (g.on F.BLT_SRC_STAT_FORCED n) who)).showAny

/-- A holder's condition begins. -/
def holdRise (g : Gloesk) (n : Nat) (who : Who) : Gloesk :=
  let w := if has gloeskEvents n && !(srcApart n) then Who.none else who
  let held := g.blt.holders.contains (n, w)
  let g := g.iff (has gloeskEvents n) (·.onBlt (fun b => { b with eventLeft := Tab.set 0 b.eventLeft (eventKey n w) 3 }))
  if held then g
  else
    let was := g.caused n
    let g := g.onBlt (fun b => { b with holders := b.holders ++ [(n, w)] })
    let g := g.iff (srcApart n || !was) (·.edge n who false)
    g.showCause n

/-- A holder's condition ends. -/
def holdFall (g : Gloesk) (n : Nat) (who : Who) : Gloesk :=
  if g.blt.holders.contains (n, who) then
    (g.onBlt (fun b => { b with holders := b.holders.filter (fun e => e ≠ (n, who)) })).showCause n who
  else g

/-- One reported edge. A report without a holder ends every holder's condition. -/
def takeEdge (g : Gloesk) (e : Edge) : Gloesk :=
  if !(srcListed e.src) || decide (256 ≤ e.src) || g.whoAbsent e.who then g
  else if e.rise then g.holdRise e.src e.who
  else if has gloeskEvents e.src then g
  else if e.who = .none then
    if g.blt.holders.any (fun h => h.1 = e.src) then
      (g.onBlt (fun b => { b with holders := b.holders.filter (fun h => h.1 ≠ e.src) })).showCause e.src
    else g
  else g.holdFall e.src e.who

/-- The Blotter takes the edges reported in this step; a few rounds for the edges that follow from edges. -/
def takeEdges (g : Gloesk) : Gloesk :=
  let round (g : Gloesk) : Gloesk :=
    let es := g.edges
    es.foldl (fun (g : Gloesk) e => g.takeEdge e) { g with edges := [] }
  let g := if g.edges.isEmpty then g else round (round (round g))
  ({ g with edges := [] }).fixRows

/-! ### Time: events and persistence (R358) -/

/-- The condition of a class B edge still holds at a boundary. -/
def persists (g : Gloesk) (p : Persist) : Bool :=
  let w := if has gloeskEvents p.src && !(srcApart p.src) then Who.none else p.who
  has g.blt.forced p.src || (p.who == .none && !(has gloeskEvents p.src) && g.caused p.src) ||
  (g.blt.holders.contains (p.src, w) && Tab.get 0 g.blt.eventLeft (eventKey p.src w) != 1)

/-- At a stroke boundary: event sources count down, persistence counts, incident times grow old. -/
def blotterBoundary (g : Gloesk) : Gloesk :=
  let g := g.onBlt (fun b => { b with eventLeft := b.eventLeft.map (fun e => (e.1, max 1 (e.2 - 1))) })
  let left := (g.blt.persist.filter g.persists).map (fun p => { p with left := p.left - 1 })
  g.onBlt (fun b => { b with persist := left.filter (fun p => p.left ≠ 0), due := b.due ++ left.filter (fun p => p.left = 0) })

/-- EVENT_CAUSE_EXPIRY: the cause of an event source falls at the second boundary after its last event. -/
def eventExpiry (g : Gloesk) (n : Nat) : Gloesk :=
  let keys := (g.blt.eventLeft.filter (fun e => e.1 % 512 = n ∧ e.2 = 1)).map (·.1)
  if keys.isEmpty then g
  else
    let g := g.onBlt (fun b => { b with
      eventLeft := b.eventLeft.filter (fun e => !(has keys e.1)),
      holders := b.holders.filter (fun h => !(h.1 == n && has keys (eventKey h.1 h.2))) })
    g.showCause n

/-- PERSISTENCE_MET: the actions of a class B source apply. -/
def persistenceMet (g : Gloesk) (n : Nat) : Gloesk :=
  let ps := g.blt.due.filter (fun p => p.src = n)
  let g := g.onBlt (fun b => { b with due := b.due.filter (fun p => p.src ≠ n) })
  ps.foldl (fun (g : Gloesk) p => g.callActions p.src p.who p.time p.forced) g

/-- INCIDENT_CLEAR: 10 ms after the last of its conditions ended. -/
def incidentClear (g : Gloesk) : Gloesk := if g.incidentNow then g else g.down F.BLT_STATUS_INCIDENT

/-! ### Releases (R367) -/

/-- A source with its cause at 1 would re-impose a block of an arm, the trip, or a cell's mark. -/
def reimposes (g : Gloesk) (p : Nat → Who → Nat → Bool) : Bool :=
  g.blt.holders.any (fun h => p h.1 h.2 (g.rd F.BLT_SRC_CFG_ACT h.1)) ||
  g.blt.forced.any (fun n => p n .none (g.rd F.BLT_SRC_CFG_ACT n))

/-- Release a Blotter block of an arm. -/
def releaseArm (g : Gloesk) (a : Nat) : Gloesk :=
  if !(has g.blt.blocks a) then g
  else if g.reimposes (fun n w act => bit act 1 || (bit act 0 && has (g.armsOf n w) a)) then g.inc F.BLT_ERRCNT_RELREJ
  else (g.onBlt (fun b => { b with blocks := without b.blocks a })).showBlocks

/-- Release TRIPPED: publications with SRC = 0 publish FALSE. -/
def releaseTrip (g : Gloesk) : Gloesk :=
  if !(g.on F.BLT_STATUS_TRIPPED) then g
  else if g.reimposes (fun _ _ act => bit act 1) then g.inc F.BLT_ERRCNT_RELREJ
  else (g.down F.BLT_STATUS_TRIPPED).tripPublish

/-- Release a cell's bypass mark. -/
def releaseMark (g : Gloesk) (x : Nat) : Gloesk :=
  if Tab.get 0 g.blt.marks x = 0 then g
  else if g.reimposes (fun _ w act => bit act 3 && w == .cell x) then g.inc F.BLT_ERRCNT_RELREJ
  else g.onBlt (fun b => { b with marks := Tab.del b.marks x })

/-- One item of a BLT record takes effect. -/
def bltApply (g : Gloesk) (addr v : Nat) : Gloesk :=
  if addr = R.BLT_CREL.addr then g.releaseMark (v % 8192)
  else
    let g := (g.wr F.BLT_REL_ARMS (v % 4096)).wr F.BLT_REL_TRIP (bits v 16 1)
    let g := g.each (below 12 (bit v)) (fun g a => g.releaseArm a)
    if bit v 16 then g.releaseTrip else g

/-! ### Clearing and forcing (R368, R369) -/

/-- SOURCE_CLEAR. -/
def sourceClear (g : Gloesk) (n : Nat) : Gloesk :=
  if !(srcListed n) then g else if g.caused n then g.inc F.BLT_ERRCNT_CLRREJ else g.setStatus n false

/-- Force writes are permitted: FORCE_EN, or a debug session with permission bit 1 (R369, R438). -/
def forceAllowed (g : Gloesk) : Bool :=
  g.on F.BLT_CTRL_FORCE_EN || (match g.trust.session with
    | some (perm, _) => bit perm 1
    | none => false)

/-- SOURCE_FORCE. -/
def sourceForce (g : Gloesk) (n : Nat) (x : Bool) : Gloesk :=
  if !(srcListed n) then g
  else if !g.forceAllowed then g.inc F.BLT_ERRCNT_FREJ
  else
    let was := g.caused n
    let g := (g.wr F.BLT_SRC_CTRL_FORCE (if x then 1 else 0) n).onBlt (fun b => { b with
      forced := if x then without b.forced n ++ [n] else without b.forced n })
    let g := g.iff (x && !was) (·.edge n .none true)
    (g.showCause n).fixRows

/-- CBDATA_READ. -/
def cbdataRead (g : Gloesk) (who : Nat) : Gloesk :=
  let x := g.rd F.BLT_CBADDR_ADDR
  let m := Tab.get 0 g.blt.marks x
  let src := if m = 0 then 0 else if m - 1 < 256 then m - 1 else m - 1 - 256
  (g.wr F.BLT_CBADDR_ADDR (x + 1)).answer who [(if m = 0 then 0 else 1) + src % 256 * 256]

/-- SOURCE_FIRST_READ: FIRST0 or LAST0 latches its seconds word. -/
def sourceTimeRead (g : Gloesk) (who n : Nat) (last : Bool) : Gloesk :=
  if last then (g.latch who R.BLT_SRC_LAST1 (g.reg R.BLT_SRC_LAST1 n) n).answer who [g.reg R.BLT_SRC_LAST0 n]
  else (g.latch who R.BLT_SRC_FIRST1 (g.reg R.BLT_SRC_FIRST1 n) n).answer who [g.reg R.BLT_SRC_FIRST0 n]

/-! ### Records of hubs and cells (R371, R372) -/

/-- Baseline time of SB of a stroke known by its bits [31:0], 2^-32 ns: the nearest such stroke. -/
def strokeTime (g : Gloesk) (s : Nat) : Nat :=
  let d := toS 32 (s + 2 ^ 32 - g.stroke % 2 ^ 32)
  ((((g.ns / g.period : Nat) : Int) + d) * g.period).toNat * 2 ^ 32

/-- One record is merged. -/
def mergeRecord (g : Gloesk) (rec : BltRecord) : Gloesk :=
  let r : BltRecord := { rec with who := rec.who.reporter }
  if g.whoAbsent r.who then g
  else if r.src = 0xFF then g.raise 105 r.who
  else
    let n := (if r.hub then 256 else 384) + r.src
    let g := match r.who with
      | .cell x => g.iff (!r.hub) (·.lower 105 (.cell x))
      | _ => g
    if !(srcListed n) then g
    else
      let old := ((g.blt.remote.find? (fun e => e.1 = n ∧ e.2.1 = r.who)).map (·.2.2)).getD ⟨false, 0⟩
      if r.count < old.count then g
      else
        let g := g.onBlt (fun b => { b with
          remote := b.remote.filter (fun e => !(e.1 == n && e.2.1 == r.who)) ++ [(n, r.who, ⟨r.cause, r.count⟩)],
          holders := b.holders.filter (fun h => h ≠ (n, r.who)) ++ (if r.cause then [(n, r.who)] else []) })
        let rises := (r.cause && !old.cause) || (r.set && decide (old.count < r.count))
        let last := g.strokeTime r.last
        let g := g.iff (rises || decide (old.count < r.count)) (·.stampEdge n (r.count - old.count) (g.strokeTime r.first) last)
        let g := g.iff rises (fun g =>
          let g := (g.setStatus n true).wr F.BLT_SRC_STAT_FORCED (if r.forced then 1 else 0) n
          let g := g.actOnEdge n r.who last r.forced
          g.triggerAll ⟨last, 3, r.forced⟩ (fun g m => g.rd F.FOL_F_TRG_BSRC m == n))
        g.showCause n r.who

/-- A record whose holder is not an invalid cell address (R11). -/
def recordValid (r : BltRecord) : Bool :=
  match r.who with
  | .cell x => addrValid x
  | .port _ _ c => decide (c < 192)
  | _ => true

/-- The records of a BULK block are merged. -/
def mergeBlock (g : Gloesk) (rs : List BltRecord) : Gloesk :=
  (((rs.take 255).filter recordValid).foldl (fun (g : Gloesk) r => g.mergeRecord r) g).fixRows

/-- Nothing of the pairs that the station map no longer lists holds a fault (R10). -/
def dropUnlisted (g : Gloesk) : Gloesk :=
  let gone (w : Who) : Bool := w.pairOf.any (fun h => !(g.map.pairs.contains h))
  let srcs := ((g.blt.holders.filter (fun h => gone h.2)).map (·.1)).eraseDups
  let g := g.onBlt (fun b => { b with
    holders := b.holders.filter (fun h => !(gone h.2)),
    remote := b.remote.map (fun e => if gone e.2.1 then (e.1, e.2.1, { e.2.2 with cause := false }) else e) })
  srcs.foldl (fun (g : Gloesk) n => g.showCause n) g

end Gloesk

/-! ### The Blotters of hubs and cells (R370, R371, R379) -/

namespace Stanak

/-- At a stroke boundary the hub's event sources count down (R358). -/
def eventCount (h : Stanak) : Stanak :=
  { h with blt := { h.blt with eventLeft := h.blt.eventLeft.map (fun e => (e.1, max 1 (e.2 - 1))) } }

/-- EVENT_CAUSE_EXPIRY on the hub. -/
def eventExpiry (h : Stanak) (n : Nat) : Stanak :=
  if Tab.get 0 h.blt.eventLeft n = 1 then
    ({ h with blt := { h.blt with eventLeft := Tab.del h.blt.eventLeft n } }).lower n
  else h

/-- SOURCE_CLEAR on the hub. -/
def sourceClear (h : Stanak) (n : Nat) : Stanak :=
  if h.on F.HBLT_SRC_STAT_CAUSE n then h else h.down F.HBLT_SRC_STAT_SET n

/-- SOURCE_FORCE on the hub, within a debug session with permission bit 1. -/
def sourceForce (h : Stanak) (n : Nat) (x : Bool) : Stanak :=
  if 15 ≤ n ∨ !(match h.trust.session with
    | some (perm, _) => bit perm 1
    | none => false) then h
  else if x then ((h.rise n).up F.HBLT_SRC_STAT_FORCE n)
  else
    let h := h.down F.HBLT_SRC_STAT_FORCE n
    if has h.blt.held n then h else h.lower n

/-- The record of one of the hub's own sources, with its port where it has one (R361, R371). -/
def ownRecord (h : Stanak) (n : Nat) : BltRecord :=
  ⟨n, true, if has [6, 7, 8, 9, 11] n then .port h.pair h.plane (Tab.get 0 h.blt.port n) else .hub h.pair h.plane, h.on F.HBLT_SRC_STAT_SET n, h.on F.HBLT_SRC_STAT_CAUSE n, h.on F.HBLT_SRC_STAT_FORCE n,
   h.rd F.HBLT_SRC_STAT_COUNT n, h.rd F.HBLT_SRC_FIRST_STK n, h.rd F.HBLT_SRC_LAST_STK n⟩

/-- Blotter blocks go out on both uplinks (R371). -/
def sendRecords (h : Stanak) (rs : List BltRecord) : Stanak :=
  if rs.isEmpty then h
  else
    let body := rs.take 255
    let block := [(1, 8), (body.length, 8), (0, 112)] ++ body.flatMap BltRecord.fields
    (h.frame 0 0x12 h.stroke 0 [block]).frame 1 0x12 h.stroke 0 [block]

/-- HUB_BLOTTER_READ of the hub's own sources: those changed go out, and the bitmap clears. -/
def blotterOwn (h : Stanak) : Stanak :=
  let ch := below 15 (fun n => bit (h.rd F.HBLT_CHGP0_CHG) n)
  (h.down F.HBLT_CHGP0_CHG).sendRecords (ch.map h.ownRecord)

/-- HUB_BLOTTER_READ of a cell: its changed bitmap and then the records of the sources it names, read over the management
channel (R371). -/
def blotterCell (h : Stanak) (c : Nat) (rs : List BltRecord) : Stanak :=
  let h := h.message c 3 (mgmtMessage 1 1 0 (0x7000 + 8 * h.plane) [])
  let h := rs.foldl (fun (h : Stanak) r => h.message c 3 (mgmtMessage 1 2 0 (0x7104 + 16 * r.src) [])) h
  (h.onHub (fun s => { s with blotFail := Tab.del s.blotFail c })).sendRecords rs

/-- BLOTTER_READ_RETRY: a read not complete within 100 µs; after 8 failures a record with source 0xFF goes out. -/
def blotterRetry (h : Stanak) (c : Nat) : Stanak :=
  let n := Tab.get 0 h.hub.blotFail c + 1
  if n < 8 then h.onHub (fun s => { s with blotFail := Tab.set 0 s.blotFail c n })
  else (h.onHub (fun s => { s with blotFail := Tab.del s.blotFail c })).sendRecords
    [⟨0xFF, false, .cell (256 * h.pair + c), false, false, false, 0, 0, 0⟩]

/-- CHANGED_BITMAP_READ: a word is returned and clears. -/
def changedRead (h : Stanak) (w : Nat) : Stanak :=
  let f := nth F.HBLT_CHGP0_CHG [F.HBLT_CHGP0_CHG, F.HBLT_CHGP1_CHG, F.HBLT_CHGQ0_CHG, F.HBLT_CHGQ1_CHG] w
  (h.send .readData [0, h.rd f]).down f

end Stanak

namespace Ihloon

/-- EVENT_CAUSE_EXPIRY on the cell. -/
def eventExpiry (c : Ihloon) (n : Nat) : Ihloon :=
  if Tab.get 0 c.blt.eventLeft n = 1 then
    ({ c with blt := { c.blt with eventLeft := Tab.del c.blt.eventLeft n } }).lower n
  else c

/-- SOURCE_CLEAR on the cell; SET of sources 0-7 follows the PRT latches (R379). -/
def sourceClear (c : Ihloon) (n : Nat) : Ihloon :=
  if n < 8 ∨ c.on F.CBLT_SRC_STAT_CAUSE n then c else c.down F.CBLT_SRC_STAT_SET n

/-- SOURCE_FORCE on the cell, within a debug session with permission bit 1. -/
def sourceForce (c : Ihloon) (n : Nat) (x : Bool) : Ihloon :=
  if 26 ≤ n ∨ !(match c.trust.session with
    | some (perm, _) => bit perm 1
    | none => false) then c
  else if x then ((c.rise n).up F.CBLT_SRC_STAT_FORCE n)
  else
    let c := c.down F.CBLT_SRC_STAT_FORCE n
    if has c.blt.held n then c else c.lower n

/-- The record of one of the cell's sources (R371). -/
def ownRecord (c : Ihloon) (n : Nat) : BltRecord :=
  ⟨n, false, .cell c.addr, c.on F.CBLT_SRC_STAT_SET n, c.on F.CBLT_SRC_STAT_CAUSE n, c.on F.CBLT_SRC_STAT_FORCE n,
   c.rd F.CBLT_SRC_STAT_COUNT n, c.rd F.CBLT_SRC_FIRST_STK n, c.rd F.CBLT_SRC_LAST_STK n⟩

/-- The sources that the bitmap of a plane's link names. -/
def changed (c : Ihloon) (plane : Nat) : List Nat :=
  below 64 (fun n => bit (if plane = 0 then (if n < 32 then c.rd F.CBLT_CHGP0_CHG else c.rd F.CBLT_CHGP1_CHG)
    else (if n < 32 then c.rd F.CBLT_CHGQ0_CHG else c.rd F.CBLT_CHGQ1_CHG)) (n % 32))

/-- CHANGED_BITMAP_READ over a plane's link: a word is returned and clears. -/
def changedRead (c : Ihloon) (w : Nat) : Ihloon :=
  let f := nth F.CBLT_CHGP0_CHG [F.CBLT_CHGP0_CHG, F.CBLT_CHGP1_CHG, F.CBLT_CHGQ0_CHG, F.CBLT_CHGQ1_CHG] w
  (c.send .readData [0, c.rd f]).down f

end Ihloon

end Sys2Proof.Machine
end

