-- ==== Sys2Proof/Machine/Region.lean ====
section
/-!
DEFINITION. Inkwell as its requesters meet it: guarded ranges (R320), region tables and walks (R321-R324), the moves of the
Quills (R276, R277), resizes (R319).
-/

namespace Sys2Proof.Machine

/-- Rights of a region entry (R321). -/
structure Rights where
  r : Bool
  w : Bool
  x : Bool
  adm : Bool
  deriving DecidableEq, Repr

/-- Rights as the region cache keeps them. -/
def Rights.code (p : Rights) : Nat := p.r.toNat + 2 * p.w.toNat + 4 * p.x.toNat + 8 * p.adm.toNat

/-- Rights from their code. -/
def Rights.ofCode (n : Nat) : Rights := ⟨bit n 0, bit n 1, bit n 2, bit n 3⟩

/-- What a move needs: reads, writes, or reads into the instruction scratch. -/
inductive Need where
  | read | write | load
  deriving DecidableEq, Repr

/-- Whether rights suffice; X requires R. -/
def Rights.allow (p : Rights) : Need → Bool
  | .read => p.r
  | .write => p.w
  | .load => p.r && p.x

/-- The result of a walk: a walk fault with its code and level, or a translation: base, size, rights. -/
inductive Walk where
  | fault (code level : Nat)
  | found (base size : Nat) (rights : Rights)
  deriving DecidableEq, Repr

namespace Gloesk

/-! ### Presence and guards -/

/-- Two byte ranges overlap. -/
def rangesMeet (a n b m : Nat) : Bool := decide (a < b + m) && decide (b < a + n) && decide (n ≠ 0 ∧ m ≠ 0)

/-- Every byte of a range exists (R306). -/
def presentRange (g : Gloesk) (a n : Nat) : Bool :=
  (g.inGeneral a && g.inGeneral (a + n - 1)) || (g.inStaging a && g.inStaging (a + n - 1))

/-- A range meets a partition. -/
def meetsPart (g : Gloesk) (a n p : Nat) : Bool := rangesMeet a n (g.partBase p) (g.partSize p)

/-- A write by Quill firmware (`quill`) or host software meets a guarded range (R320). -/
def guarded (g : Gloesk) (a n : Nat) (quill adm : Bool) : Bool :=
  rangesMeet a n 0x07000000 0x01000000 || g.meetsPart a n 1 || g.meetsPart a n 5 ||
  (List.range 64).any (fun t => g.on F.FLR_T_CFG_EN t && rangesMeet a n (g.pointAddr t 0) (4 * g.flrN t)) ||
  (List.range 64).any (fun t => g.on F.FLR_TAP_CFG_EN t
    && rangesMeet a n (g.partBase 9 + g.rd F.FLR_TAP_BASE_OFS t) (8 * g.tapEntries t)) ||
  g.folBusy.any (fun f => rangesMeet a n (g.folBase f) (g.rd F.FOL_F_SIZE_SIZE f)) ||
  (g.on F.DUC_CTRL_EN && rangesMeet a n (g.partBase 3 + g.rd F.DUC_CTXBASE_OFS) 65536) ||
  (quill && !adm && g.meetsPart a n 2)

/-- A guard refusal is counted (R320). -/
def guardRefusal (g : Gloesk) : Gloesk := (g.inc F.INK_ERRCNT_GUARD).up F.INK_STATUS_GUARD

/-! ### Region walks (R322, R323) -/

/-- The code of a table pointer that cannot be followed, if any: `align` its alignment. -/
def pointerBad (g : Gloesk) (p align : Nat) : Option Nat :=
  if 0x10000000 ≤ p ∧ p < 0x11000000 then some 2
  else if !(g.inPart 2 p) || !(g.presentRange p 8) then some 3
  else if p % align ≠ 0 then some 4 else none

/-- The final entry of a walk. -/
def entryOf (level : Nat) (base size e : Nat) : Walk :=
  let ty := e % 4
  if ty = 3 ∨ (ty = 2 ∧ level = 2) ∨ bits e 6 26 ≠ 0 ∨ (ty ≠ 2 ∧ e / 2 ^ 32 ≠ 0) then .fault 5 level
  else .found base size (if ty = 1 then ⟨bit e 2, bit e 3, bit e 4, bit e 5⟩ else ⟨false, false, false, false⟩)

/-- The walk for a task address. -/
def walk (g : Gloesk) (rgn a : Nat) : Walk :=
  match g.pointerBad rgn 4096 with
  | some c => .fault c 1
  | none =>
    let p1 := rgn + 8 * bits a 20 7
    if g.poisoned p1 8 then .fault 1 1
    else
      let e1 := g.peek p1 8
      if e1 % 4 = 2 then
        let ptr := e1 / 2 ^ 32
        match g.pointerBad ptr 2048 with
        | some c => .fault c 2
        | none =>
          let p2 := ptr + 8 * bits a 12 8
          if g.poisoned p2 8 then .fault 1 2
          else entryOf 2 (a / 4096 * 4096) 4096 (g.peek p2 8)
      else entryOf 1 (a / 2 ^ 20 * 2 ^ 20) (2 ^ 20) e1

/-- A walk fault is recorded (R323). -/
def walkFault (g : Gloesk) (q a code level : Nat) : Gloesk :=
  let g := (g.wr F.INK_WALKADDR_ADDR a).wr F.INK_WALKINFO_CORE q |>.wr F.INK_WALKINFO_CODE code
    |>.wr F.INK_WALKINFO_LEVEL (level - 1)
  ((g.up F.INK_STATUS_WALKF).inc F.INK_ERRCNT1_WALKF).raise 58

/-- The rights of a task address through the region cache (R322, R324), or the cause of the exception. -/
def translate (g : Gloesk) (q a : Nat) : Gloesk × Except Nat Rights :=
  let k := g.core q
  match k.regions.find? (fun e => e.2.1 ≤ a ∧ a < e.2.1 + e.2.2.1) with
  | some e => (g.onPair q (fun k => { k with regions := e :: k.regions.filter (fun x => x ≠ e) }), .ok (Rights.ofCode e.2.2.2))
  | none =>
    match g.walk (g.rd F.DUC_TASK_RGN_OFS k.task) a with
    | .fault code level => (g.walkFault q a code level, .error 6)
    | .found base size p =>
      (g.onPair q (fun k => { k with
        regions := ((g.rd F.DUC_TASK_RGN_OFS k.task, base, size, p.code) :: k.regions).take 16 }), .ok p)

/-- Check every 4 KB page of an access (R276, R322): the cause of the exception, if any, and whether every page has ADM. -/
def checkPages (g : Gloesk) (q : Nat) (need : Need) : List Nat → Gloesk × Option Nat × Bool
  | [] => (g, none, true)
  | a :: l =>
    match g.translate q a with
    | (g, .error c) => (g, some c, false)
    | (g, .ok p) =>
      if p.allow need then
        let r := checkPages g q need l
        (r.1, r.2.1, r.2.2 && p.adm)
      else (g, some 7, false)

/-- The first address of each page that a range touches. -/
def pagesOf (a n : Nat) : List Nat :=
  (List.range ((a + n - 1) / 4096 + 1 - a / 4096)).map (fun i => if i = 0 then a else (a / 4096 + i) * 4096)

/-- An Inkwell access of a task is checked whole: presence, regions, guards. -/
def checkAccess (g : Gloesk) (q a n : Nat) (need : Need) : Gloesk × Option Nat :=
  if !(g.presentRange a n) then (g, some 7)
  else
    let r := g.checkPages q need (pagesOf a n)
    match r.2.1 with
    | some c => (r.1, some c)
    | none => if need = .write ∧ r.1.guarded a n true r.2.2 then (r.1.guardRefusal, some 7) else (r.1, none)

/-- A Quill's access: in the boot run every general address is reached, subject only to the guards (R469). -/
def quillAccess (g : Gloesk) (q a n : Nat) (need : Need) : Gloesk × Option Nat :=
  if q = 0 ∧ g.pwr.bootRun = true then
    if !(g.inGeneral a && g.inGeneral (a + n - 1)) then (g, some 7)
    else if need = .write ∧ g.guarded a n false false = true then (g.guardRefusal, some 7) else (g, none)
  else g.checkAccess q a n need

/-- RINV: region caches are emptied (R324). -/
def rinv (g : Gloesk) (all : Bool) (rgn : Nat) : Gloesk :=
  g.each (below 16 (fun q => !((g.core q).regions.isEmpty)
      && (all || ((g.core q).busy && g.rd F.DUC_TASK_RGN_OFS (g.core q).task / 4096 == rgn))))
    (fun g q => g.onPair q (fun k => { k with regions := [] }))

/-! ### Moves (R276, R277) -/

/-- The conditions that give a move fault before any check of Inkwell. -/
def moveBad (inward : Bool) (ink len scr : Nat) : Bool :=
  decide (len < 4) || decide (4096 < len) || len % 4 != 0 || ink % 4 != 0 || scr % 4 != 0 ||
  (if scr < 0x10000 then !inward || decide (0x10000 < scr + len) else decide (0x20000 < scr + len))

/-- A tag of the task on a core is outstanding. -/
def outstanding (g : Gloesk) (q tag : Nat) : Bool :=
  (g.core q).moves.any (fun m => m.tag == tag && m.owner == some (g.core q).task)

/-- MVIN or MVOUT starts, or gives the cause of an exception. -/
def moveStart (g : Gloesk) (q : Nat) (inward : Bool) (tag ink len scr : Nat) : Gloesk × Option Nat :=
  if moveBad inward ink len scr then (g, some 7)
  else
    let r := g.quillAccess q ink len (if !inward then .write else if scr < 0x10000 then .load else .read)
    match r.2 with
    | some c => (r.1, some c)
    | none => (r.1.onPair q (fun k => { k with
        tags := Tab.del k.tags tag, moves := k.moves ++ [⟨some k.task, tag, inward, ink, scr, len⟩] }), none)

/-- Bytes of a range before its first poisoned word. -/
def cleanBytes (g : Gloesk) (a n : Nat) : Nat :=
  match (List.range ((a + n + 7) / 8 - a / 8)).find? (fun i => Tab.get false g.ink.poison (a / 8 + i)) with
  | none => n
  | some i => (a / 8 + i) * 8 - a

/-- Keep the bytes of the instruction scratch that fetches still see (R276). -/
def keepStale (k : Core) (a n : Nat) : Core :=
  { k with stale := (List.range n).foldl (fun s i =>
      if a + i < 0x10000 ∧ Tab.get none s (a + i) = none then Tab.set none s (a + i) (some (Memory.byte k.mem (a + i)))
      else s) k.stale }

/-- The status of a completed move reaches its task's tag. -/
def moveStatus (g : Gloesk) (q : Nat) (m : QuillMove) (status : Nat) : Gloesk :=
  match m.owner with
  | none => g
  | some t =>
    if (g.core q).busy && (g.core q).task == t then
      g.onPair q (fun k => { k with tags := Tab.set 0 k.tags m.tag (status + 1) })
    else g.onDuc (fun d => { d with tags := Tab.upd [] d.tags t (fun s => Tab.set 0 s m.tag (status + 1)) })

/-- MOVE_COMPLETE: the move `i` of a core ends. `status` 1 is an uncorrectable Inkwell error after `done` bytes, 2 a scratch
ECC error on the data of a MVOUT after `done` bytes (R277). -/
def moveComplete (g : Gloesk) (q i status done : Nat) : Gloesk :=
  match (g.core q).moves[i]? with
  | none => g
  | some m =>
    let status := if m.inward && status == 2 then 0 else status
    let len := if status = 0 then m.len else min (done / 4 * 4) m.len
    let clean := if m.inward then g.cleanBytes m.ink len else len
    let g := g.iff (status == 1) (·.eccUncorrectable (m.ink + len) 4)
    let status := if m.inward && decide (clean < len) then 1 else status
    let n := min len clean
    let g := g.onPair q (fun k => { k with moves := k.moves.eraseIdx i })
    let g : Gloesk :=
      if m.inward then g.onPair q (fun k =>
        let k := keepStale k m.scr n
        { k with mem := Memory.copy g.ink.mem m.ink k.mem m.scr n })
      else
        let words := List.range (n / 4)
        g.each words (fun g j => g.store (m.ink + 4 * j) 4 (Memory.read (g.core q).mem (m.scr + 4 * j) 4))
    g.moveStatus q m status

/-! ### Registered objects (R319) -/

/-- End of the highest registered object of a partition, in granules. -/
def usedGranules (g : Gloesk) (p : Nat) : Nat :=
  let up (n : Nat) : Nat := (n + 65535) / 65536
  let top (l : List Nat) : Nat := l.foldl max 0
  if p = 1 then top ((below 4 (fun s => bit (g.rd F.SEC_LDSTAT_VALID) s)).map (fun s => up ((s + 1) * g.partSize 1 / 4)))
  else if p = 3 then if g.on F.DUC_CTRL_EN then up (g.rd F.DUC_CTXBASE_OFS + 65536) else 0
  else if p = 4 then top ((below 64 (fun t => g.on F.FLR_T_CFG_EN t)).map (fun t =>
    up (g.rd F.FLR_T_BASE_OFS t + 4 * g.flrN t)))
  else if p = 6 then if g.running then up (g.rd F.STK_DBASE_OFS + 0x8000) else 0
  else if p = 7 then top ((below 32 (fun n => g.on F.SVI_GP_CFG_EN n)).map (fun n => up (g.rd F.SVI_GP_TMPL_OFS n + 1522)))
  else if p = 8 then top (g.folBusy.map (fun f => up (g.rd F.FOL_F_BASE_OFS f + g.rd F.FOL_F_SIZE_SIZE f)))
  else if p = 9 then top ((below 64 (fun t => g.on F.FLR_TAP_CFG_EN t)).map (fun t =>
    up (g.rd F.FLR_TAP_BASE_OFS t + 8 * g.tapEntries t)))
  else 0

end Gloesk

end Sys2Proof.Machine
end

