-- ==== Sys2Proof/Machine/Verify.lean ====
section
/-!
DEFINITION. Settings verification: what a settings bundle must keep (R13, R14, R77, R81, R82, R97, R100, R108, R112, R116, R117,
R126, R128, R129, R144, R166, R181, R235, R238, R312, R318, R341, R345, R359, R365, R380, R492), and a signed cell setting
(R209, R221, R246).
-/

namespace Sys2Proof.Machine

/-- The bits of a loop word that its opcode uses, the opcode among them; none for an illegal opcode (R103, R492). -/
def wordUses (f : LoopWord) : Option Nat :=
  let D := 15 * 2 ^ 54
  let W := 2 ^ 53
  let rnd := 2 ^ 52
  let A := 4095 * 2 ^ 40
  let B := 4095 * 2 ^ 28
  let C := 4095 * 2 ^ 16
  let sh := 63 * 2 ^ 10
  let cond := f.x / 64
  (match f.op with
    | 0x00 => some 0
    | 0x01 | 0x0C | 0x0D => some (D + W + A)
    | 0x02 | 0x03 | 0x09 | 0x0A => some (D + W + A + B)
    | 0x04 | 0x06 | 0x07 | 0x08 => some (D + W + rnd + A + C + sh)
    | 0x05 => some (D + W + rnd + A + B + sh)
    | 0x0B => some (D + W + A + C + sh)
    | 0x0E => some (D + W + rnd + A + 63)
    | 0x0F => some (D + W + A + 1)
    | 0x10 => some (D + W + C + sh)
    | 0x11 => some ((if cond < 10 then A else 0) + (if 6 ≤ cond ∧ cond < 10 then B else 0) + 1023)
    | 0x12 => some A
    | 0x13 => some (A + 31)
    | 0x30 | 0x31 | 0x32 => some (D + W + 63)
    | 0x38 => some (A + 63)
    | _ => none).map (fun m => m + 63 * 2 ^ 58)

namespace Gloesk

/-! ### Map, arms, tables, classes and templates -/

/-- Largest number of cells of an arm (R14). -/
def armLimit (g : Gloesk) : Nat := if 1000 ≤ g.period then 768 else 768 * g.period / 1000

/-- Cells per hub: 192 n + 2,536 ≤ 51.4 T and n ≤ 192 (R14, R21). -/
def hubLoadOk (g : Gloesk) : Bool :=
  g.lanes.all (fun l => decide ((g.ports l).length ≤ 192 ∧ 1920 * (g.ports l).length + 25360 ≤ 514 * g.period))

/-- The asymmetries of the station map lie within 10.23 ns (R42). -/
def asymOk (g : Gloesk) : Bool :=
  (g.map.laneAsym ++ g.map.portAsym).all (fun e => decide (-1023 ≤ e.2 ∧ e.2 ≤ 1023))

/-- The arm map keeps R13 and R14, and every assigned cell sits on a populated port (R166). -/
def mapOk (g : Gloesk) : Bool :=
  g.map.arms.all (fun e => decide (e.2 < 16) && (decide (12 ≤ e.2) || (addrValid e.1 &&
    (bit (Tab.get 0 g.map.population (laneOf (e.1 / 256) 0)) (e.1 % 256) ||
      bit (Tab.get 0 g.map.population (laneOf (e.1 / 256) 1)) (e.1 % 256))))) &&
  (List.range 12).all (fun a => decide ((g.cellsOf a).length ≤ g.armLimit)) &&
  (List.range 12).any (fun a => !(g.cellsOf a).isEmpty) &&
  decide ((g.map.arms.filter (fun e => e.2 < 12)).length ≤ if g.small then 3072 else 6144)

/-- An arm's configuration keeps R144. `minTimes` is the largest dead time plus minimum pulse of its cells. -/
def armOk (g : Gloesk) (minTimes a : Nat) : Bool :=
  let ncap := g.rd F.RNK_ARM_CAP_NCAP a
  let nmin := g.rd F.RNK_ARM_CAP_NMIN a
  let edgeMode := g.rd F.RNK_ARM_CFG_MODE a == 0
  let n := g.rd F.RNK_ARM_ISRC_STREAM a
  ((g.cellsOf a).isEmpty || decide (ncap ≠ 0 ∧ nmin ≠ 0 ∧ nmin ≤ ncap)) &&
  decide (ncap + g.rd F.RNK_ARM_RED_NRED a ≤ (g.cellsOf a).length) &&
  g.rd F.RNK_ARM_CFG_MODE a != 3 &&
  (!edgeMode || (decide (g.period ≤ 16000) && decide (g.tmin a * 4 ≤ edgeSteps g.period))) &&
  decide (minTimes ≤ g.tmin a) &&
  (g.on F.RNK_ARM_CFG_NORM a || g.rd F.RNK_ARM_VNOM_VNOM a != 0) &&
  (!(g.on F.RNK_ARM_ISRC_EN a) ||
    (g.on F.SVI_SUB_CFG_EN n && decide (g.rd F.RNK_ARM_ISRC_CH a < g.rd F.SVI_SUB_CFG_NCH n)))

/-- The Flourish tables keep R125, R126 and R128. -/
def tablesOk (g : Gloesk) : Bool :=
  let en := below 64 (fun t => g.on F.FLR_T_CFG_EN t)
  en.all (fun t =>
    let n := g.rd F.FLR_T_CFG_N t
    let src := g.rd F.FLR_T_CFG_SRC t
    let base := g.rd F.FLR_T_BASE_OFS t
    decide (64 ≤ n ∧ n ≤ 4096) && base % 16384 == 0 && decide (base + 4 * n ≤ g.partSize 4) &&
    decide (g.rd F.FLR_T_LEAD_LEAD t < n ∧ g.rd F.FLR_T_FORGET_F t ≤ 65536) &&
    (src == 0 || (decide (src ≤ 16) && g.on F.RUL_CMP_CFG_ROUTE_FLR (src - 1) && g.rd F.RUL_CMP_CFG_MOD (src - 1) == n)) &&
    en.all (fun u => decide (u ≤ t) ||
      !(rangesMeet base (4 * n) (g.rd F.FLR_T_BASE_OFS u) (4 * g.rd F.FLR_T_CFG_N u))))

/-- The class minimums keep R312 and R380. -/
def classesOk (g : Gloesk) : Bool :=
  decide ((if g.small then 4 else 2) ≤ g.rd F.INK_CLS_MIN 3) &&
  decide (((List.range 5).map (fun i => g.rd F.INK_CLS_MIN (i + 1))).sum ≤ 40) && decide (28 ≤ g.rd F.INK_CLS_MIN 1)

/-- Publications that follow the Blotter have a BOOLEAN first member (R365). -/
def templatesOk (g : Gloesk) : Bool :=
  (List.range 32).all (fun n => !(g.on F.SVI_GP_CFG_EN n) || g.pubSrc n != 0 || g.templateBool n)

/-! ### The loop program (R98-R100, R102-R105, R108, R112, R116, R117, R129, R492) -/

/-- An operand field selects something: no reserved value, and no input map entry of class 0 (R104, R112). -/
def operandOk (g : Gloesk) (code : Nat) : Bool :=
  decide (code < 0x10) || decide (0x20 ≤ code ∧ code < 0x28) || decide (0x30 ≤ code ∧ code < 0x80)
    || (decide (0x400 ≤ code ∧ code < 0x800) && g.rd F.LPE_IMAP_CLASS (code - 0x400) != 0)

/-- An input map entry keeps R105: no reserved class, no selector bit that its class does not use, no item that does not
exist. Class 0 is an unused entry, which no word may name (DESIGN CHOICE, log entry 209). -/
def imapOk (g : Gloesk) (i : Nat) : Bool :=
  let sel := g.rd F.LPE_IMAP_SEL i
  let within (m : Nat) : Bool := sel &&& (2 ^ 28 - 1 - m) == 0
  match g.rd F.LPE_IMAP_CLASS i with
  | 0 => true
  | 1 => within 0xFFF
  | 2 => within 0xFF0
  | 3 => within 0xFF7F1F
  | 4 => within 0x7F00
  | 5 => within 0xFF && decide (bits sel 4 4 < 12 ∧ bits sel 0 4 < 8)
  | 6 => within 0x13 && bits sel 0 2 != 3
  | 7 => within 0x3F
  | _ => false

/-- Word `i` of slot `s` passes the checks of one word (R102-R104, R108, R112, R492). -/
def wordOk (g : Gloesk) (s i w : Nat) : Bool :=
  let f := loopFields w
  let base := g.rd F.LPE_SLOT_COEF_CBASE s
  let ends := base + g.rd F.LPE_SLOT_COEF_CCNT s
  match wordUses f with
  | none => false
  | some m =>
    w &&& (2 ^ 64 - 1 - m) == 0 &&
    (bit m 40 == false || g.operandOk f.a) && (bit m 28 == false || g.operandOk f.b) &&
    (bit m 16 == false || decide (base ≤ f.c ∧ f.c + (if f.op = 0x0B then 1 else 0) < ends)) &&
    (bit m 10 == false || f.op == 0x11 || decide (f.sh ≤ if f.op = 0x0B ∨ f.op = 0x10 then 14 else 47)) &&
    (f.op != 0x11 || decide (f.x / 64 < 12 ∧ f.x % 64 ≠ 0 ∧ i + f.x % 64 < g.rd F.LPE_SLOT_CFG0_LEN s))

/-- Words of a list with an opcode, by the low six bits of X. -/
def wordsNaming (l : List Nat) (op : Nat) : List Nat := (l.filter (fun w => bits w 58 6 == op)).map (fun w => bits w 0 6)

/-- A slot passes the checks of one slot (R98, R112). -/
def slotOk (g : Gloesk) (s : Nat) : Bool :=
  let ws := g.slotWords s
  let len := g.rd F.LPE_SLOT_CFG0_LEN s
  let cnt := g.rd F.LPE_SLOT_COEF_CCNT s
  decide (g.rd F.LPE_SLOT_CFG1_PHASE s < g.slotDiv s) && decide (cnt ≤ 256 ∧ g.rd F.LPE_SLOT_COEF_CBASE s + cnt ≤ 4096) &&
    (len == 0 || (decide (len ≤ 104 + g.rd F.LPE_WIN_EXT ∧ len ≤ 8192) && (wordsNaming ws 0x12).length == 1 &&
      (List.range len).all (fun i => g.wordOk s i (nth 0 ws i))))

/-- Slots of the program. -/
def programSlots (g : Gloesk) : List Nat := below 64 (fun s => g.rd F.LPE_SLOT_CFG0_LEN s != 0)

/-- Words of the slots of a tier on a lane. -/
def laneWords (g : Gloesk) (tier lane : Nat) : Nat :=
  ((g.programSlots.filter (fun s => g.rd F.LPE_SLOT_CFG1_TIER s = tier ∧ g.rd F.LPE_SLOT_CFG1_LANE s = lane)).map
    (fun s => g.rd F.LPE_SLOT_CFG0_LEN s)).sum

/-- The tiers fit into the execution phase: the largest number of words of each tier on any lane, and 2 barrier clocks for
each tier but the last (R99, R100). -/
def tiersFit (g : Gloesk) : Bool :=
  let last := g.programSlots.foldl (fun m s => max m (g.rd F.LPE_SLOT_CFG1_TIER s)) 0
  decide ((((List.range 4).map (fun t => (List.range 8).foldl (fun m l => max m (g.laneWords t l)) 0)).sum) + 2 * last
    ≤ 104 + g.rd F.LPE_WIN_EXT)

/-- The extension of the window fits into the stroke (R100). -/
def extOk (g : Gloesk) : Bool :=
  let ext := g.rd F.LPE_WIN_EXT
  decide (ext ≤ 3968 ∧ (128 + ext) * 5 + 160 ≤ 4 * g.period)

/-- A list names nothing twice. -/
def noTwice (l : List Nat) : Bool := decide l.Nodup

/-- The coefficient windows of the slots are disjoint (R112). -/
def windowsApart (g : Gloesk) : Bool :=
  (List.range 64).all (fun s => (List.range s).all (fun u =>
    !(rangesMeet (g.rd F.LPE_SLOT_COEF_CBASE s) (g.rd F.LPE_SLOT_COEF_CCNT s) (g.rd F.LPE_SLOT_COEF_CBASE u)
      (g.rd F.LPE_SLOT_COEF_CCNT u)) || g.rd F.LPE_SLOT_COEF_CCNT s == 0 || g.rd F.LPE_SLOT_COEF_CCNT u == 0))

/-- A slot stands in the MASK of a group. -/
def inMask (g : Gloesk) (n s : Nat) : Bool :=
  if s < 32 then bit (g.rd F.LPE_GRP_MASK0_M_LO n) s else bit (g.rd F.LPE_GRP_MASK1_M_HI n) (s - 32)

/-- Members of a group. -/
def members (g : Gloesk) (n : Nat) : List Nat :=
  below 64 (fun s => g.on F.LPE_SLOT_CFG2_GRP_EN s && g.rd F.LPE_SLOT_CFG2_GROUP s == n)

/-- GROUP and GRP_EN of every slot agree with the MASK words (R112). -/
def masksOk (g : Gloesk) : Bool :=
  (List.range 64).all (fun s => (List.range 16).all (fun n =>
    g.inMask n s == (g.on F.LPE_SLOT_CFG2_GRP_EN s && g.rd F.LPE_SLOT_CFG2_GROUP s == n)))

/-- The outer loops of a cascade group keep R116. The higher tier of each inner loop leaves no cycle. -/
def cascadeOk (g : Gloesk) (n : Nat) : Bool :=
  let outer := (g.members n).filter (fun s => g.feedsInner s)
  noTwice (outer.map (fun s => g.rd F.LPE_SLOT_CFG2_FEEDS s)) &&
    outer.all (fun s =>
      let i := g.rd F.LPE_SLOT_CFG2_FEEDS s
      (g.members n).contains i && decide (g.rd F.LPE_SLOT_CFG1_TIER s < g.rd F.LPE_SLOT_CFG1_TIER i) &&
        g.slotDiv s % g.slotDiv i == 0 &&
        g.rd F.LPE_SLOT_CFG1_PHASE s % g.slotDiv i == g.rd F.LPE_SLOT_CFG1_PHASE i % g.slotDiv i)

/-- A selector group keeps R117. -/
def selectorOk (g : Gloesk) (n : Nat) : Bool :=
  let l := g.members n
  let shared (f : Fld) : Bool := l.all (fun s => g.rd f s == g.rd f (l.headD 0))
  decide (2 ≤ l.length ∧ l.length ≤ 8) && shared F.LPE_SLOT_CFG1_TIER && shared F.LPE_SLOT_CFG1_DIV && shared F.LPE_SLOT_CFG1_PHASE &&
    l.all (fun s => g.rd F.LPE_SLOT_CFG2_DEST s == 0)

/-- A group's MODE is one of R124, and the group keeps its rule. -/
def groupOk (g : Gloesk) (n : Nat) : Bool :=
  match g.rd F.LPE_GRP_CFG_MODE n with
  | 0 => true
  | 1 => g.cascadeOk n
  | 2 => g.selectorOk n
  | _ => false

/-- The destinations that the program writes: of its slots and of its selector groups (R109). -/
def destinations (g : Gloesk) : List Nat :=
  (g.programSlots.map (fun s => g.rd F.LPE_SLOT_CFG2_DEST s) ++
    (below 16 (fun n => g.rd F.LPE_GRP_CFG_MODE n == 2)).map (fun n => g.rd F.LPE_GRP_CFG_DEST n)).filter (fun d => d ≠ 0)

/-- A DEST value that names a destination (R109). -/
def destOk (d : Nat) : Bool := decide (d ≤ 0x0C) || d == 0x10 || decide (0x40 ≤ d ∧ d < 0x80)

/-- The loop program keeps R98-R100, R108, R112, R116, R117, R129 and R492. -/
def programOk (g : Gloesk) : Bool :=
  let ws := g.programWords
  let trc := wordsNaming ws 0x38
  g.extOk && g.tiersFit && (List.range 64).all g.slotOk && (List.range 1024).all g.imapOk && g.windowsApart && g.masksOk &&
    (List.range 16).all g.groupOk && noTwice g.destinations && g.destinations.all destOk && noTwice (wordsNaming ws 0x13) &&
    noTwice trc && trc.all (fun t => !(g.on F.FLR_TAP_CFG_EN t) || g.on F.FLR_TAP_CFG_SRC t)

/-! ### The other settings -/

/-- No two enabled SV subscriptions match the same frame (R77), no backup has a backup of its own (R81), and NCH lies within
its range (R97). -/
def streamsOk (g : Gloesk) : Bool :=
  let en := below 256 (fun n => g.on F.SVI_SUB_CFG_EN n)
  let same (f : Fld) (n m : Nat) : Bool := g.rd f n == g.rd f m
  en.all (fun n =>
    decide (1 ≤ g.rd F.SVI_SUB_CFG_NCH n ∧ g.rd F.SVI_SUB_CFG_NCH n ≤ 16) &&
    (!(g.on F.SVI_SUB_LAT_BACKUP_EN n) || !(g.on F.SVI_SUB_LAT_BACKUP_EN (g.rd F.SVI_SUB_LAT_BACKUP n))) &&
    en.all (fun m => decide (m ≤ n) || !(same F.SVI_SUB_ID_APPID n m && same F.SVI_SUB_SVID_CRC_CRC n m &&
      same F.SVI_SUB_CONFREV_REV n m && g.rd F.SVI_SUB_CFG_PORTS n &&& g.rd F.SVI_SUB_CFG_PORTS m != 0)))

/-- NMEMB of an enabled GOOSE subscription lies within 1-32, and none names a nested structure (R82). -/
def gooseOk (g : Gloesk) (nested : List Nat) : Bool :=
  (below 128 (fun n => g.on F.SVI_GS_CFG_EN n)).all (fun n =>
    decide (1 ≤ g.rd F.SVI_GS_CFG_NMEMB n ∧ g.rd F.SVI_GS_CFG_NMEMB n ≤ 32) && !(has nested n))

/-- The twin settings keep R341, R345 and the register map of R356. -/
def twinOk (g : Gloesk) (minHold : Option Nat) : Bool :=
  (match minHold with
    | none => true
    | some h => decide (g.rd F.TWN_CFG_HBTO + 3 ≤ h)) &&
  decide (g.rd F.TWN_CFG_EVN + 2 ≤ g.rd F.TWN_CFG_OVL) && g.rd F.TWN_ISMASK_PART &&& 0x07FE == 0

/-- The sources whose records name a cell (R360, R362). -/
def cellSource (n : Nat) : Bool := has [9, 10, 11, 105] n || decide (384 ≤ n ∧ n < 410)

/-- No Bypass bit stands on a source without a cell, and none of Block on an Ihloon source while a populated cell is not
assigned to an arm (R359; DEDUCED, log entry 211). -/
def masksActOk (g : Gloesk) : Bool :=
  let bare := g.lanes.any (fun l => (g.ports l).any (fun p => decide (12 ≤ g.armOf (l % 32 * 256 + p))))
  (List.range 512).all (fun n =>
    let act := g.rd F.BLT_SRC_CFG_ACT n
    (!(bit act 3) || cellSource n) && !(bit act 0 && decide (384 ≤ n ∧ n < 410) && bare))

/-- A sequence table keeps R221: the inputs and the QUAL codes that `input` and `qual` allow, entry 0 bare, LOOP within the
table, and no mapped entry above LAST. -/
def sequenceOk (input qual : Nat → Bool) (entry : Nat → Nat) (last loop : Nat) (mapped : List Nat) : Bool :=
  (List.range 32).all (fun e => input (bits (entry e) 0 5) && qual (bits (entry e) 10 3)) &&
    bits (entry 0) 5 4 == 0 && bits (entry 0) 16 12 == 0 && bits (entry 0) 10 3 == 0 &&
    (last == 0 || decide (1 ≤ loop ∧ loop ≤ last)) && mapped.all (fun e => decide (e ≤ last))

/-- The Gloesk's own sequence table (R238), and the arbiters' streams (R235). -/
def aqOk (g : Gloesk) : Bool :=
  sequenceOk (fun i => decide (i < 8 ∨ i = 16)) (fun q => q == 0) (fun e => g.rd F.AQ_SEQ_ENTRY e) (g.rd F.AQ_SEQCTL_LAST)
      (g.rd F.AQ_SEQCTL_LOOP) [] &&
    (List.range 12).all (fun a => !(g.on F.AQ_ARB_CFG_ARB_EN a) ||
      decide (g.rd F.SVI_SUB_LAT_LAT_BUD (g.rd F.AQ_ARB_CFG_STREAM a) * 1000 < 4096 * g.period))

/-- The epoch interval lies in its range (R439). -/
def rotOk (g : Gloesk) : Bool := decide (1 ≤ g.rd F.SEC_ROT_HOURS ∧ g.rd F.SEC_ROT_HOURS ≤ 168)

/-- The thermal limits lie in their ranges (R463, R473). -/
def thermOk (g : Gloesk) : Bool :=
  let shed := g.rd F.PWR_THERM_SHED
  let crit := g.rd F.PWR_THERM_CRIT
  decide (90 ≤ shed ∧ shed ≤ 110 ∧ shed + 5 ≤ crit ∧ crit ≤ 120 ∧ 1 ≤ g.rd F.PWR_THERM_HYST ∧ 1 ≤ g.rd F.PWR_THERM_STEP)

/-- The lanes' settings lie in their ranges (R408, R417). -/
def lanesOk (g : Gloesk) : Bool :=
  (List.range 68).all (fun n => decide (g.rd F.LAN_L_CFG_PRE n + g.rd F.LAN_L_CFG_MAIN n + g.rd F.LAN_L_CFG_POST n ≤ 63)) &&
    g.rd F.LAN_CAL_MININT != 0

/-- The settings in force pass settings verification. `cellMin` and `minHold` state the cell settings of the station:
dead time plus minimum pulse by arm (R144), and the smallest HOLD (R341). -/
def settingsOk (g : Gloesk) (cellMin : List (Nat × Nat)) (minHold : Option Nat) (nested : List Nat) : Bool :=
  g.mapOk && g.hubLoadOk && g.asymOk && (List.range 12).all (fun a => g.armOk (cellMin.foldl (fun m e => if e.1 = a then max m e.2 else m) 0) a) &&
  g.programOk && g.tablesOk && g.streamsOk && g.gooseOk nested && g.twinOk minHold && g.masksActOk && g.aqOk && g.rotOk && g.thermOk && g.lanesOk &&
  g.classesOk && g.templatesOk && g.chainOk && g.layoutOk (fun p => g.rd F.INK_PART_SIZE_GRAN p)

/-! ### Signed cell settings -/

/-- A field of a cell as a settings record leaves it: of the last item that names its register, else as it stands. -/
def settingField (cur : Fld → Nat → Nat) (l : List (Nat × Nat)) (f : Fld) (n : Nat) : Nat :=
  match (l.filter (fun e => e.1 = f.reg.at n)).getLast? with
  | some e => bits e.2 f.lo f.wid
  | none => cur f n

/-- A cell settings record passes the Gloesk's verification: the silence timeout (R209), the sequence table (R221) and the
ledger's thresholds (R246). `cur` are the cell's registers. -/
def cellSettingsOk (g : Gloesk) (cur : Fld → Nat → Nat) (l : List (Nat × Nat)) : Bool :=
  let v := settingField cur l
  let thr (c : Nat) : Nat := v F.RSV_THR_THR c
  let mapped := [(F.CAQ_MAP_VON_EN, F.CAQ_MAP_VON_E), (F.CAQ_MAP_VONB_EN, F.CAQ_MAP_VONB_E), (F.CAQ_MAP_TEMP_EN, F.CAQ_MAP_TEMP_E),
    (F.CAQ_MAP_AUX_EN, F.CAQ_MAP_AUX_E)].filterMap (fun m => if v m.1 0 = 1 then some (v m.2 0) else none)
  decide (100 * ((v F.LNK_CMD_HOLD 0 + 1) * g.period + 1000) ≤ 95 * v F.PRT_SIL_TO 0 * 1000) &&
    sequenceOk (fun i => decide (i < 18)) (fun q => decide (q < 5)) (fun e => v F.CAQ_SEQ_ENTRY e) (v F.CAQ_SEQCTL_LAST 0)
      (v F.CAQ_SEQCTL_LOOP 0) mapped &&
    decide (thr 0 < thr 1 ∧ thr 1 < thr 2 ∧ thr 2 < thr 3 ∧ thr 3 < thr 4) && v F.RSV_CFG_HZN 0 != 0 &&
    v F.RSV_CAP_CAP 0 != 0 && v F.RSV_BYPE_BYPE 0 != 0

end Gloesk

end Sys2Proof.Machine
end

