-- ==== Sys2Proof/Machine/Bundle.lean ====
section
/-!
DEFINITION. Settings bundles: what a bundle writes, what it may change at its agreed stroke (R15, R97, R122, R144), and its
effect (R353, R426, R431, R437).
-/

namespace Sys2Proof.Machine

namespace Gloesk

/-! ### What a bundle writes -/

/-- A field that a settings bundle may write: one marked bundle or signed, or one of the SVI and LPE registers that R97 and
R124 put into the bundle. -/
def bundleField (f : Fld) : Bool :=
  f.acc == .rw && (f.kind == .bundle || f.kind == .signed ||
    (f.kind == .plain && decide (0x70000 ≤ f.reg.addr ∧ f.reg.addr < 0x80000)) ||
    (f.kind == .plain && (f == F.LPE_CTRL_EN || f == F.LPE_WIN_EXT ||
      (decide (R.LPE_SLOT_CFG0.addr ≤ f.reg.addr ∧ f.reg.addr < R.FLR_T_CFG.addr) && f.reg != R.LPE_QRES
        && f.reg != R.LPE_PARAM))))

/-- Write one settings item. An SVI_CUTOFF outside 100-480 is ignored and counted (R97). -/
def bundleItem (g : Gloesk) (e : Nat × Nat) : Gloesk :=
  if e.1 = R.SVI_CUTOFF.addr ∧ ¬ (100 ≤ e.2 % 1024 ∧ e.2 % 1024 ≤ 480) then g.inc F.SVI_AGREE1_WREJ else
  let put (rf : RegFile) (d : Fld × Nat) : RegFile := if bundleField d.1 then rf.setFld d.1 (e.2 / 2 ^ d.1.lo) d.2 else rf
  { g with regs := (fieldsAt FieldList.gloesk e.1).foldl put g.regs }

/-- The configuration registers of a slot and of its group, and its program words in a bank (R122). -/
def slotImage (g : Gloesk) (bank s : Nat) : List Nat :=
  let cfg := [g.reg R.LPE_SLOT_CFG0 s, g.reg R.LPE_SLOT_CFG1 s, g.reg R.LPE_SLOT_CFG2 s, g.reg R.LPE_SLOT_YMIN s,
    g.reg R.LPE_SLOT_YMAX s, g.reg R.LPE_SLOT_PRESET s, g.reg R.LPE_SLOT_COEF s]
  let grp := if g.on F.LPE_SLOT_CFG2_GRP_EN s then
      [g.reg R.LPE_GRP_CFG (g.rd F.LPE_SLOT_CFG2_GROUP s), g.reg R.LPE_GRP_MASK0 (g.rd F.LPE_SLOT_CFG2_GROUP s),
        g.reg R.LPE_GRP_MASK1 (g.rd F.LPE_SLOT_CFG2_GROUP s)] else []
  cfg ++ grp ++ (List.range (g.rd F.LPE_SLOT_CFG0_LEN s)).map
    (fun i => (Tab.get 0 g.lpe.prog (bank * 8192 + (g.rd F.LPE_SLOT_CFG0_START s + i) % 8192)).toNat)

/-- The program of a bundle fills the idle bank and the banks swap (R122). -/
def bundleProgram (g : Gloesk) (b : Settings) : Gloesk :=
  let bank := g.idleBank
  let g : Gloesk := if b.program.isEmpty then g else
    let l := b.program.foldl (fun t e => Tab.set 0 t (bank * 8192 + e.1 % 8192) (BitVec.ofNat 64 e.2))
      (g.lpe.prog.filter (fun e => e.1 / 8192 ≠ bank))
    (g.onLpe (fun p => { p with prog := l })).wr F.LPE_CTRL_BANK bank
  let g := b.coefs.foldl (fun (g : Gloesk) e =>
    (g.setCoef (e.1 % 4096) e.2).onLpe (fun p => { p with fixed := Tab.set false p.fixed (e.1 % 4096) (bit e.2 31) })) g
  let locals := b.locals.foldl (fun t e => Tab.set 0 t (e.1 % 1024) (BitVec.ofNat 32 e.2)) g.lpe.initLocals
  g.onLpe (fun p => { p with initLocals := locals })

/-- A table in canonical form from its entries. -/
def tabOf {α : Type} [DecidableEq α] (d : α) (l : List (Nat × α)) : Tab α := l.foldl (fun t e => Tab.set d t e.1 e.2) []

/-- HUB_WWIN for the hubs of the station (R173): from 20 ns before the last word is queued, modulo T, to the end of a second
word on the port. A word is queued 90 ns before its arming without the cell fibre (R16, R181; DESIGN CHOICE, log entry 212). -/
def wordWindow (g : Gloesk) : Nat :=
  let queued := (4 * (g.rd F.STK_WOFS_W + chainQ g.maxHub g.maxArm - 90) * 10 + 392 * g.rd F.STK_FIBRE_G + 50 * g.rd F.LPE_WIN_EXT) / 40
  (queued - 20) % (atLeast1 g.period) + 166 * 2 ^ 16

/-- The Gloesk writes the map fields of a hub over its management channel (R191): FCTRL, RWIN and WWIN, and the ports. -/
def sendMapTo (g : Gloesk) (l : Nat) : Gloesk :=
  let pop := Tab.get 0 g.map.population l
  (g.mgmtFrame l 2 2 0 0 R.HUB_FCTRL.addr [1 + 2 * (l % 32) + 64 * (l / 32), g.rd F.STK_WOFS_W, g.wordWindow]).mgmtFrame l 2 5 0 0
    R.HUB_SLOT0.addr ((List.range 6).map (fun w => bits pop (32 * w) 32))

/-- It does so for every listed hub. -/
def sendMap (g : Gloesk) : Gloesk := g.each g.lanes (fun g l => g.sendMapTo l)

/-- Listed hub lanes come up, those not listed are powered down (R10, R403, R469). -/
def startLanes (g : Gloesk) : Gloesk :=
  let g := g.each (below 64 g.lanePresent) (fun g n =>
    if g.listed n then
      (g.down F.LAN_L_STAT_PD n).iff (g.rd F.LAN_L_STAT_TXST n == 0) (·.wr F.LAN_L_STAT_TXST 1 n)
    else ((g.up F.LAN_L_STAT_PD n).wr F.LAN_L_STAT_TXST 0 n).wr F.LAN_L_STAT_RXST 0 n)
  g.showUp

/-- The station map and arm map of a bundle. A cell newly assigned has had no report (R145). -/
def bundleMap (g : Gloesk) (m : StationMap) : Gloesk :=
  let arms := tabOf 15 m.arms
  let moved := (arms.map (·.1)).filter (fun x => Tab.get 15 arms x ≠ g.armOf x)
  let map : StationMap := ⟨m.pairs, tabOf 0 m.population, tabOf 0 m.laneAsym, tabOf 0 m.portAsym, arms⟩
  let g := ((({ g with map := map }).startLanes).dropUnlisted).sendMap
  g.each moved (fun g x => g.onCell x (fun c => { c with seen := false, stale := 0, flags := 0 }))

/-- What a bundle writes, without the checks. -/
def bundleWrite (g : Gloesk) (b : Settings) : Gloesk :=
  let locked := g.on F.INK_STATUS_LOCKED
  let partReg (a : Nat) : Bool := decide (R.INK_PART_BASE.addr ≤ a ∧ a < R.INK_PART_BASE.addr + 16 * R.INK_PART_BASE.stride)
  let g := (b.items.filter (fun e => !(locked && partReg e.1))).foldl (fun (g : Gloesk) e => g.bundleItem e) g
  let g := g.bundleProgram b
  let g := (b.cells.filter (fun e => addrValid e.1)).foldl (fun (g : Gloesk) e => g.onCell (e.1 % 8192) (fun c => { c with gain := e.2.1, ofs := e.2.2 })) g
  let g := b.defaults.foldl (fun (g : Gloesk) e => g.storeDefaults (e.1 % 128) e.2) g
  match b.map with
  | some m => g.bundleMap m
  | none => g

/-! ### The effect at the agreed stroke (R353) -/

/-- Slots whose program changes between two states (R122). -/
def changedSlots (g g' : Gloesk) : List Nat :=
  below 64 (fun s => g.slotImage (g.rd F.LPE_CTRL_BANK) s != g'.slotImage (g'.rd F.LPE_CTRL_BANK) s)

/-- A cell leaves its arm, or moves to another, only while both arms are blocked (R15). -/
def movesOk (g g' : Gloesk) : Bool :=
  g.map.arms.all (fun e => g'.armOf e.1 == e.2 || (g.armBlocked e.2 && (decide (12 ≤ g'.armOf e.1) || g.armBlocked (g'.armOf e.1))
    || decide (12 ≤ e.2)))

/-- MODE, TYPE, NCAP and TMIN of an arm change only while it is blocked (R144). -/
def armsOk (g g' : Gloesk) : Bool :=
  (List.range 12).all (fun a => g.armBlocked a ||
    (g.rd F.RNK_ARM_CFG_MODE a == g'.rd F.RNK_ARM_CFG_MODE a && g.rd F.RNK_ARM_CFG_TYPE a == g'.rd F.RNK_ARM_CFG_TYPE a &&
      g.rd F.RNK_ARM_CAP_NCAP a == g'.rd F.RNK_ARM_CAP_NCAP a && g.tmin a == g'.tmin a))

/-- A position (R430). -/
def position (g : Gloesk) (p : Nat) : Position := Tab.get Position.reset g.pos.positions p

def onPos (g : Gloesk) (f : GloeskSec → GloeskSec) : Gloesk := { g with pos := f g.pos }

/-- Change a position. -/
def onPosition (g : Gloesk) (p : Nat) (f : Position → Position) : Gloesk :=
  g.onPos (fun s => { s with positions := Tab.upd Position.reset s.positions p f })

/-- A position becomes pending (R429, R431): its cell is not attested. -/
def posPending (g : Gloesk) (p : Nat) : Gloesk :=
  let g := g.onPosition p (fun x => { x with stand := 1 })
  if addrValid p then (g.onRank (fun r => { r with standing := Tab.set 0 r.standing p 0 })).send .secure [p, 1]
  else g.send .secure [p, 1]

/-- The verifier of an exchange sends its challenge (R428): a key generation, which an entropy failure stops (R420). -/
def challenge (g : Gloesk) (p : Nat) : Gloesk := if g.trust.entropyBad then g else g.send .secure [p, 0]

/-- Bind a fingerprint and a counter to a position; its verifier attests it again at once (R431). -/
def rebind (g : Gloesk) (e : Nat × Nat × Nat) : Gloesk :=
  ((g.onPosition e.1 (fun x => { x with bound := e.2.1, counter := e.2.2 })).posPending e.1).challenge e.1

/-- A settings bundle takes effect, whole or not at all (R353). -/
def settingsApply (g : Gloesk) (slot : Nat) (o : SignedObject) (b : Settings) : Gloesk :=
  let g' := g.bundleWrite b
  let modeBad := decide (g.rd F.SVI_CTRL_MODE ≠ g'.rd F.SVI_CTRL_MODE) && !g.allBlocked
  let changed := g.changedSlots g'
  let loopBad := g.running && changed.any (fun s => g.slotState s == 1)
  let g := (g.iff modeBad (·.up F.SVI_STATUS_MODE_REJ)).iff loopBad (·.up F.LPE_STATUS_BUNDLE_REJ)
  if modeBad || loopBad || !(g.movesOk g') || !(g.armsOk g') || !(g'.settingsOk b.cellMin b.minHold b.nested) then g.raise 5
  else
    let tables := below 64 (fun t => g'.on F.FLR_T_CFG_EN t && !(g.on F.FLR_T_CFG_EN t))
    let mode := g'.rd F.SVI_CTRL_MODE
    let newMode := decide (g.rd F.SVI_CTRL_MODE ≠ mode)
    let g := ((g'.lower 5).showAref).each tables (fun g t => g.flrEnable t)
    let g := g.iff newMode (fun g => (g.wr F.SVI_STATUS_MODE_ACT (if mode = 3 then 0 else mode)).onSvi
      (fun v => { v with simSeen := [], simGoose := [] }))
    let g := if g.running then g.each changed (fun g s => g.slotInit s) else g.each (List.range 64) (fun g s => g.slotShow s)
    let g := (b.bindings.filter (fun e => (g.position e.1).bound ≠ e.2)).foldl (fun (g : Gloesk) e => g.rebind (e.1, e.2, 0)) g
    let g : Gloesk := { g with trust := { g.trust with station := some o.env.station } }
    ((g.onPos (fun s => { s with active := some o.digest })).wr F.SEC_LDSTAT_ACTIVE (2 ^ slot)).showChain

/-- Keys replace the entries they name (R437); the part holds 128 (R436). -/
def keysApply (g : Gloesk) (l : List GmacKey) : Gloesk :=
  g.onSvi (fun v => { v with keys := l.foldl (fun ks k =>
    (ks.filter (fun x => ¬(x.appid = k.appid ∧ x.publish = k.publish ∧ x.keyId = k.keyId)) ++ [k]).take 128) v.keys })

/-- The object of a bundle slot takes effect at its agreed stroke (R353, R431, R437). -/
def bundleApply (g : Gloesk) (slot : Nat) : Gloesk :=
  let g := g.onPos (fun s => { s with pend := s.pend.filter (fun e => e.1 ≠ slot) })
  let g := g.wrBit F.SEC_LDSTAT_PEND slot (g.pos.pend.any (fun e => e.1 = slot))
  match (g.pos.objects.find? (fun e => e.1 = slot)).map (·.2) with
  | none => g
  | some o =>
    match o.body with
    | .settings b => g.settingsApply slot o b
    | .rebind l => (l.foldl (fun (g : Gloesk) e => g.rebind e) g).tamper 8
    | .keys l _ => g.keysApply l

end Gloesk

end Sys2Proof.Machine
end

