-- ==== Sys2Proof/Machine/Security.lean ====
section
/-!
DEFINITION. Security: the checks of a signed object (R422-R426), the bundle loader (R427), attestation and standing
(R428-R432), link epochs (R434), debug sessions (R438), entropy (R420).
-/

namespace Sys2Proof.Machine

/-! ### Signed objects (R422-R426) -/

/-- The usage bit that a TYPE needs (R422). -/
def usageBit (typ : Nat) : Nat :=
  if typ ≤ 3 then 0 else if typ = 6 then 3 else if typ = 8 then 2 else if typ = 9 then 4 else 1

/-- A host bundle or host cell settings record (R426). -/
def Envelope.host (e : Envelope) : Bool := e.slot == 255 && (e.typ == 4 || e.typ == 5)

/-- The first failing check of R424, or 0. `fp` is the part's fingerprint, `now` its Baseline seconds when its time is
locked, `prot` says that the body holds a protection-relevant item. -/
def PartSec.check (p : PartSec) (fp : Nat) (now : Option Nat) (prot : Bool) (e : Envelope) : Nat :=
  let slot := nth ⟨false, 0, false⟩ p.slots e.slot
  let late : Bool := match now with
    | none => true
    | some s => decide (e.expiry ≤ s)
  let named := e.typ == 7 || e.typ == 8
  if !e.formOk then 1
  else if !e.host && (decide (4 ≤ e.slot) || !slot.filled || slot.revoked || !(bit slot.usage (usageBit e.typ))) then 2
  else if !e.host && !e.ecdsaOk then 3
  else if !e.host && !e.mldsaOk then 4
  else if !e.digestOk then 5
  else if decide (e.target ≠ fp) && (named || e.target != 0) || !(p.station.isNone || p.station == some e.station) then 6
  else if e.typ ≤ 3 && decide (e.svn < p.svn) then 7
  else if !(decide (e.typ ≤ 3)) && decide (e.seq < Tab.get 0 p.seqs e.typ) then 7
  else if e.typ == 8 && late then 8
  else if e.host && prot then 9
  else 0

/-- Remember the SEQ of an accepted object; images carry none. The table holds SEQ + 1. -/
def PartSec.accept (p : PartSec) (e : Envelope) : PartSec :=
  if e.typ ≤ 3 then p else { p with seqs := Tab.set 0 p.seqs e.typ (e.seq + 1) }

/-- The SVN counter after an image is confirmed (R425). -/
def PartSec.confirm (p : PartSec) (adv : Bool) (svn : Nat) : PartSec :=
  if adv && decide (p.svn < svn) then { p with svn := min 64 svn } else p

/-- Another unrevoked slot has usage bit 1 (R422). -/
def PartSec.keepsSettings (p : PartSec) (slot : Nat) : Bool :=
  (List.range 4).any (fun i => i != slot &&
    (let s := nth ⟨false, 0, false⟩ p.slots i; s.filled && !s.revoked && bit s.usage 1))

/-- A key-management object acts (R422): the part after it, and the code it answers. A fuse once blown is never cleared, so a
slot filled again keeps its usage bits and its revoke fuse (R420). -/
def PartSec.keyOp (p : PartSec) (op : KeyOp) : PartSec × Nat :=
  match op with
  | .fill s u =>
    let k := nth ⟨false, 0, false⟩ p.slots s
    ({ p with slots := p.slots.set s ⟨true, k.usage ||| u % 32, k.revoked⟩ }, 0)
  | .revoke s =>
    if p.keepsSettings s then
      let k := nth ⟨false, 0, false⟩ p.slots s
      ({ p with slots := p.slots.set s { k with revoked := true } }, 0)
    else (p, 2)
  | .retire => ({ p with lcs := 2, pufOk := false }, 0)

/-- The envelope in memory from address `a` (R423), for an object of `len` bytes whose cryptographic checks came out as
given. -/
def envelopeAt (m : Tab Byte) (a len : Nat) (ecdsa mldsa digest : Bool) : Envelope :=
  let f (o n : Nat) : Nat := Memory.read m (a + o) n
  let typ := f 4 2
  let slot := f 6 1
  let body := f 8 4
  let image := decide (typ ≤ 3)
  let whole := if slot = 255 then 0x80 + body else 0x80 + body + 3408
  { formOk := f 0 4 == 0x4B505347 && decide (1 ≤ typ ∧ typ ≤ 9) && decide (f 7 1 ≤ 1) && body % 16 == 0 && whole == len &&
      (image || f 0xC 4 == 0) && (!image || f 0x10 8 == 0) && (typ == 8 || f 0x38 8 == 0) && f 0x70 16 == 0,
    typ := typ, slot := slot, adv := bit (f 7 1) 0, svn := f 0xC 4, seq := f 0x10 8, target := f 0x18 16,
    station := f 0x28 16, expiry := f 0x38 8, ecdsaOk := ecdsa, mldsaOk := mldsa, digestOk := digest }

namespace Gloesk

def onTrust (g : Gloesk) (f : PartSec → PartSec) : Gloesk := { g with trust := f g.trust }

/-- The part's fingerprint (R421). -/
def fingerprint (_ : Gloesk) : Nat := (Config.fingerprint 0).toNat

/-- Its time is locked: the servo is LOCKED or FOLLOW (DEDUCED, log entry 24). -/
def timeLocked (g : Gloesk) : Bool := g.servoState == stLocked || g.servoState == stFollow

/-- Baseline seconds while the time is locked. -/
def lockedSec (g : Gloesk) : Option Nat := if g.timeLocked then some g.sec else none

/-- SEC_STATUS, SEC_SVN, SEC_SLOTS and SEC_ID show the part's security state (R439). -/
def showTrust (g : Gloesk) : Gloesk :=
  let p := g.trust
  let slot (i : Nat) : KeySlot := nth ⟨false, 0, false⟩ p.slots i
  let g := (g.wr F.SEC_STATUS_LCS p.lcs).wr F.SEC_STATUS_PUF_OK p.pufOk.toNat
  let g := (g.wr F.SEC_STATUS_DBG p.session.isSome.toNat).wr F.SEC_DBGCTL_PERM ((p.session.map (·.1)).getD 0)
  let g := g.wr F.SEC_SVN_CTR p.svn
  let g := ((g.wr F.SEC_SLOTS_USE0 (slot 0).usage).wr F.SEC_SLOTS_USE1 (slot 1).usage).wr F.SEC_SLOTS_USE2 (slot 2).usage
  let g := ((g.wr F.SEC_SLOTS_USE3 (slot 3).usage).wr F.SEC_SLOTS_REV0 (slot 0).revoked.toNat).wr F.SEC_SLOTS_REV1 (slot 1).revoked.toNat
  let g := (g.wr F.SEC_SLOTS_REV2 (slot 2).revoked.toNat).wr F.SEC_SLOTS_REV3 (slot 3).revoked.toNat
  let fp := if p.pufOk then g.fingerprint else 0
  (((g.wr F.SEC_ID0_FP fp).wr F.SEC_ID1_FP (fp / 2 ^ 32)).wr F.SEC_ID2_FP (fp / 2 ^ 64)).wr F.SEC_ID3_FP (fp / 2 ^ 96)

/-- The outcome of a verification (R424): an object refused changes nothing but what reports it. -/
def verified (g : Gloesk) (e : Envelope) (code : Nat) : Gloesk :=
  let g := (g.wr F.SEC_VSTAT_CODE code).wr F.SEC_VSTAT_TYPE e.typ
  if code = 0 then g.onTrust (fun p => p.accept e)
  else
    let g := ((g.up F.SEC_STATUS_VFAIL).inc F.SEC_ERRCNT_VFAIL).raise 6
    if code = 3 ∨ code = 4 ∨ code = 5 ∨ code = 7 then g.tamper 6 else g

/-! ### The bundle loader (R427) -/

/-- A host bundle's body holds a protection-relevant item (R426): among them a FIXED coefficient, in the bundle or now. -/
def protects (g : Gloesk) (b : Payload) : Bool :=
  match b with
  | .settings s => s.map.isSome || !s.bindings.isEmpty || s.coefs.any (fun e => bit e.2 31 || Tab.get false g.lpe.fixed (e.1 % 4096)) ||
      s.items.any (fun e => (fieldsAt FieldList.gloesk e.1).any (fun d => d.1.kind == .signed))
  | _ => true

/-- BUNDLE_LOAD: SEC_LDCTL.GO with the object at SEC_LDSRC (R427). `ecdsa`, `mldsa` and `digest` say how its cryptographic
checks come out, `hash` is its DIGEST, `body` its decoded body. -/
def bundleLoad (g : Gloesk) (slot : Nat) (ecdsa mldsa digest : Bool) (hash : Nat) (body : Payload) : Gloesk :=
  let g := g.wr F.SEC_LDCTL_SLOT slot
  if g.on F.SEC_LDSTAT_BUSY then g
  else
    let src := g.rd F.SEC_LDSRC_ADDR
    let len := g.rd F.SEC_LDLEN_LEN
    let size := g.partSize 1 / 4
    let e := envelopeAt g.ink.mem src len ecdsa mldsa digest
    let lcode := if bit (g.rd F.SEC_LDSTAT_ACTIVE) slot || bit (g.rd F.SEC_LDSTAT_PEND) slot then 1
      else if size < len then 2
      else if e.typ ≠ 4 ∧ e.typ ≠ 6 ∧ e.typ ≠ 7 then 3
      else if len = 0 ∨ !(g.inPart 10 src && g.inPart 10 (src + len - 1)) then 4 else 0
    let g := g.wr F.SEC_LDSTAT_LCODE lcode
    if lcode ≠ 0 then g
    else
      let dst := g.partBase 1 + slot * size
      let mem := Memory.copy g.ink.mem src g.ink.mem dst len
      let g : Gloesk := { g with ink := { g.ink with mem := mem } }
      let g := (g.wrBit F.SEC_LDSTAT_VALID slot false).up F.SEC_LDSTAT_BUSY
      let unwraps := match body with
        | .keys _ ok => ok
        | _ => true
      let code := g.trust.check g.fingerprint g.lockedSec (g.protects body) e
      let code := if code = 0 ∧ unwraps = false then 5 else code
      g.onPos (fun s => { s with
        load := some (slot, lcode, code, ⟨e, hash, body⟩), objects := s.objects.filter (fun o => o.1 ≠ slot) })

/-- LOAD_COMPLETE: the slot becomes VALID on code 0, else it is empty (R427). -/
def loadComplete (g : Gloesk) : Gloesk :=
  match g.pos.load with
  | none => g
  | some (slot, _, code, o) =>
    let g := ((g.verified o.env code).down F.SEC_LDSTAT_BUSY).wr F.SEC_LDSTAT_CODE code
    let g := g.onPos (fun s => { s with load := none })
    if code = 0 then (g.wrBit F.SEC_LDSTAT_VALID slot true).onPos (fun s => { s with objects := s.objects ++ [(slot, o)] })
    else g

/-! ### Attestation and standing (R428-R431) -/

/-- Position code of a hub (R439). -/
def hubPos (pair plane : Nat) : Nat := 256 * pair + 0xC0 + plane

/-- A position code names a hub. -/
def isHubPos (p : Nat) : Bool := p % 256 == 0xC0 || p % 256 == 0xC1

/-- The worse of two standings, in the order bound, pending, stranger (R429). -/
def worseStand (a b : Nat) : Nat := if a = 3 ∨ b = 3 then 3 else if a = 1 ∨ b = 1 then 1 else max a b

/-- The verdict of R430 on evidence: standing and tamper cause. -/
def judge (g : Gloesk) (p : Nat) (ev : Evidence) : Nat × Nat :=
  let x := g.position p
  if x.bound = 0 ∨ ev.fp ≠ x.bound then (3, 4)
  else if ev.counterLost then (3, 3)
  else if x.counter < ev.counter then (2, 0) else (3, 2)

/-- Judge evidence at a position and keep it (R429, R430). -/
def judged (g : Gloesk) (p : Nat) (ev : Evidence) (verdict after : Nat) : Gloesk :=
  let v := g.judge p ev
  let old := (g.pos.due.find? (fun d => d.pos = p)).map (·.stand)
  let stand := worseStand (worseStand v.1 verdict) (old.getD 2)
  let g := g.onPosition p (fun x => { x with
    evCounter := ev.counter, evFp := ev.fp, counter := if v.1 = 2 then ev.counter else x.counter })
  let g := (g.iff (v.1 == 3) (·.inc F.SEC_ERRCNT_STRANGER)).iff (v.2 != 0) (·.tamper v.2)
  g.onPos (fun s => { s with due := s.due.filter (fun d => d.pos ≠ p) ++ [⟨p, stand, v.2, after⟩] })

/-- A link of the Gloesk takes the keys of an exchange (R428, R434): at once when it has none, else at a named stroke. -/
def takeKeys (g : Gloesk) (link : Nat) : Gloesk :=
  g.onTrust (fun p => if p.keyed.contains link then { p with remaster := without p.remaster link ++ [link] }
    else { p with keyed := p.keyed ++ [link], epochs := Tab.set 0 p.epochs link 0 })

/-- The link over which a position is attested: the hub's lane, or 64 for the Ligature link. -/
def linkOfPos (p : Nat) : Nat := if isHubPos p then laneOf (p / 256) (p % 256 - 0xC0) else 64

/-- Cell and plane: the fingerprint attested on that link (R12). -/
def linkId (g : Gloesk) (plane x : Nat) : Nat := Tab.get 0 g.pos.ids (plane * 8192 + x)

/-- Source 11: a cell with one attested link is single-homed until both links carry the same identity (R12). -/
def showHoming (g : Gloesk) (x : Nat) : Gloesk :=
  let p := g.linkId 0 x
  let q := g.linkId 1 x
  if (p == 0) != (q == 0) then g.raise 11 (.cell x)
  else g.iff (p == q && p != 0) (·.lower 11 (.cell x))

/-- The identity attested on one link of a cell (R12): two different ones are a cross-wiring. -/
def seeId (g : Gloesk) (plane x fp : Nat) : Gloesk :=
  let g := g.onPos (fun s => { s with ids := Tab.set 0 s.ids (plane * 8192 + x) fp })
  let p := g.linkId 0 x
  let q := g.linkId 1 x
  (g.showHoming x).level 10 (p != 0 && q != 0 && p != q) (.cell x)

/-- A cell is cross-wired. -/
def crossed (g : Gloesk) (x : Nat) : Bool :=
  g.linkId 0 x != 0 && g.linkId 1 x != 0 && g.linkId 0 x != g.linkId 1 x

/-- The evidence of a position and a verdict on it go to the partner (R429). -/
def sendEvidence (g : Gloesk) (p : Nat) (ev : Evidence) (verdict : Nat) : Gloesk :=
  g.ligature 0x26 ([(0x0A000000, 32), (p, 32), (0, 32)] ++ [(ev.fp, 128), (ev.counter, 32), (verdict, 32)])

/-- ATTEST_EVIDENCE: evidence of position `p` reaches its verifier, for a cell over the hub of plane `plane` (R428-R430).
Evidence that fails its own checks ends the exchange; the device's failure source is reported. -/
def attestEvidence (g : Gloesk) (p plane : Nat) (ev : Evidence) : Gloesk :=
  if !ev.genuine then
    let g := g.inc F.SEC_ERRCNT_ATTF
    if addrValid p then g.raise (384 + 24) (.cell p)
    else if isHubPos p then g.raise (256 + 14) (.hub (p / 256) (p % 256 - 0xC0)) else g
  else
    let cell := addrValid p
    let behindStranger := cell && (g.position (hubPos (p / 256) plane)).stand == 3
    if behindStranger then g
    else
      let g := if cell then g.seeId plane p ev.fp else (g.takeKeys (linkOfPos p)).iff (isHubPos p) (·.hubWaits (linkOfPos p))
      let own := (g.judge p ev).1
      let g := g.judged p ev (if cell && g.crossed p then 3 else 2) (g.time.bl + 2000000 * 2 ^ 32)
      g.iff g.inStep (·.sendEvidence p ev own)

/-- EVIDENCE_RECORD: evidence that the partner sent at Baseline time `sentAt` ns with its own verdict (R429). Evidence that
this twin has already judged only adds the partner's verdict; where this twin's own is the worse, it goes back (log entry
217). -/
def evidenceRecord (g : Gloesk) (p plane : Nat) (ev : Evidence) (verdict sentAt : Nat) : Gloesk :=
  let x := g.position p
  if x.evFp = ev.fp ∧ x.evCounter = ev.counter ∧ g.pos.due.any (fun d => d.pos = p) then
    g.onPos (fun s => { s with due := s.due.map (fun d => if d.pos = p then { d with stand := worseStand d.stand verdict } else d) })
  else
    let g := if addrValid p && ev.genuine then g.seeId plane p ev.fp else g
    let own := (g.judge p ev).1
    let g := g.iff (worseStand own verdict != verdict) (·.sendEvidence p ev own)
    g.judged p ev (if addrValid p && g.crossed p then 3 else verdict) ((sentAt + 2000000) * 2 ^ 32)

/-- ATTEST_RETRY: 100 ms after a failed exchange (R428). -/
def attestRetry (g : Gloesk) (p : Nat) : Gloesk := g.challenge p

/-- A standing takes effect (R429, R430). -/
def takeStanding (g : Gloesk) (d : StandingDue) : Gloesk :=
  let g := g.onPosition d.pos (fun x => { x with stand := d.stand, cause := if d.stand = 3 then d.cause else x.cause })
  let g := g.send .secure [d.pos, d.stand]
  if addrValid d.pos then
    let st := if d.stand = 2 then 1 else if d.stand = 3 then 2 else 0
    (g.onRank (fun r => { r with standing := Tab.set 0 r.standing d.pos st })).level 9 (d.stand == 3) (.cell d.pos)
  else if isHubPos d.pos then
    let h := d.pos / 256
    let plane := d.pos % 256 - 0xC0
    let g := (g.level 8 (d.stand == 3) (.hub h plane)).iff (d.stand == 2) (·.sendMapTo (laneOf h plane))
    if d.stand = 3 then
      g.each (g.ports (laneOf h plane)) (fun g c =>
        (g.onPos (fun s => { s with ids := Tab.set 0 s.ids (plane * 8192 + 256 * h + c) 0 })).showHoming (256 * h + c))
    else g
  else if d.stand = 3 then
    let g := (g.onTwin (fun t => { t with partClash := true })).raise 74
    if g.role = roleStandby then g.enterRole roleOut else g
  else if g.on F.TWN_STATUS_PART_MISMATCH then g
  else (g.onTwin (fun t => { t with partClash := false })).lower 74

/-- The standings whose time has come at an input set (R429). -/
def standingStep (g : Gloesk) : Gloesk :=
  let due := g.pos.due.filter (fun d => decide (d.after ≤ g.time.bl))
  let g := g.onPos (fun s => { s with due := s.due.filter (fun d => !(decide (d.after ≤ g.time.bl))) })
  due.foldl (fun (g : Gloesk) d => g.takeStanding d) g

/-- BLOTTER_BLOCK: a hub's source 6, a cell port without a valid message, ends the identity attested on that link (R12). -/
def blotterBlock (g : Gloesk) (rs : List BltRecord) : Gloesk :=
  (rs.filter recordValid).foldl (fun (g : Gloesk) r =>
    match r.who with
    | .port p q c =>
      if r.hub && r.src == 6 && r.cause then
        (g.onPos (fun s => { s with ids := Tab.set 0 s.ids (q * 8192 + 256 * p + c) 0 })).showHoming (256 * p + c)
      else g
    | _ => g) (g.mergeBlock rs)

/-- A hub lane that is down carries no attested identity (R12); a bound position whose links were both down becomes
pending when its first link is up again (R429). -/
def observeLinks (g : Gloesk) : Gloesk :=
  let up (l : Nat) : Bool := g.rd F.LAN_L_STAT_RXST l == 4
  let lost := g.pos.ids.filter (fun e => !(up (laneOf (e.1 % 8192 / 256) (e.1 / 8192))))
  let g := lost.foldl (fun (g : Gloesk) e =>
    (g.onPos (fun s => { s with ids := Tab.set 0 s.ids e.1 0 })).showHoming (e.1 % 8192)) g
  let back := g.pos.positions.filter (fun e => addrValid e.1 && e.2.stand == 2 && g.linkId 0 e.1 == 0 && g.linkId 1 e.1 == 0 &&
    (up (laneOf (e.1 / 256) 0) || up (laneOf (e.1 / 256) 1)))
  back.foldl (fun (g : Gloesk) e => g.posPending e.1) g

/-- ATTEST_CHALLENGE at the Gloesk, from its partner over the Ligature link (R428). -/
def attestChallenge (g : Gloesk) (certOk : Bool) : Gloesk :=
  if !certOk then g.tamper 1
  else if !g.trust.pufOk || g.trust.entropyBad then g
  else
    let g := g.onTrust (fun p => { p with counter := p.counter + 1 })
    (g.send .secure [64, g.fingerprint, g.trust.counter]).takeKeys 64

/-! ### Epochs, provisioning, debug, entropy (R420, R422, R434, R438) -/

/-- EPOCH_TIMER: the twin names a switch stroke for each of its keyed links; after epoch 255 the link is attested afresh
instead (R434). The stroke named is the earliest allowed, 64 ahead (DESIGN CHOICE, log entry 25). -/
def epochTimer (g : Gloesk) : Gloesk :=
  g.each g.trust.keyed (fun g l =>
    let e := Tab.get 0 g.trust.epochs l
    if 255 ≤ e ∧ !(g.trust.remaster.contains l) then g.challengeLink l
    else
      let k := strokeMod (g.stroke + 64)
      let e := if g.trust.remaster.contains l then 0 else e + 1
      (g.onTrust (fun p => { p with switches := p.switches.filter (fun s => s.1 ≠ l) ++ [(l, e, k)] })).send .secure [l, e, k])

/-- PROVISIONING_WRITE: the stream of slot 0 through SEC_PROV, in LCS BLANK only (R422). -/
def provision (g : Gloesk) (usage : Nat) : Gloesk :=
  if g.trust.lcs ≠ 0 then g
  else (g.onTrust (fun p => { p with lcs := 1, slots := p.slots.set 0 ⟨true, usage, false⟩ })).showTrust

/-- A debug session opens or a token is refused (R438). -/
def debugToken (g : Gloesk) (e : Envelope) (nonce perm : Nat) : Gloesk :=
  let code := g.trust.check g.fingerprint g.lockedSec false e
  let code := if code = 0 ∧ (e.typ ≠ 8 ∨ g.trust.drawn = 0 ∨ nonce ≠ g.trust.nonce) then 1 else code
  let g := g.verified e code
  if code ≠ 0 then g
  else ((g.onTrust (fun p => { p with session := some (perm % 16, e.expiry) })).showTrust.tamper 5).raise 7

/-- The session closes (R438). -/
def debugClose (g : Gloesk) : Gloesk :=
  if g.trust.session.isNone then g
  else (g.onTrust (fun p => { p with session := none })).showTrust.lower 7

/-- DEBUG_EXPIRY: the token's EXPIRY has passed (R438). -/
def debugExpiry (g : Gloesk) : Gloesk := g.debugClose

/-- The session closes when the part loses time lock (R438). -/
def debugWatch (g : Gloesk) : Gloesk := if g.timeLocked then g else g.debugClose

/-- DBGCHAL_READ: a new nonce; the read answers its first word and latches the rest (R439). -/
def dbgchalRead (g : Gloesk) (who : Nat) : Gloesk :=
  let n := Config.crypto 30 [0, g.trust.drawn] % 2 ^ 256
  let g := g.onTrust (fun p => { p with nonce := n, drawn := p.drawn + 1 })
  let rs := [R.SEC_DBGCHAL1, R.SEC_DBGCHAL2, R.SEC_DBGCHAL3, R.SEC_DBGCHAL4, R.SEC_DBGCHAL5, R.SEC_DBGCHAL6, R.SEC_DBGCHAL7]
  let g := (rs.zip (List.range 7)).foldl (fun (g : Gloesk) e => g.latch who e.1 (bits n (32 * (e.2 + 1)) 32)) g
  g.answer who [n % 2 ^ 32]

/-- POSDATA_READ: the position of SEC_POSADDR, the rest latched (R439). -/
def posdataRead (g : Gloesk) (who : Nat) : Gloesk :=
  let x := g.position (g.rd F.SEC_POSADDR_POS)
  let g := g.latch who R.SEC_POSDATA1 x.evCounter
  let rs := [R.SEC_POSDATA2, R.SEC_POSDATA3, R.SEC_POSDATA4, R.SEC_POSDATA5]
  let g := (rs.zip (List.range 4)).foldl (fun (g : Gloesk) e => g.latch who e.1 (bits x.evFp (32 * e.2) 32)) g
  g.answer who [x.stand + 256 * x.cause]

/-- ENTROPY_FAILURE (R420). -/
def entropyFailure (g : Gloesk) : Gloesk :=
  ((g.onTrust (fun p => { p with entropyBad := true })).up F.SEC_STATUS_ENTROPY).raise 6

end Gloesk

/-- The switches of a part's links whose stroke has come (R434). -/
def PartSec.switch (p : PartSec) (k : Nat) : PartSec :=
  let now := p.switches.filter (fun s => decide (strokeDiff s.2.2 k ≥ 0))
  let links := now.map (·.1)
  { p with
    epochs := now.foldl (fun t s => Tab.set 0 t s.1 s.2.1) p.epochs
    remaster := p.remaster.filter (fun l => !(links.contains l))
    switches := p.switches.filter (fun s => !(decide (strokeDiff s.2.2 k ≥ 0))) }

/-- A stroke number whose low 32 bits are given, at or after stroke `k` (R434, R440). -/
def strokeOfLow (k lo : Nat) : Nat := strokeMod (k + (lo + 2 ^ 32 - k % 2 ^ 32) % 2 ^ 32)

namespace Stanak

def onTrust (h : Stanak) (f : PartSec → PartSec) : Stanak := { h with trust := f h.trust }
def fingerprint (_ : Stanak) : Nat := (Config.fingerprint 1).toNat

/-- Baseline seconds while its time base is locked; `T` is the stroke period. -/
def lockedSec (h : Stanak) (T : Nat) : Option Nat := if h.follow.locked then some (h.stroke * T / 1000000000) else none

/-- The SEC registers of R440 show the part's security state. -/
def showTrust (h : Stanak) : Stanak :=
  let fp := if h.trust.pufOk then h.fingerprint else 0
  let h := (h.wr F.HSEC_ATT_LCS h.trust.lcs).wr F.HSEC_DBGCTL_PERM ((h.trust.session.map (·.1)).getD 0)
  h.each (List.range 4) (fun h w => h.wr F.HSEC_ID_FP (fp / 2 ^ (32 * w)) w)

/-- The outcome of a verification (R424). -/
def verified (h : Stanak) (e : Envelope) (code : Nat) : Stanak :=
  let h := h.wr F.HSEC_VSTAT_CODE code
  if code = 0 then h.onTrust (fun p => p.accept e)
  else
    let h := h.raise 14
    if code = 3 ∨ code = 4 ∨ code = 5 ∨ code = 7 then h.tamper 6 else h

/-- The keys of an exchange on a link: uplinks 0 and 1, cell ports from 2 (R428). -/
def takeKeys (h : Stanak) (link : Nat) : Stanak :=
  h.onTrust (fun p => if p.keyed.contains link then { p with remaster := without p.remaster link ++ [link] }
    else { p with keyed := p.keyed ++ [link], epochs := Tab.set 0 p.epochs link 0 })

/-- ATTEST_CHALLENGE on an uplink (R428). -/
def attestChallenge (h : Stanak) (u : Nat) (certOk : Bool) : Stanak :=
  if !certOk then h.tamper 1
  else if !h.trust.pufOk || h.trust.entropyBad then h.raise 14
  else
    let h := h.onTrust (fun p => { p with counter := p.counter + 1 })
    (h.send .secure [u, h.fingerprint, h.trust.counter]).takeKeys u

/-- The hub verifies a cell's evidence on port `c` and passes it to the twin whose claim it has accepted (R428). A different
identity at the port is source 11. The twin hears of evidence that fails its checks too, but no keys follow from it. -/
def attestEvidence (h : Stanak) (c : Nat) (ev : Evidence) (other : Bool) : Stanak :=
  let h := if other then h.raiseAt 11 c else h.lower 11
  (h.iff ev.genuine (·.takeKeys (2 + c))).send .secure [c, ev.fp, ev.counter, ev.counterLost.toNat, ev.genuine.toNat]

/-- ATTEST_RETRY of a cell's exchange. -/
def attestRetry (h : Stanak) (c : Nat) : Stanak := h.send .secure [2 + c, 0]

/-- EPOCH_TIMER of the hub's cell links (R434). -/
def epochTimer (h : Stanak) : Stanak :=
  h.each (h.trust.keyed.filter (fun l => 2 ≤ l)) (fun h l =>
    let e := Tab.get 0 h.trust.epochs l
    if 255 ≤ e ∧ !(h.trust.remaster.contains l) then h.send .secure [l, 0]
    else
      let k := strokeMod (h.stroke + 64)
      let e := if h.trust.remaster.contains l then 0 else e + 1
      (h.onTrust (fun p => { p with switches := p.switches.filter (fun s => s.1 ≠ l) ++ [(l, e, k)] })).send .secure [l, e, k])

/-- A write of SEC_EPOCH by the verifier names the switch of its link (R434, R440). -/
def epochWrite (h : Stanak) (link e : Nat) : Stanak :=
  let k := strokeOfLow h.stroke (h.rd F.HSEC_EPOCHS_STK)
  (h.wr F.HSEC_EPOCH_E e).onTrust (fun p => { p with switches := p.switches.filter (fun s => s.1 ≠ link) ++ [(link, e % 256, k)] })

/-- The session closes (R438). -/
def debugClose (h : Stanak) : Stanak := (h.onTrust (fun p => { p with session := none })).showTrust

/-- The session closes when the part loses time lock. -/
def debugWatch (h : Stanak) : Stanak := if h.follow.locked then h else h.debugClose

/-- An object streamed through the SEC window (R379, R422, R438): settings are those of its Blotter sources. -/
def deliver (h : Stanak) (T : Nat) (e : Envelope) (d : Delivery) : Stanak :=
  let code := h.trust.check h.fingerprint (h.lockedSec T) false e
  match d with
  | .token nonce perm =>
    let code := if code = 0 ∧ (e.typ ≠ 8 ∨ h.trust.drawn = 0 ∨ nonce ≠ h.trust.nonce) then 1 else code
    let h := h.verified e code
    if code ≠ 0 then h
    else ((h.onTrust (fun p => { p with session := some (perm % 16, e.expiry) })).showTrust).tamper 5
  | .keys op =>
    let code := if code = 0 ∧ e.typ ≠ 9 then 1 else if code = 0 then (h.trust.keyOp op).2 else code
    let h := h.verified e code
    if code ≠ 0 then h else (h.onTrust (fun p => (p.keyOp op).1)).showTrust
  | .settings l =>
    let code := h.trust.check h.fingerprint (h.lockedSec T) true e
    let code := if code = 0 ∧ e.typ ≠ 4 then 1 else code
    let h := h.verified e code
    if code ≠ 0 then h
    else { h with regs := l.foldl (fun rf x => match R.HBLT_SRC_CFG.index x.1 with
      | some n => (rf.setFld F.HBLT_SRC_CFG_EN x.2 n).setFld F.HBLT_SRC_CFG_CLASS (x.2 / 2) n
      | none => rf) h.regs }

/-- A read of the debug nonce (R438). -/
def newNonce (h : Stanak) : Stanak :=
  h.onTrust (fun p => { p with nonce := Config.crypto 30 [1, p.drawn] % 2 ^ 256, drawn := p.drawn + 1 })

def provision (h : Stanak) (usage : Nat) : Stanak :=
  if h.trust.lcs ≠ 0 then h
  else (h.onTrust (fun p => { p with lcs := 1, slots := p.slots.set 0 ⟨true, usage, false⟩ })).showTrust

/-- ENTROPY_FAILURE: its attestations fail (R420). -/
def entropyFailure (h : Stanak) : Stanak := h.onTrust (fun p => { p with entropyBad := true })

end Stanak

namespace Ihloon

def onTrust (c : Ihloon) (f : PartSec → PartSec) : Ihloon := { c with trust := f c.trust }
def fingerprint (_ : Ihloon) : Nat := (Config.fingerprint 2).toNat
def lockedSec (c : Ihloon) (T : Nat) : Option Nat := if c.follow.locked then some (c.stroke * T / 1000000000) else none

/-- The SEC registers of R440. -/
def showTrust (c : Ihloon) : Ihloon :=
  let fp := if c.trust.pufOk then c.fingerprint else 0
  let c := (c.wr F.CSEC_ATT_LCS c.trust.lcs).wr F.CSEC_DBGCTL_PERM ((c.trust.session.map (·.1)).getD 0)
  c.each (List.range 4) (fun c w => c.wr F.CSEC_ID_FP (fp / 2 ^ (32 * w)) w)

/-- The outcome of a verification (R424). -/
def verified (c : Ihloon) (e : Envelope) (code : Nat) : Ihloon :=
  let c := c.wr F.CSEC_VSTAT_CODE code
  if code = 0 then c.onTrust (fun p => p.accept e)
  else
    let c := c.raise 24
    if code = 3 ∨ code = 4 ∨ code = 5 ∨ code = 7 then c.tamper 6 else c

/-- ATTEST_CHALLENGE on a link (R428): the counter increments, the evidence goes out, the exchange is complete. -/
def attestChallenge (c : Ihloon) (p : Nat) (certOk : Bool) : Ihloon :=
  if !c.mainRuns || c.rd F.LNK_LK_STAT_RXST p != 3 then c
  else if !certOk then c.tamper 1
  else if !c.trust.pufOk || c.trust.entropyBad then c.raise 24
  else
    let c := (c.onKeep (fun k => { k with counter := (k.counter + 1) % 2 ^ 32 })).showKeeper
    let c := c.send .secure [p, c.fingerprint, c.cell.keep.counter, c.cell.keep.counterLost.toNat]
    let c := c.onTrust (fun t => if t.keyed.contains p then { t with remaster := without t.remaster p ++ [p] }
      else { t with keyed := t.keyed ++ [p], epochs := Tab.set 0 t.epochs p 0 })
    (c.onRsv (fun r => { r with attested := true })).advance

/-- The verdict written to SEC_ATT (R429). -/
def verdict (c : Ihloon) (stand : Nat) : Ihloon := (c.wr F.CSEC_ATT_STAND stand).advance

/-- A write of SEC_EPOCH by the hub names the switch of its link. -/
def epochWrite (c : Ihloon) (link e : Nat) : Ihloon :=
  let k := strokeOfLow c.stroke (c.rd F.CSEC_EPOCHS_STK)
  (c.wr F.CSEC_EPOCH_E e).onTrust (fun p => { p with switches := p.switches.filter (fun s => s.1 ≠ link) ++ [(link, e % 256, k)] })

def debugClose (c : Ihloon) : Ihloon := (c.onTrust (fun p => { p with session := none })).showTrust
def debugWatch (c : Ihloon) : Ihloon := if c.follow.locked then c else c.debugClose

/-- A cell settings record holds a signed field (R426): a host record may not. -/
def protects (l : List (Nat × Nat)) : Bool :=
  l.any (fun e => (fieldsAt FieldList.ihloon e.1).any (fun d => d.1.kind == .signed))

/-- An object streamed through the SEC window (R422, R426, R438): a cell settings record is stored in both banks and takes
effect at a boundary (R214). -/
def deliver (c : Ihloon) (T : Nat) (e : Envelope) (d : Delivery) : Ihloon :=
  match d with
  | .settings l =>
    let code := c.trust.check c.fingerprint (c.lockedSec T) (protects l) e
    let code := if code = 0 ∧ (e.typ ≠ 5 ∨ recordLegal l = false) then 1 else code
    let c := c.verified e code
    if code ≠ 0 then c
    else
      let c := (c.onFw (fun f => { f with settings := some (e.seq, l) })).onCell (fun s => { s with signed := s.signed ++ l })
      c.onTrust (fun p => { p with station := some e.station })
  | .token nonce perm =>
    let code := c.trust.check c.fingerprint (c.lockedSec T) false e
    let code := if code = 0 ∧ (e.typ ≠ 8 ∨ c.trust.drawn = 0 ∨ nonce ≠ c.trust.nonce) then 1 else code
    let c := c.verified e code
    if code ≠ 0 then c
    else ((c.onTrust (fun p => { p with session := some (perm % 16, e.expiry) })).showTrust).tamper 5
  | .keys op =>
    let code := c.trust.check c.fingerprint (c.lockedSec T) false e
    let code := if code = 0 ∧ e.typ ≠ 9 then 1 else if code = 0 then (c.trust.keyOp op).2 else code
    let c := c.verified e code
    if code ≠ 0 then c else (c.onTrust (fun p => (p.keyOp op).1)).showTrust

/-- A read of the debug nonce (R438). -/
def newNonce (c : Ihloon) : Ihloon :=
  c.onTrust (fun p => { p with nonce := Config.crypto 30 [2, p.drawn] % 2 ^ 256, drawn := p.drawn + 1 })

def provision (c : Ihloon) (usage : Nat) : Ihloon :=
  if c.trust.lcs ≠ 0 then c
  else (c.onTrust (fun p => { p with lcs := 1, slots := p.slots.set 0 ⟨true, usage, false⟩ })).showTrust

def entropyFailure (c : Ihloon) : Ihloon := c.onTrust (fun p => { p with entropyBad := true })

/-- FW_VERIFY_DONE: the check of the idle image ends (R255, R424, R425). -/
def fwVerifyDone (c : Ihloon) (e : Envelope) : Ihloon :=
  if !c.cell.fw.verifying then c
  else
    let c := c.onFw (fun f => { f with verifying := false })
    let code := c.trust.check c.fingerprint none false e
    let code := if code = 0 ∧ e.typ ≠ 3 then 1 else if code = 0 ∧ nextBlock c.cell.fw ≠ 32768 then 5 else code
    let c := c.verified e code
    if code ≠ 0 then c
    else (c.up F.RSV_FWSTAT_VERIFIED).onFw (fun f => { f with svn := e.svn, adv := e.adv })

end Ihloon

end Sys2Proof.Machine
end

