-- ==== Sys2Proof/Machine/Records.lean ====
section
/-!
DEFINITION. Staged records (R53): shadow, commit, exchange, application at the target stroke, for the eight blocks that stage;
the start and the stop of the stroke cycle (R186); the commit of a bundle (R353).
-/

namespace Sys2Proof.Machine

/-- SW_PEND, SW_MISMATCH and SW_LATE of a block; SVI has no such bits. -/
def Blk.pend : Blk → Option Fld
  | .svi => none
  | .rul => F.RUL_STATUS_SW_PEND | .lpe => F.LPE_STATUS_SW_PEND | .rnk => F.RNK_STATUS_SW_PEND | .stk => F.STK_STATUS_SW_PEND
  | .twn => F.TWN_STATUS_SW_PEND | .blt => F.BLT_STATUS_SW_PEND | .aq => F.AQ_STATUS_SW_PEND | .ink => F.INK_STATUS_SW_PEND
def Blk.mismatch : Blk → Option Fld
  | .svi => none
  | .rul => F.RUL_STATUS_SW_MISMATCH | .lpe => F.LPE_STATUS_SW_MISMATCH | .rnk => F.RNK_STATUS_SW_MISMATCH
  | .stk => F.STK_STATUS_SW_MISMATCH | .twn => F.TWN_STATUS_SW_MISMATCH | .blt => F.BLT_STATUS_SW_MISMATCH
  | .aq => F.AQ_STATUS_SW_MISMATCH | .ink => F.INK_STATUS_SW_MISMATCH
def Blk.late : Blk → Option Fld
  | .svi => none
  | .rul => F.RUL_STATUS_SW_LATE | .lpe => F.LPE_STATUS_SW_LATE | .rnk => F.RNK_STATUS_SW_LATE | .stk => F.STK_STATUS_SW_LATE
  | .twn => F.TWN_STATUS_SW_LATE | .blt => F.BLT_STATUS_SW_LATE | .aq => F.AQ_STATUS_SW_LATE | .ink => F.INK_STATUS_SW_LATE

/-- SW_STROKE0 and SW_STROKE1 of a block; SVI has none. -/
def Blk.lo : Blk → Option Fld
  | .svi => none
  | .rul => F.RUL_SW_STROKE0_TGT_LO | .lpe => F.LPE_SW_STROKE0_TGT_LO | .rnk => F.RNK_SW_STROKE0_TGT_LO
  | .stk => F.STK_SW_STROKE0_TGT_LO | .twn => F.TWN_SW_STROKE0_TGT_LO | .blt => F.BLT_SW_STROKE0_TGT_LO
  | .aq => F.AQ_SW_STROKE0_TGT_LO | .ink => F.INK_SW_STROKE0_TGT_LO
def Blk.hi : Blk → Option Fld
  | .svi => none
  | .rul => F.RUL_SW_STROKE1_TGT_HI | .lpe => F.LPE_SW_STROKE1_TGT_HI | .rnk => F.RNK_SW_STROKE1_TGT_HI
  | .stk => F.STK_SW_STROKE1_TGT_HI | .twn => F.TWN_SW_STROKE1_TGT_HI | .blt => F.BLT_SW_STROKE1_TGT_HI
  | .aq => F.AQ_SW_STROKE1_TGT_HI | .ink => F.INK_SW_STROKE1_TGT_HI

/-- The blocks by number. -/
def Blk.all : List Blk := [.rul, .lpe, .rnk, .stk, .twn, .blt, .aq, .ink, .svi]

namespace Gloesk

/-- Read and write a field that a block may lack. -/
def rdIf (g : Gloesk) (f : Option Fld) : Nat := (f.map (fun f => g.rd f)).getD 0
def wrIf (g : Gloesk) (f : Option Fld) (v : Nat) : Gloesk :=
  match f with
  | some f => g.wr f v
  | none => g

/-- The staging of a block. -/
def stagedOf (g : Gloesk) (b : Blk) : Staged := Tab.get Staged.reset g.staged b.idx

/-- Change the staging of a block; SW_PEND and the queue counts follow. -/
def onStaged (g : Gloesk) (b : Blk) (f : Staged → Staged) : Gloesk :=
  let s := f (g.stagedOf b)
  let count (a : Nat) : Nat := (s.shadow.filter (fun w => w.1 = a)).length
  let g : Gloesk := { g with staged := Tab.set Staged.reset g.staged b.idx s }
  let g := g.wrIf b.pend (if s.pending.isEmpty then 0 else 1)
  match b with
  | .lpe => (g.wr F.LPE_QCNT_OPS (count R.LPE_OPCMD.addr)).wr F.LPE_QCNT_CWR (count R.LPE_CWVAL.addr)
  | .rnk => g.wr F.RNK_QCNT_HO (count R.RNK_HOCMD.addr)
  | .blt => g.wr F.BLT_QCNT_CREL (count R.BLT_CREL.addr)
  | .ink => g.wr F.INK_QCNT_RSZ (count R.INK_RESIZE.addr)
  | _ => g

/-- Forget the bundle slots that discarded TWN records name (R353). -/
def dropPend (g : Gloesk) (rs : List StagedRec) : Gloesk :=
  let digests := rs.flatMap (fun r => (r.writes.filter (fun w => w.1 = R.TWN_BUNDLE.addr)).map (·.2))
  let g := g.onPos (fun s => { s with pend := s.pend.filter (fun e => !(digests.contains e.2)) })
  g.wr F.SEC_LDSTAT_PEND (g.pos.pend.foldl (fun m e => setBit m e.1 true) 0)

/-- The writes of one record of a block take effect, in order. -/
def recordApply (g : Gloesk) (b : Blk) (ws : List (Nat × Nat)) : Gloesk :=
  let fold (f : Gloesk → Nat → Nat → Gloesk) : Gloesk := ws.foldl (fun (g : Gloesk) w => f g w.1 w.2) g
  match b with
  | .rul => fold rulApply
  | .lpe => g.lpeApply g.running ws
  | .rnk => fold rnkApply
  | .stk => g
  | .twn => fold (fun g a v =>
      if a = R.TWN_BUNDLE.addr then
        match g.pos.pend.find? (fun e => e.2 = v) with
        | some e => (g.wr F.TWN_BUNDLE_SLOT e.1).bundleApply e.1
        | none => g
      else if bit v 0 then g.hoHost else g)
  | .blt => fold bltApply
  | .aq => fold aqApply
  | .ink => g.resizeApply g.usedGranules ws
  | .svi => fold (fun g a _ =>
      match R.SVI_GP_TRIG.index a with
      | some n => g.pubNew n
      | none => g)

/-! ### The shadow (R53 items 1 and 8) -/

/-- A write that joins the shadow set even while the stroke cycle is stopped (R53 item 8). -/
def alwaysStaged (b : Blk) (a v : Nat) : Bool :=
  b == .ink || (b == .twn && (a == R.TWN_BUNDLE.addr || bit v 7)) || b == .stk

/-- A full record refuses a further command (R120, R162, R319, R367). -/
def stagedFull (g : Gloesk) (b : Blk) (a : Nat) : Bool :=
  let n := ((g.stagedOf b).shadow.filter (fun w => w.1 = a)).length
  (b == .lpe && (a == R.LPE_OPCMD.addr || a == R.LPE_CWVAL.addr) && decide (64 ≤ n)) ||
  (b == .rnk && a == R.RNK_HOCMD.addr && decide (64 ≤ n)) || (b == .blt && a == R.BLT_CREL.addr && decide (64 ≤ n)) ||
  (b == .ink && decide (16 ≤ n))

/-- What a refused command shows. -/
def stagedRefuse (g : Gloesk) (b : Blk) : Gloesk :=
  match b with
  | .lpe => (g.up F.LPE_STATUS_QFULL).inc F.LPE_ERRCNT_QFULL
  | .rnk => (g.up F.RNK_STATUS_QFULL).inc F.RNK_ERRCNT_QFULL
  | .blt => g.inc F.BLT_ERRCNT_RELREJ
  | .ink => g.inc F.INK_ERRCNT1_RSZREJ
  | _ => g

/-- A record is committed for `target` (R53 items 2 and 3). -/
def commitFor (g : Gloesk) (b : Blk) (target : Nat) (ws : List (Nat × Nat)) : Gloesk :=
  let d := (target + 2 ^ 48 - g.stroke % 2 ^ 48) % 2 ^ 48
  if d < 16 ∨ 2 ^ 47 ≤ d then (g.wrIf b.late 1).msix 7
  else g.onStaged b (fun s => { s with pending := s.pending ++ [⟨target, ws, false, false⟩] })

/-- The target in a block's SW_STROKE registers. -/
def target (g : Gloesk) (b : Blk) : Nat := g.rdIf b.hi * 2 ^ 32 + g.rdIf b.lo

/-- A write to a staged field or a command that joins the shadow set (R53 items 1 and 8). RUL_ENCn_CFG.ENCO_EN acts at
once. A START or STOP commits for the target in the STK registers (R186). -/
def stagedWrite (g : Gloesk) (b : Blk) (a v : Nat) : Gloesk :=
  let g : Gloesk := if a = R.RUL_ENC_CFG.addr then g.wr F.RUL_ENC_CFG_ENCO_EN (bits v 10 1) 0
    else if a = R.RUL_ENC_CFG.at 1 then g.wr F.RUL_ENC_CFG_ENCO_EN (bits v 10 1) 1 else g
  if b = .stk then g.commitFor .stk (g.target .stk) [(a, v % 4)]
  else if b = .rul ∧ rulRejects a v = true then g.inc F.RUL_ERRCNT_REJ
  else if !g.running && !(alwaysStaged b a v) then
    if b = .twn ∧ a = R.TWN_CTRL.addr ∧ bit v 0 = true then g.hoReject
    else
      match armAt R.RNK_ARM_CTRL a with
      | some n => if b = .rnk ∧ bit v 0 = false ∧ g.on F.RNK_ARM_CTRL_BLK n then g.inc F.RNK_ERRCNT_WREJ else g.recordApply b [(a, v)]
      | none => g.recordApply b [(a, v)]
  else if g.stagedFull b a then g.stagedRefuse b
  else g.onStaged b (fun s => { s with shadow := s.shadow ++ [(a, v)] })

/-- RECORD_COMMIT: a write of a block's SW_STROKE0 (R53 item 2). In the TWN block a bundle's commit carries the digest of
the object in the slot named (R353). -/
def recordCommit (g : Gloesk) (b : Blk) (lo : Nat) : Gloesk :=
  let g := g.wrIf b.lo lo
  let ws := (g.stagedOf b).shadow
  if b = .stk ∨ b = .svi then g
  else if !g.running && b != .twn && b != .ink then g
  else
    let g := g.onStaged b (fun s => { s with shadow := [] })
    let bundle := ws.any (fun w => w.1 = R.TWN_CTRL.addr ∧ bit w.2 7 = true)
    if b = .twn ∧ bundle = true then
      let slot := ((ws.filter (fun w => w.1 = R.TWN_BUNDLE.addr)).getLast?.map (·.2)).getD (g.rd F.TWN_BUNDLE_SLOT) % 4
      let digest := ((g.pos.objects.find? (fun e => e.1 = slot)).map (·.2.digest)).getD 0
      let rest := (ws.filter (fun w => w.1 = R.TWN_CTRL.addr ∧ bit w.2 0 = true)).map (fun w => (w.1, w.2 % 2))
      let g := (g.onPos (fun s => { s with pend := s.pend.filter (fun e => e.1 ≠ slot) ++ [(slot, digest)] })).wrBit F.SEC_LDSTAT_PEND slot true
      let g' := g.commitFor b (g.target b) (rest ++ [(R.TWN_BUNDLE.addr, digest)])
      if (g'.stagedOf b).pending.length = (g.stagedOf b).pending.length then g'.dropPend [⟨0, [(R.TWN_BUNDLE.addr, digest)], false, false⟩]
      else g'
    else g.commitFor b (g.target b) ws

/-- RECORD_CANCEL: SW_CANCEL discards the records that have not been exchanged (R53 item 7). -/
def recordCancel (g : Gloesk) (b : Blk) : Gloesk :=
  let gone := (g.stagedOf b).pending.filter (fun r => !r.exchanged)
  (g.onStaged b (fun s => { s with pending := s.pending.filter (·.exchanged) })).dropPend gone

/-- GOOSE_TRIG: a write of SVI_GPn_TRIG by Quill firmware (R84, R97): at once while the stroke cycle is stopped, else as a record
for the earliest stroke that R53 admits, 16 ahead, which is the agreed stroke of this write (DEDUCED, log entry 49). -/
def gooseTrig (g : Gloesk) (n : Nat) : Gloesk :=
  if g.pubSrc n ≠ 1 then g
  else if g.running then g.commitFor .svi (strokeMod (g.stroke + 16)) [(R.SVI_GP_TRIG.at n, 1)]
  else g.pubNew n

/-- BUNDLE_COMMIT: TWN_BUNDLE.SLOT and TWN_CTRL.BUNDLE are written and committed (R353). -/
def bundleCommit (g : Gloesk) (slot lo : Nat) : Gloesk :=
  ((g.stagedWrite .twn R.TWN_BUNDLE.addr slot).stagedWrite .twn R.TWN_CTRL.addr 128).recordCommit .twn lo

/-! ### The exchange (R53 item 5) -/

/-- Whether the servo state permits a start (R37). -/
def servoStarts (g : Gloesk) : Bool :=
  g.servoState == stLocked || g.servoState == stHoldover || g.servoState == stFollow ||
    (g.servoState == stFree && g.on F.PTP_CTRL_FREERUN_OK)

/-- The active bundle's facts for settings verification: dead time plus minimum pulse by arm, the smallest HOLD, and the
GOOSE subscriptions that name a nested structure. -/
def activeFacts (g : Gloesk) : List (Nat × Nat) × Option Nat × List Nat :=
  match g.pos.objects.find? (fun o => some o.2.digest == g.pos.active) with
  | some (_, ⟨_, _, .settings b⟩) => (b.cellMin, b.minHold, b.nested)
  | _ => ([], none, [])

/-- The checks of R186 at SB(s0 - 1). -/
def startChecks (g : Gloesk) : Bool :=
  let facts := g.activeFacts
  g.servoStarts && g.chainOk && g.settingsOk facts.1 facts.2.1 facts.2.2 && g.on F.INK_STATUS_LOCKED &&
    (g.role != roleStarting || g.observed)

/-- A STK record carries a start. -/
def starts (r : StagedRec) : Bool := r.writes.any (fun w => bit w.2 0)

/-- The exchange in the stroke before the target: every pending record goes to the partner; a start takes its verdict. -/
def exchangeRecords (g : Gloesk) (k : Nat) : Gloesk :=
  let next := strokeMod (k + 1)
  Blk.all.foldl (fun (g : Gloesk) b =>
    let due := (g.stagedOf b).pending.filter (fun r => r.target = next)
    if due.isEmpty then g
    else
      let ok := g.startChecks
      let g := due.foldl (fun (g : Gloesk) r =>
        if g.inStep || (b == .stk && g.heardLately) then
          g.sendRecord b.idx next (r.writes ++ (if b = .stk then [(R.STK_STATUS.addr, ok.toNat)] else [])) else g) g
      g.onStaged b (fun s => { s with
        pending := s.pending.map (fun r => if r.target = next then { r with exchanged := true, verdict := ok } else r) })) g

/-- RECORD_RECEIVED: a record of the partner arrives, for a start with its verdict. A handover that the partner's hardware
committed is adopted (R344). -/
def recordReceived (g : Gloesk) (b : Blk) (target : Nat) (ws : List (Nat × Nat)) (verdict : Bool) : Gloesk :=
  if b = .twn ∧ ws = [(R.TWN_CTRL.addr, 1)] ∧ 8 ≤ strokeDiff g.stroke target ∧
      (g.stagedOf .twn).pending.any (fun r => r.target = target) = false then
    g.hoOrder target (g.role == roleStandby) false
  else g.onStaged b (fun s => { s with
    partner := s.partner.filter (fun r => r.target ≠ target) ++ [⟨target, ws, true, verdict⟩] })

/-! ### The target -/

/-- The stroke cycle starts or is refused at SB(s0) (R186). -/
def startAt (g : Gloesk) (k : Nat) (r : StagedRec) (peer : Option StagedRec) : Gloesk :=
  if g.running then (g.up F.STK_STATUS_START_REJ).msix 7
  else
    let heard := g.heardLately
    let peerOk := (peer.map (fun p => p.verdict && p.writes == r.writes)).getD false
    if r.verdict && (!heard || peerOk) then
      let g : Gloesk := { (g.up F.STK_STATUS_RUN) with disp := { g.disp with first := some k, stop := none } }
      ((((g.loopCycleStart).flrCycleStart).rankCycleStart).startRoles k).lower 88
    else
      let g := ((g.up F.STK_STATUS_START_REJ).iff r.verdict (·.up F.STK_STATUS_PEER_REJ)).raise 88
      g.msix 7

/-- The stroke cycle stops at SB(s1): input set s1 - 1 is the last, pending records are discarded, every arm is blocked (R120, R158, R186). -/
def stopAt (g : Gloesk) (k : Nat) : Gloesk :=
  if !g.running then g
  else
    let g : Gloesk := { (g.down F.STK_STATUS_RUN) with disp := { g.disp with stop := some k } }
    let g := Blk.all.foldl (fun (g : Gloesk) b =>
      let gone := (g.stagedOf b).pending
      (g.onStaged b (fun s => { s with pending := [], shadow := [] })).dropPend gone) g
    (g.blockAll).folioStop

/-- The records of a block whose target is stroke `k` take effect, or meet a mismatch (R53 items 5 and 6). -/
def recordsDue (g : Gloesk) (k : Nat) (b : Blk) : Gloesk :=
  let own := (g.stagedOf b).pending.filter (fun r => r.target = k)
  let peer := (g.stagedOf b).partner.filter (fun r => r.target = k)
  if own.isEmpty && peer.isEmpty then g
  else
    let g := g.onStaged b (fun s => { s with
      pending := s.pending.filter (fun r => r.target ≠ k), partner := s.partner.filter (fun r => r.target ≠ k) })
    let start := own.find? starts
    match (if b = .stk then start else none) with
    | some r => g.startAt k r peer.head?
    | none =>
      let ws := own.flatMap (·.writes)
      let same := ws == peer.flatMap (·.writes)
      if g.inStep && !same then ((g.wrIf b.mismatch 1).msix 7).dropPend own
      else if b = .stk then (if own.isEmpty then g else g.stopAt k)
      else own.foldl (fun (g : Gloesk) r => g.recordApply b r.writes) g

end Gloesk

end Sys2Proof.Machine
end

