-- ==== Sys2Proof/Machine/Host.lean ====
section
/-!
DEFINITION. The host endpoint (R441-R453): endpoint reset and link, hub windows, the data port, MSI-X.
-/

namespace Sys2Proof.Machine

namespace Gloesk

def onHst (g : Gloesk) (f : HostState → HostState) : Gloesk := { g with hst := f g.hst }

/-! ### Endpoint and link (R442) -/

/-- The requests of the host are dropped; what the hubs still answer is discarded. -/
def dropHost (g : Gloesk) : Gloesk :=
  g.onHst (fun s => { s with
    windows := (s.windows.map (fun w => (w.1, w.2.filter (fun r => r.who ≠ 0)))).filter (fun w => !w.2.isEmpty) })

/-- PCIE_LINK_DOWN: the link leaves L0. -/
def linkLost (g : Gloesk) : Gloesk := ((g.dropHost).onHst (fun s => { s with linkUp := false })).raise 4

/-- PCIE_LINK_UP with the negotiated width and speed. -/
def linkTrained (g : Gloesk) (width speed : Nat) : Gloesk :=
  (((g.onHst (fun s => { s with linkUp := true })).wr F.HST_STATUS_WIDTH width).wr F.HST_STATUS_SPEED speed).lower 4

/-- ENDPOINT_RESET: PERST_N (`perst`, which takes the link down), a Function Level Reset or D3hot reset the endpoint alone. -/
def endpointReset (g : Gloesk) (perst : Bool) : Gloesk :=
  let up := g.hst.linkUp && !perst
  let shed := g.rd F.HST_STATUS_SHED
  let g := g.dropHost
  let windows := g.hst.windows
  let g : Gloesk := { g with
    regs := g.regs.filter (fun e => !(decide (e.1 < 0x10000))), hst := { HostState.reset with windows := windows, tid := g.hst.tid, linkUp := up } }
  let g := (g.wr F.HST_STATUS_SHED shed).iff g.small (·.wr F.HST_ID_DEVID 0x9632)
  if perst then g.raise 4 else g

/-! ### Hub windows (R445-R447) -/

/-- The end of a Quill's access to a hub window, with its code in ISTAT (R261, R278): a load finds the word in its register.
Only the access that the core still waits for ends its stall. -/
def endStall (g : Gloesk) (r : HubReq) (code v : Nat) : Gloesk :=
  let q := r.who - 1
  let k := Tab.get Core.reset g.cores q
  if k.stall ≠ some r.tid then g
  else
    let k := if r.isRead then k.setReg r.dest v else k
    { g with cores := Tab.set Core.reset g.cores q { k with stall := none, istat := code } }

/-- A requester receives the words of a read: the host as a completion, a Quill in the register that waits. -/
def completeRead (g : Gloesk) (r : HubReq) (code : Nat) (ws : List Nat) : Gloesk :=
  if r.who = 0 then g.send .pcie (0 :: ws) else g.endStall r code (ws.head?.getD 0)

/-- A store of a Quill into a window is acknowledged or discarded. -/
def completeWrite (g : Gloesk) (r : HubReq) (code : Nat) : Gloesk := if r.who = 0 then g else g.endStall r code 0

/-- A failed request: all ones for a read, and the record of R447. -/
def hubFail (g : Gloesk) (n code : Nat) (r : HubReq) : Gloesk :=
  let g := if r.isRead then g.completeRead r code (List.replicate r.count 0xFFFFFFFF) else g.completeWrite r code
  let g : Gloesk := if g.on F.HST_HERR_VALID then g else
    ((g.wr F.HST_HERR_CODE code).wr F.HST_HERR_WIN n).up F.HST_HERR_VALID |>.wr F.HST_HERRADDR_OFS r.ofs
  (g.inc F.HST_HCNT_CNT).msix 3

/-- The requests that a window holds. -/
def window (g : Gloesk) (n : Nat) : List HubReq := Tab.get [] g.hst.windows n

/-- The standing of the hub at a lane. -/
def hubBound (g : Gloesk) (n : Nat) : Bool := (g.position (hubPos (n % 32) (n / 32))).stand == 2

/-- What keeps a request from being sent: codes 5, 7, 9 and 6 (R446, R447). -/
def hubRefusal (g : Gloesk) (n ofs count : Nat) (shapeOk : Bool) : Option Nat :=
  if !shapeOk || count = 0 || decide (8 < count) then some 5
  else if !(g.listed n) || g.rd F.LAN_L_STAT_RXST n != 4 then some 7
  else if !(g.hubBound n) && !(decide (0x7000 ≤ ofs ∧ ofs + 4 * count ≤ 0x8000)) && !(ofs == R.HUB_ID.addr && count == 1) then some 9
  else if 16 ≤ (g.window n).length then some 6 else none

/-- A hub-window request by requester `who`: one MGMT request on the lane (R188, R446). -/
def hubRequest (g : Gloesk) (who dest n ofs count : Nat) (isRead shapeOk : Bool) (data : List Nat) : Gloesk :=
  let r : HubReq := ⟨who, dest, isRead, ofs, count, g.hst.tid⟩
  if !(g.lanePresent n) then (if isRead then g.completeRead r 0 (List.replicate count 0) else g.completeWrite r 0)
  else
    match g.hubRefusal n ofs count shapeOk with
    | some code => g.hubFail n code r
    | none =>
      let cell := ofs / 0x10000
      (g.onHst (fun s => { s with windows := Tab.set [] s.windows n (Tab.get [] s.windows n ++ [r]) })).mgmtFrame n
        (if isRead then 1 else 2) (count - 1) cell (if cell = 1 then g.rd F.HST_HSEL_PORT n else 0) (ofs % 0x10000) data

/-- HUB_WINDOW_RESPONSE with a code of R189; a response to a request that is held no longer is discarded. -/
def hubResponse (g : Gloesk) (n tid code : Nat) (ws : List Nat) : Gloesk :=
  match (g.window n).find? (fun r => r.tid = tid && g.rd F.LAN_L_STAT_RXST n == 4) with
  | none => g
  | some r =>
    let g := g.onHst (fun s => { s with windows := Tab.set [] s.windows n ((Tab.get [] s.windows n).filter (fun x => x.tid ≠ tid)) })
    if code ≠ 0 then g.hubFail n code r
    else if r.isRead then g.completeRead r 0 ((List.range r.count).map (fun i => nth 0 ws i)) else g.completeWrite r 0

/-- HUB_WINDOW_TIMEOUT of the oldest request of a window: code 8. -/
def hubTimeout (g : Gloesk) (n : Nat) : Gloesk :=
  match g.window n with
  | [] => g
  | r :: rest => (g.onHst (fun s => { s with windows := Tab.set [] s.windows n rest })).hubFail n 8 r

/-! ### The data port (R449, R450) -/

/-- Fabric address of DWORD `x` of the port. -/
def portAddr (g : Gloesk) (x : Nat) : Nat := g.rd F.HST_DPADDR_ADDR * 4 + 4 * x

/-- The pointer after an access of `n` DWORDs from DWORD `x`. -/
def portAdvance (g : Gloesk) (x n : Nat) : Gloesk :=
  if g.on F.HST_DPCTL_AINC && decide (x ≤ 0x3FF ∧ 0x3FF < x + n) then g.wr F.HST_DPADDR_ADDR (g.rd F.HST_DPADDR_ADDR + 0x400) else g

/-- An access is dropped (R450). -/
def portDrop (g : Gloesk) (isRead : Bool) (n : Nat) : Gloesk :=
  let g := (g.inc F.HST_DPSTAT_DROP).msix 4
  if isRead then g.send .pcie (0 :: List.replicate n 0xFFFFFFFF) else g

/-- A guarded or absent access is counted. -/
def portGuard (g : Gloesk) : Gloesk := ((g.inc F.HST_DPSTAT_GUARD).guardRefusal).msix 4

/-- DWORD `x` of the port may be written. -/
def portWritable (g : Gloesk) (a : Nat) : Bool := g.presentRange a 4 && !(g.guarded a 4 false false)

/-- Write the enabled bytes of a DWORD (R449, R309). -/
def portStore (g : Gloesk) (a v be : Nat) : Gloesk :=
  if be = 15 then g.store a 4 v
  else g.each (below 4 (bit be)) (fun g i => g.store (a + i) 1 (bits v (8 * i) 8))

/-- DATA_PORT_WRITE of words with byte enables from DWORD `x` (R449, R450). A 64-bit word written whole loses its poison. -/
def portWrite (g : Gloesk) (x : Nat) (ws : List (Nat × Nat)) : Gloesk :=
  if g.on F.HST_STATUS_SHED then (g.portDrop false ws.length).portAdvance x ws.length
  else
    let base := g.portAddr x
    let idx := List.range ws.length
    let good (i : Nat) : Bool := g.portWritable (base + 4 * i)
    let whole (i : Nat) : Bool := (base + 4 * i) % 8 == 0 && good i && good (i + 1) && (nth (0, 0) ws i).2 == 15 && (nth (0, 0) ws (i + 1)).2 == 15
    let g' := idx.foldl (fun (g : Gloesk) i => if good i then g.portStore (base + 4 * i) (nth (0, 0) ws i).1 (nth (0, 0) ws i).2 else g) g
    let g' := (idx.filter (fun i => decide (i + 1 < ws.length) && whole i)).foldl (fun (g : Gloesk) i => g.setPoison (base + 4 * i) false) g'
    let g' := if idx.all good then g' else g'.portGuard
    g'.portAdvance x ws.length

/-- DATA_PORT_READ of `n` DWORDs from DWORD `x`; `find` is the ECC's finding in the first one. A poisoned word completes
with the EP bit (first word of the completion). -/
def portRead (g : Gloesk) (x n find : Nat) : Gloesk :=
  if g.on F.HST_STATUS_SHED then (g.portDrop true n).portAdvance x n
  else
    let base := g.portAddr x
    let there (i : Nat) : Bool := g.presentRange (base + 4 * i) 4
    let g := if there 0 then g.ecc find base 6 else g
    let words := (List.range n).map (fun i => if there i then g.peek (base + 4 * i) 4 else 0xFFFFFFFF)
    let ep := (List.range n).any (fun i => there i && g.poisoned (base + 4 * i) 4)
    let g := if (List.range n).all there then g else g.portGuard
    let g : Gloesk := if ep then (g.up F.HST_DPSTAT_UE).msix 4 else g
    (g.send .pcie (ep.toNat :: words)).portAdvance x n

/-- DATA_PORT_TIMEOUT: an access without an Inkwell cycle in 100 µs (R450). -/
def portTimeout (g : Gloesk) (isRead : Bool) (x n : Nat) : Gloesk := (g.portDrop isRead n).portAdvance x n

/-- DATA_PORT_ADV (R449). -/
def portAdv (g : Gloesk) : Gloesk := g.wr F.HST_DPADDR_ADDR (g.rd F.HST_DPADDR_ADDR + 0x400)

/-- DPSTAT_READ: DROP and GUARD are read and cleared; earlier writes are complete (R449). -/
def dpstatRead (g : Gloesk) (who : Nat) : Gloesk :=
  ((g.answer who [g.reg R.HST_DPSTAT]).down F.HST_DPSTAT_DROP).down F.HST_DPSTAT_GUARD

/-! ### HST registers and MSI-X (R452, R453) -/

/-- DOORBELL: Quill firmware writes HST_DOORBELL (R452). -/
def doorbell (g : Gloesk) (v : Nat) : Gloesk := (g.wr F.HST_DOORBELL_VAL v).msix 5

/-- HERR_CLEAR. -/
def herrClear (g : Gloesk) : Gloesk := g.down F.HST_HERR_VALID

/-- MSIX_UNMASK: a pending message is sent. -/
def msixUnmask (g : Gloesk) (v : Nat) : Gloesk :=
  let pend := bit g.hst.msixPend v
  let g := g.onHst (fun s => { s with msixMask := setBit s.msixMask v false, msixPend := setBit s.msixPend v false })
  if pend then g.msix v else g

/-- A word of the MSI-X table: address low, address high, data, vector control (R452). -/
def msixWrite (g : Gloesk) (i v : Nat) : Gloesk :=
  let g := g.onHst (fun s => { s with msixTable := Tab.set 0 s.msixTable i (BitVec.ofNat 32 v) })
  if i % 4 ≠ 3 then g
  else if bit v 0 then g.onHst (fun s => { s with msixMask := setBit s.msixMask (i / 4) true })
  else g.msixUnmask (i / 4)

end Gloesk

end Sys2Proof.Machine
end

