-- ==== Sys2Proof/Machine/Power.lean ====
section
/-!
DEFINITION. Power, temperature and boot: resets of the Gloesk and the Stanak (R465, R470), supplies (R456), the planner
(R459-R461), temperature (R462-R464), boot (R466-R469), flash commands, hub and cell images (R470, R471).
-/

namespace Sys2Proof.Machine

namespace Gloesk

def onPwr (g : Gloesk) (f : PowerState → PowerState) : Gloesk := { g with pwr := f g.pwr }

/-- The blocks outside HST and PWR act: the part is not held in reset, its boot has not failed (R468), its REFCLK is there
(R456). -/
def blocksRun (g : Gloesk) : Bool := g.pwr.phase != .held && g.pwr.phase != .stuck && !g.pwr.silent

/-! ### Reset (R465) -/

/-- A part reset: every block resets; OTP, the logs in flash, and PWR_BOOT and PWR_RSTCAUSE stay, except at power-on. What
is already sent, and the counter of free values, are no part of the hardware. -/
def partReset (g : Gloesk) (powerOn : Bool) (cause : Fld) : Gloesk :=
  let boot := g.reg R.PWR_BOOT
  let rst := g.reg R.PWR_RSTCAUSE
  let p := g.trust
  let trust : PartSec := { PartSec.reset with
    lcs := p.lcs, slots := p.slots, svn := p.svn, pufOk := p.pufOk, entropyBad := p.entropyBad, seqs := p.seqs,
    drawn := p.drawn, counter := p.counter, tamper := p.tamper }
  let n : Gloesk := { Gloesk.reset g.variant with
    sent := g.sent, fresh := g.fresh, trust := trust, twin := { TwinState.reset with strap := g.twin.strap } }
  let n := n.iff g.twin.strap (·.up F.TWN_STATUS_PREF)
  if powerOn then n else ((n.setReg R.PWR_BOOT boot).setReg R.PWR_RSTCAUSE rst).up cause

/-- PART_RESET: power-on (0), PORST_N (1), a rail below its threshold (2). -/
def resetPart (g : Gloesk) (cause : Nat) : Gloesk :=
  if cause = 0 then g.partReset true F.PWR_RSTCAUSE_POR
  else if cause = 1 then g.partReset false F.PWR_RSTCAUSE_PIN else g.partReset false F.PWR_RSTCAUSE_SUPPLY

/-- REBOOT (R465). -/
def reboot (g : Gloesk) : Gloesk := g.partReset false F.PWR_RSTCAUSE_REBOOT

/-- THERMAL_TRIP: the reset is held until Tj falls below 110 °C (R464). -/
def thermalTrip (g : Gloesk) : Gloesk :=
  (g.partReset false F.PWR_RSTCAUSE_THERMTRIP).onPwr (fun p => { p with phase := .held })

/-! ### Supplies (R456) -/

/-- RAIL_FAULT: a rail is outside its limits, or within them again. -/
def railFault (g : Gloesk) (bad : Bool) : Gloesk := (g.iff bad (·.up F.PWR_STATUS_SUPPLY)).level 3 (bad || g.pwr.silent)

/-- REFCLK_FAULT: the part goes fail-silent, its lane transmitters idle. -/
def refclkFault (g : Gloesk) : Gloesk :=
  let g := ((g.up F.PWR_STATUS_REFCLK).raise 3).onPwr (fun p => { p with silent := true })
  g.each (List.range 68) (fun g n => g.wr F.LAN_L_STAT_TXST 0 n)

/-! ### Shedding (R460, R464) -/

/-- The effective shed level and what shows it. -/
def showShed (g : Gloesk) : Gloesk :=
  let l := if g.on F.BLT_STATUS_INCIDENT then 3 else max (g.rd F.PWR_STATUS_TSHED) (g.rd F.PWR_STATUS_BSHED)
  ((g.wr F.PWR_STATUS_LEVEL l).wr F.HST_STATUS_SHED (if 1 ≤ l then 1 else 0)).wr F.FOL_STATUS_SHED (if 3 ≤ l then 1 else 0)

/-- P exceeds the budget; P is the sum of `n` samples in 10 mW. -/
def overBudget (g : Gloesk) (sum n : Nat) : Bool := decide (50 * g.rd F.PWR_BUDGET_W * n < sum)

/-- Sums of the samples in the averaging window: total, floor, number. -/
def powerSums (g : Gloesk) : Nat × Nat × Nat :=
  let l := g.pwr.samples
  (l.foldl (fun s x => s + x.1) 0, l.foldl (fun s x => s + x.2) 0, l.length)

/-- PLANNER_TICK: the millisecond's power and floor in 10 mW and the energy of the domains in mJ (R459, R460). -/
def plannerTick (g : Gloesk) (p f : Nat) (energy : List (Nat × Nat)) : Gloesk :=
  let win := 10 * g.rd F.PWR_BUDGET_WIN
  let g := g.onPwr (fun s => { s with
    energy := energy.foldl (fun t e => Tab.set 0 t e.1 ((Tab.get 0 t e.1 + e.2) % 2 ^ 32)) s.energy,
    samples := ((p, f) :: s.samples).take (max 1 win) })
  let s := g.powerSums
  let g := (g.wr F.PWR_POWER_P (satU 16 (quotFree s.1 s.2.2).toNat)).wr F.PWR_POWER_F (satU 16 (quotFree s.2.1 s.2.2).toNat)
  let exceeds := g.overBudget s.1 s.2.2
  let g := (g.iff exceeds (·.up F.PWR_STATUS_OVER)).level 2 exceeds
  let g : Gloesk := if exceeds && !g.pwr.bStepped then
      (g.wr F.PWR_STATUS_BSHED (min 3 (g.rd F.PWR_STATUS_BSHED + 1))).onPwr (fun x => { x with bStepped := true })
    else g
  let g : Gloesk := if 50 * g.rd F.PWR_BUDGET_W * s.2.2 ≤ s.2.1 then (g.up F.PWR_STATUS_UNDER).wr F.PWR_STATUS_BSHED 3 else g
  g.showShed

/-- SHED_STEP: a STEP interval passes for TSHED (`thermal`) or BSHED. A rise here is the one rise of the interval that
begins. -/
def shedStep (g : Gloesk) (thermal : Bool) : Gloesk :=
  if thermal then
    let t := g.rd F.PWR_STATUS_TSHED
    let tj := toS 11 (g.rd F.PWR_TEMP_TJ)
    let rises := g.on F.PWR_STATUS_HOT
    let g : Gloesk := if rises then g.wr F.PWR_STATUS_TSHED (min 3 (t + 1))
      else if tj < (4 * (g.rd F.PWR_THERM_SHED - g.rd F.PWR_THERM_HYST) : Nat) then g.wr F.PWR_STATUS_TSHED (t - 1) else g
    (g.onPwr (fun p => { p with tStepped := rises })).showShed
  else
    let s := g.powerSums
    let b := g.rd F.PWR_STATUS_BSHED
    let held := decide (50 * g.rd F.PWR_BUDGET_W * s.2.2 ≤ s.2.1 ∧ 0 < s.2.2)
    let rises := !held && g.overBudget s.1 s.2.2
    let g : Gloesk := if held then g
      else if rises then g.wr F.PWR_STATUS_BSHED (min 3 (b + 1))
      else if s.1 + 200 * s.2.2 < 50 * g.rd F.PWR_BUDGET_W * s.2.2 then g.wr F.PWR_STATUS_BSHED (b - 1) else g
    (g.onPwr (fun p => { p with bStepped := rises })).showShed

/-- THERMAL_SAMPLE: the hottest sensor, in 0.25 °C (R462, R464). A thermal trip's reset ends below 110 °C. -/
def thermalSample (g : Gloesk) (tj : Int) (sensor : Nat) : Gloesk :=
  let g := (g.wrSat F.PWR_TEMP_TJ tj).wr F.PWR_TEMP_SENSOR sensor
  if g.pwr.phase = .held then (if tj < 440 then g.onPwr (fun p => { p with phase := .reset }) else g)
  else
    let shed : Int := 4 * g.rd F.PWR_THERM_SHED
    let hot := decide (shed ≤ tj)
    let first := hot && !(g.on F.PWR_STATUS_HOT) && !g.pwr.tStepped
    let g := g.wr F.PWR_STATUS_HOT hot.toNat
    let g := if hot then g.raise 0 else if tj < shed - 4 * g.rd F.PWR_THERM_HYST then g.lower 0 else g
    let g : Gloesk := if first then
        (g.wr F.PWR_STATUS_TSHED (min 3 (g.rd F.PWR_STATUS_TSHED + 1))).onPwr (fun p => { p with tStepped := true }) else g
    let crit := decide ((4 * g.rd F.PWR_THERM_CRIT : Int) ≤ tj)
    ((g.iff crit (·.up F.PWR_STATUS_CRIT)).level 1 crit).showShed

/-! ### Domains and gating (R457, R461) -/

/-- A process-bus port is in use (R457, domains 134-137). -/
def portUsed (g : Gloesk) (n : Nat) : Bool :=
  g.on F.PTP_P_CFG_ROLE n || (List.range 256).any (fun s => g.on F.SVI_SUB_CFG_EN s && bit (g.rd F.SVI_SUB_CFG_PORTS s) n) ||
    (List.range 128).any (fun s => g.on F.SVI_GS_CFG_EN s && bit (g.rd F.SVI_GS_CFG_PORTS s) n) ||
    (List.range 32).any (fun s => g.on F.SVI_GP_CFG_EN s && bit (g.rd F.SVI_GP_CFG_PORTS s) n)

/-- Whether a domain is switched on (R457). -/
def domainOn (g : Gloesk) (d : Nat) : Bool :=
  if d < 64 then g.listed d
  else if d < 68 then true
  else if d < 100 then decide (2 * (d - 68) < g.banks)
  else if d = 100 then g.on F.INK_STATUS_SPARING || g.on F.INK_STATUS_SPARE_USED
  else if d < 117 then
    let q := d - 101
    g.pairPresent q && (!(bit (g.rd F.PWR_QGATE_GATE) q) || bit (g.rd F.DUC_CORE_EN) q || (g.core q).busy)
  else if d < 129 then !(g.cellsOf (d - 117)).isEmpty
  else if 134 ≤ d ∧ d < 138 then g.portUsed (d - 134)
  else if d = 139 then g.on F.AQ_CTRL_EN
  else if d = 140 ∨ d = 141 then g.pwr.flash.isSome && g.rd F.PWR_QCTL_PORT == d - 140
  else decide (d < 148)

/-- A pair is admitted when P plus 1.25 W stays within the budget (R461). -/
def pairAdmitted (g : Gloesk) : Bool := decide (g.rd F.PWR_POWER_P + 125 ≤ 50 * g.rd F.PWR_BUDGET_W)

/-- QGATE_WRITE (R461). -/
def qgateWrite (g : Gloesk) (v : Nat) : Gloesk :=
  let old := g.rd F.PWR_QGATE_GATE
  let freed := below 16 (fun q => bit old q && !(bit v q))
  if freed.isEmpty || g.pairAdmitted then g.wr F.PWR_QGATE_GATE v
  else (g.wr F.PWR_QGATE_GATE (v ||| old)).up F.PWR_STATUS_QREJ

/-- A write of DUC_CORE.EN: a gated pair needs admission, unless it returns from a fence (R461, R302). -/
def coreEnableWrite (g : Gloesk) (v : Nat) : Gloesk :=
  let old := g.rd F.DUC_CORE_EN
  let asks := below 16 (fun q => bit v q && !(bit old q) && bit (g.rd F.PWR_QGATE_GATE) q && !(g.core q).fenced)
  if asks.isEmpty || g.pairAdmitted then g.coreEnable v
  else (g.coreEnable (asks.foldl (fun n q => setBit n q false) v)).up F.PWR_STATUS_QREJ

/-- DXDATA_READ (R473). -/
def dxdataRead (g : Gloesk) (who : Nat) : Gloesk :=
  let d := g.rd F.PWR_DXADDR_DOM
  ((g.latch who R.PWR_DXINFO (g.domainOn d).toNat).answer who [Tab.get 0 g.pwr.energy d]).wr F.PWR_DXADDR_DOM (d + 1)

/-! ### Boot (R466-R469) -/

/-- BOOT_RELEASE: OTP is sensed, the PUF derived, the directory of the first port read. A part without identity does not
leave boot (R421). The twin lanes' transmitters begin to settle (R403, R457). -/
def bootRelease (g : Gloesk) : Gloesk :=
  if g.pwr.phase ≠ .reset then g
  else
    let g := (g.showTrust).wr F.PWR_BOOTSTAT_PUF_OK g.trust.pufOk.toNat
    let g := g.each [64, 65, 66, 67] (fun g n => g.wr F.LAN_L_STAT_TXST 1 n)
    g.onPwr (fun p => { p with phase := if g.trust.pufOk then .rom else .stuck, second := false })

/-- Place the sections of an image in the scratches (R466, R467). -/
def placeImage (g : Gloesk) (l : List ImageSection) : Gloesk :=
  l.foldl (fun (g : Gloesk) s => g.each (below 16 (fun q => bit s.mask q && g.pairPresent q)) (fun g q =>
    g.onPair q (fun k => { k with mem := Memory.writeList k.mem (s.ofs % 0x20000) s.bytes }))) g

/-- IMAGE_VERIFIED: the image of the port on trial passes or fails R424 (R466, R468). In LCS BLANK no image boots (R422). -/
def imageVerified (g : Gloesk) (e : Envelope) (entry : Nat) (l : List ImageSection) : Gloesk :=
  if g.pwr.phase ≠ .rom then g
  else
    let next := g.rd F.PWR_BOOT_NEXT
    let port := if g.pwr.second then 1 - next else next
    let code := g.trust.check g.fingerprint g.lockedSec false e
    let code := if code = 0 ∧ e.typ ≠ 1 then 1 else if code = 0 ∧ g.trust.lcs ≠ 1 then 2 else code
    let g := (g.verified e code).wr (if port = 0 then F.PWR_BOOTSTAT_CODE0 else F.PWR_BOOTSTAT_CODE1) code
    if code = 0 then
      let g := (g.wr F.PWR_BOOT_LAST port).iff g.pwr.second (·.up F.PWR_BOOT_FALLBACK)
      let g := (g.wr F.SEC_SVN_RUN e.svn).onTrust (fun p => { p with trial := if e.adv then some e.svn else none })
      let g := (g.placeImage l).onPair 0 (fun k => { k with pc := entry })
      g.onPwr (fun p => { p with phase := .runs, bootRun := true })
    else if g.pwr.second then g.onPwr (fun p => { p with phase := .stuck })
    else g.onPwr (fun p => { p with second := true })

/-- The running image is confirmed by the first completed join or the first stroke traffic (R425). -/
def confirmImage (g : Gloesk) : Gloesk :=
  match g.trust.trial with
  | none => g
  | some n => (g.onTrust (fun p => { (p.confirm true n) with trial := none })).showTrust

/-! ### Flash commands (R468, R473) -/

/-- FLASH_COMMAND: PWR_QCTL.GO. A write takes its bytes from the FIFO; MODE 3 is ignored. -/
def flashCommand (g : Gloesk) (port op mode len : Nat) : Gloesk :=
  let g := ((g.wr F.PWR_QCTL_PORT port).wr F.PWR_QCTL_OP op).wr F.PWR_QCTL_MODE mode |>.wr F.PWR_QCTL_LEN len
  if g.on F.PWR_QSTAT_BUSY ∨ mode = 3 then g
  else
    let n := (len + 3) / 4
    let data := if mode = 2 then (g.pwr.fifo.take n).map (·.toNat) else []
    let g := g.onPwr (fun p => { p with flash := some (mode, len), fifo := if mode = 2 then p.fifo.drop n else p.fifo })
    (g.send .flash ([port, op, mode, g.rd F.PWR_QADDR_ADDR, len] ++ data)).up F.PWR_QSTAT_BUSY

/-- FLASH_COMMAND_DONE: a read's words enter the FIFO of 64 words. -/
def flashDone (g : Gloesk) (data : List Word) : Gloesk :=
  match g.pwr.flash with
  | none => g
  | some (mode, len) =>
    let ws := if mode = 1 then data.take ((len + 3) / 4) else []
    (g.onPwr (fun p => { p with flash := none, fifo := (p.fifo ++ ws).take 64 })).down F.PWR_QSTAT_BUSY

/-- A write of PWR_QDATA fills the FIFO, a read empties it. -/
def qdataWrite (g : Gloesk) (v : Nat) : Gloesk :=
  g.onPwr (fun p => { p with fifo := (p.fifo ++ [BitVec.ofNat 32 v]).take 64 })

def qdataRead (g : Gloesk) (who : Nat) : Gloesk :=
  (g.answer who [((g.pwr.fifo.head?.map (·.toNat)).getD 0)]).onPwr (fun p => { p with fifo := p.fifo.drop 1 })

/-! ### Images (R470, R471) -/

/-- The object that the image engine streams for a TYPE (R470): the flash directory's entry, or with SRC = 1 the object at
PWR_IMGADDR, whose LEN its envelope holds (R423). -/
def imageLength (g : Gloesk) (typ : Nat) : Nat :=
  let n := if g.on F.PWR_IMG_SRC then g.peek (g.rd F.PWR_IMGADDR_ADDR + 8) 4 + 0xDD0 else Config.flashLength typ
  max 16 (n / 16 * 16)

def imageBytes (g : Gloesk) (typ ofs n : Nat) : List Nat :=
  if g.on F.PWR_IMG_SRC then Memory.readList g.ink.mem (g.rd F.PWR_IMGADDR_ADDR + ofs) n
  else (List.range n).map (fun i => Config.flashByte typ (ofs + i) % 256)

/-- An IMAGE frame (R176, R471): KIND, PORT, offset, count, LAST, the data. -/
def imageFrame (g : Gloesk) (lane kind port ofs n len : Nat) : Gloesk :=
  g.hubFrame lane 0x11 ([(kind, 8), (0, 8), (port, 8), (0, 8), (ofs, 32), (n, 16), flagField (decide (len ≤ ofs + n)), (0, 47)]
    ++ packed 8 (g.imageBytes (2 + kind) ofs n))

/-- Each stroke the image engine sends one block of up to 4,096 bytes to every hub that waits, from one read of the source, and
starts again at the end while a hub still waits; each running cell load sends its next 32 bytes (R470, R471; DESIGN CHOICE:
the rate, log entry 212). -/
def imageStep (g : Gloesk) : Gloesk :=
  let g : Gloesk :=
    if g.pwr.hubLoads.isEmpty || !(g.on F.PWR_IMG_HUBAUTO) then g.onPwr (fun p => { p with imgOfs := 0 })
    else
      let len := g.imageLength 2
      let ofs := if len ≤ g.pwr.imgOfs then 0 else g.pwr.imgOfs
      let n := min 4096 (len - ofs)
      (g.each g.pwr.hubLoads (fun g l => g.imageFrame l 0 0 ofs n len)).onPwr (fun p => { p with imgOfs := ofs + n })
  let g := g.pwr.loads.foldl (fun (g : Gloesk) e =>
    let len := g.imageLength 3
    if 32 * e.2 < len then g.imageFrame (g.cellLane e.1) 1 (e.1 % 256) (32 * e.2) (min 32 (len - 32 * e.2)) len else g) g
  g.onPwr (fun p => { p with loads := p.loads.map (fun e => (e.1, min 32768 (e.2 + 1))) })

/-! ### Cell images (R471) -/

/-- Start queued loads while fewer than 16 run: the engine sends their blocks from the first on. -/
def startLoads (g : Gloesk) : Gloesk :=
  let free := 16 - g.pwr.loads.length
  let now := g.pwr.queued.take free
  let g := g.onPwr (fun p => { p with loads := p.loads ++ now.map (fun x => (x, 0)), queued := p.queued.drop free })
  g.wr F.PWR_IMGSTAT_CELLS g.pwr.loads.length

/-- CELL_LOAD_QUEUE: a write of PWR_IMGCELL. -/
def cellLoad (g : Gloesk) (x : Nat) : Gloesk :=
  g.iff (addrValid x && g.lanePresent (x / 256)) (fun g => (g.onPwr (fun p => { p with queued := p.queued ++ [x] })).startLoads)

/-- A cell's error response reaches the engine: it reads RSV_FWSTAT.NEXT (R471). -/
def loadError (g : Gloesk) (x : Nat) : Gloesk :=
  if g.pwr.loads.any (fun l => l.1 = x) then
    (g.inc F.PWR_IMGSTAT_ERR).mgmtFrame (g.cellLane x) 1 0 1 (x % 256) R.RSV_FWSTAT.addr []
  else g

/-- RSV_FWSTAT.NEXT of a cell arrives: the load resumes there, or is complete at 32,768 (R255, R471). -/
def loadNext (g : Gloesk) (x next : Nat) : Gloesk :=
  if !(g.pwr.loads.any (fun l => l.1 = x)) then g
  else if next = 32768 then (g.onPwr (fun p => { p with loads := p.loads.filter (fun l => l.1 ≠ x) })).startLoads
  else g.onPwr (fun p => { p with loads := p.loads.map (fun l => if l.1 = x then (x, next) else l) })

end Gloesk

namespace Stanak

/-- HUB_RESET, HUB_RESTART: the ROM brings up the uplinks (R470). OTP and the log in flash stay. -/
def hubReset (h : Stanak) : Stanak :=
  let p := h.trust
  let trust : PartSec := { PartSec.reset with
    lcs := p.lcs, slots := p.slots, svn := p.svn, pufOk := p.pufOk, entropyBad := p.entropyBad, seqs := p.seqs,
    drawn := p.drawn, counter := p.counter, tamper := p.tamper }
  let n := ({ Stanak.reset with sent := h.sent, fresh := h.fresh, stroke := h.stroke, trust := trust }).showTrust
  (n.wr F.HLAN_L_STAT_TXST 1 0).wr F.HLAN_L_STAT_TXST 1 1

/-- The boot state follows the uplinks and their attestation (R470). -/
def bootStep (h : Stanak) : Stanak :=
  let up := h.rd F.HLAN_L_STAT_RXST 0 == 4 || h.rd F.HLAN_L_STAT_RXST 1 == 4
  if h.rd F.HUB_BOOT_STATE = 0 ∧ up = true then h.wr F.HUB_BOOT_STATE 1
  else if h.rd F.HUB_BOOT_STATE = 1 ∧ (h.trust.keyed.contains 0 || h.trust.keyed.contains 1) then h.wr F.HUB_BOOT_STATE 2 else h

/-- IMAGE_FRAME on uplink `u` (R470, R471): `cell` names an image block for a port. -/
def imageFrame (h : Stanak) (u : Nat) (cell : Bool) (port ofs : Nat) (data : List Nat) (last : Bool) : Stanak :=
  let st := h.rd F.HUB_BOOT_STATE
  if cell then
    let word (i j : Nat) : Nat := packFields (packed 8 ((data.drop (32 * i + 4 * j)).take 4))
    h.onHub (fun s => { s with
      blocks := s.blocks ++ (List.range (data.length / 32)).map (fun i => (port, ofs / 32 + i, (List.range 8).map (word i))) })
  else if st = 2 ∧ ofs = 0 then
    (((h.wr F.HUB_BOOT_STATE (if last then 4 else 3)).wr F.HUB_BOOT_SRCU u).onHub (fun s => { s with imgNext := data.length }))
  else if st = 3 ∧ u = h.rd F.HUB_BOOT_SRCU ∧ (ofs = h.hub.imgNext ∨ ofs = 0) then
    (h.onHub (fun s => { s with imgNext := ofs + data.length })).iff last (·.wr F.HUB_BOOT_STATE 4)
  else h

/-- HUB_IMAGE_VERIFY: RUN on success, else FAIL and source 14. -/
def imageVerify (h : Stanak) (e : Envelope) : Stanak :=
  if h.rd F.HUB_BOOT_STATE ≠ 4 then h
  else
    let code := h.trust.check h.fingerprint none false e
    let code := if code = 0 ∧ e.typ ≠ 2 then 1 else code
    let h := h.verified e code
    if code = 0 then (h.wr F.HUB_BOOT_STATE 5).onTrust (fun p => { p with trial := if e.adv then some e.svn else none })
    else h.wr F.HUB_BOOT_STATE 6

/-- HUB_FAIL_WAIT. -/
def failWait (h : Stanak) : Stanak := if h.rd F.HUB_BOOT_STATE = 6 then h.wr F.HUB_BOOT_STATE 2 else h

/-- The running image is confirmed by the first forwarding of stroke traffic (R425). -/
def confirmImage (h : Stanak) : Stanak :=
  match h.trust.trial with
  | none => h
  | some n => h.onTrust (fun p => { (p.confirm true n) with trial := none })

/-- THERMAL_SAMPLE of the hub (R462, R464). -/
def thermalSample (h : Stanak) (tj : Int) : Stanak :=
  (h.wr F.HUB_TEMP_TJ (ofS 11 (satS 11 tj))).level 13 (decide (420 ≤ tj) || h.hub.railBad)

/-- RAIL_FAULT of the hub (R456). -/
def railFault (h : Stanak) (bad : Bool) : Stanak :=
  (h.onHub (fun s => { s with railBad := bad })).level 13 (bad || decide (420 ≤ toS 11 (h.rd F.HUB_TEMP_TJ)))

/-- The transmitters of the populated ports begin to settle; a port no longer populated is off (R191, R411, R458). -/
def startPorts (h : Stanak) : Stanak :=
  h.each (List.range 192) (fun h c =>
    let tx := h.rd F.HLNK_LK_STAT_TXST c
    if h.populated c then (if tx = 0 then h.wr F.HLNK_LK_STAT_TXST 1 c else h)
    else if tx = 0 then h
    else (h.wr F.HLNK_LK_STAT_TXST 0 c).wr F.HLNK_LK_STAT_RXST 0 c)

/-- HUB_PGATE shows the port groups that hold a populated port (R458). -/
def showGates (h : Stanak) : Stanak :=
  h.wr F.HUB_PGATE_ON ((List.range 16).foldl (fun m i => setBit m i ((groupPorts i).any h.populated)) 0)

end Stanak

end Sys2Proof.Machine
end

