-- ==== Sys2Proof/Machine/Join.lean ====
section
/-!
DEFINITION. The join of a twin (R349-R352): preconditions, the copy as the joiner takes it and as the source times it, the
shadow phase, its end.
-/

namespace Sys2Proof.Machine

namespace Gloesk

/-- Change the join in progress. -/
def onJoin (g : Gloesk) (f : Join → Join) : Gloesk := g.onTwin (fun t => { t with join := t.join.map f })

/-- This twin is a joiner in its COPY phase, which does not execute (R351). -/
def copying (g : Gloesk) : Bool := g.rd F.TWN_JOIN_PHASE == 2 && (g.twin.join.map (·.joiner)).getD false

/-- Input set `k` belongs to the stroke cycle: the start stroke's is the first, and the one before the stop is the last,
whose events go on after RUN has cleared (R186). -/
def setRuns (g : Gloesk) (k : Nat) : Bool :=
  if g.running then (match g.disp.first with
    | none => true
    | some s0 => decide (0 ≤ strokeDiff s0 k))
  else match g.disp.stop with
    | none => false
    | some s1 => decide (0 < strokeDiff k s1)

/-- A start or a stop 16 strokes ago no longer bounds the input sets in progress. -/
def cycleEdges (g : Gloesk) (k : Nat) : Gloesk :=
  let keep (x : Option Nat) : Option Nat := x.filter (fun s => decide (strokeDiff s k < 16))
  { g with disp := { g.disp with first := keep g.disp.first, stop := keep g.disp.stop } }

/-- The engines of input set `k` run on this twin. -/
def executes (g : Gloesk) (k : Nat) : Bool := g.setRuns k && !g.copying

/-- The lowest sample rate of the enabled streams. -/
def slowestRate (g : Gloesk) : Option Nat :=
  ((List.range 256).filter (fun n => g.on F.SVI_SUB_CFG_EN n)).foldl (fun r n =>
    let x := svRate (g.rd F.SVI_SUB_CFG_RATE n)
    some (match r with
      | none => x
      | some y => min x y)) none

/-- The cross-feed has come for 32 sample periods of the slowest enabled stream (R349). -/
def feedEnough (g : Gloesk) : Bool :=
  match g.slowestRate with
  | none => true
  | some r => match g.twin.feedSince with
    | none => false
    | some t => decide (32 * 1000000000 ≤ (g.ns - t) * r)

/-- The preconditions of R349. -/
def joinReady (g : Gloesk) : Bool :=
  let v := g.twin.peerView
  g.peerIs roleActive && !v.joining && !g.twin.partClash && v.bundleEq && (v.imageEq || (v.updOk && g.on F.TWN_CTRL_UPD_OK)) &&
    g.on F.TWN_STATUS_NUM_VALID && g.servoState == stFollow && decide ((g.rdS F.PTP_TWIN_OFS).natAbs ≤ 128) && g.feedEnough

/-- A join that is requested, or wanted under AUTOJOIN, waits in LISTEN until its preconditions hold, then starts its COPY
(R349, R351, R356). -/
def tryJoin (g : Gloesk) : Gloesk :=
  if !(g.twin.joinReq || g.on F.TWN_CTRL_AUTOJOIN) || g.role != roleOut || g.twin.join.isSome then g
  else if g.joinReady then
    ((g.onTwin (fun t => { t with
      joinReq := false, join := some ⟨true, 0, none, 0, g.ns, none, false, [], []⟩ })).wr F.TWN_JOIN_PHASE 2).wr F.TWN_JOIN_RETRY 0
  else
    let g := g.iff (g.peerAlive && !g.twin.peerView.bundleEq) (·.up F.TWN_STATUS_BUNDLE_DIFF)
    (g.iff g.twin.partClash (·.up F.TWN_STATUS_PART_MISMATCH)).wr F.TWN_JOIN_PHASE 1

/-- A marker to the joiner (R350). -/
def sendMarker (g : Gloesk) (object ofs : Nat) : Gloesk := g.ligature 0x25 (stateBody object ofs [])

/-! ### What the source sends (R350, R351) -/

/-- Address and bytes of an object that lies in Inkwell; none for the others. -/
def objectPlace (g : Gloesk) (o : Nat) : Option (Nat × Nat) :=
  if o = 0x06000000 then some (g.partBase 6 + g.rd F.STK_DBASE_OFS, 0x8000)
  else if o / 2 ^ 16 = 0x0400 then some (g.pointAddr (o % 64) 0, 4 * g.flrN (o % 64))
  else if o / 2 ^ 16 = 0x0900 then some (g.partBase (o % 16), g.partSize (o % 16)) else none

/-- Registers of an address range, as address and word. -/
def rangeWords (g : Gloesk) (lo hi : Nat) : List Nat :=
  (g.regs.filter (fun e => decide (lo ≤ e.1) && decide (e.1 < hi))).flatMap (fun e => [e.1, e.2.toNat])

/-- The registers and marks of an object that lies outside Inkwell (R350). -/
def objectWords (g : Gloesk) (o : Nat) : List Nat :=
  if o = 0x01000000 then
    (g.regs.filter (fun e => (fieldsAt FieldList.gloesk e.1).any (fun d => d.1.kind == .staged && d.1.acc == .rw))).flatMap
      (fun e => [e.1, e.2.toNat])
  else if o = 0x02000000 then g.rangeWords 0x60000 0x70000
  else if o = 0x03000000 then g.rangeWords 0x80000 0x88000
  else if o = 0x04800000 then g.rangeWords 0x88000 0x90000
  else if o / 2 ^ 16 = 0x0500 then g.rangeWords 0x90000 0xA0000
  else if o / 2 ^ 16 = 0x0800 then
    let a := R.AQ_ARB_STAT.addr + 32 * (o % 16)
    g.rangeWords a (a + 20)
  else if o = 0x0A000000 then g.rank.standing.flatMap (fun e => [e.1, e.2]) ++ (g.rank.cells.filter (fun e => e.2.held)).map (·.1)
  else if o = 0x0B000000 then g.blt.marks.flatMap (fun e => [e.1, e.2]) ++ g.blt.blocks else []

/-- The blocks of a copy, in the order of R350: object and byte offset. A block outside Inkwell is its object whole. -/
def copyBlocks (g : Gloesk) : List (Nat × Nat) :=
  let split (o : Nat) : List (Nat × Nat) := match g.objectPlace o with
    | some (_, n) => (List.range ((n + 4095) / 4096)).map (fun i => (o, 4096 * i))
    | none => [(o, 0)]
  ([0x01000000, 0x02000000, 0x03000000] ++ (below 64 (fun t => g.on F.FLR_T_CFG_EN t)).map (· + 0x04000000) ++ [0x04800000]
    ++ (List.range 12).map (· + 0x05000000) ++ [0x06000000, 0x07000000] ++ (List.range 12).map (· + 0x08000000)
    ++ (below 16 (fun p => bit (g.rd F.TWN_ISMASK_PART) p)).map (· + 0x09000000) ++ [0x0A000000, 0x0B000000]).flatMap split

/-- The words of a block. -/
def blockWords (g : Gloesk) (b : Nat × Nat) : List Nat :=
  match g.objectPlace b.1 with
  | some (a, n) => (List.range (min 1024 ((n - b.2 + 3) / 4))).map (fun i => g.peek (a + b.2 + 4 * i) 4)
  | none => g.objectWords b.1

/-- Send a block. What an object holds beyond registers and Inkwell is one free word of its frame (log entry 130). -/
def sendBlock (g : Gloesk) (b : Nat × Nat) : Gloesk :=
  let ws := g.blockWords b
  let hidden := if (g.objectPlace b.1).isSome then [] else [g.free % 2 ^ 32]
  ((g.ligature 0x25 (stateBody b.1 b.2 (ws ++ hidden))).nextFree).onJoin (fun j => { j with
    blocks := j.blocks.filter (fun e => (e.1, e.2.1) ≠ b) ++ [(b.1, b.2, ws)] })

/-- TWN_JOIN.PROG: KB still to be copied (R356). -/
def showCopy (g : Gloesk) : Gloesk :=
  let todo := (g.twin.join.map (·.todo)).getD []
  g.wr F.TWN_JOIN_PROG (satU 24 (((todo.map (fun b => 4 * (g.blockWords b).length)).sum + 1023) / 1024))

/-- What the source sends in an input set: the blocks already sent that have changed since, then as many of the others as the
free pace allows (R351). -/
def copyGo (g : Gloesk) : Gloesk :=
  match g.twin.join with
  | none => g
  | some j =>
    let again := j.blocks.filter (fun e => (g.objectPlace e.1).isNone || g.blockWords (e.1, e.2.1) != e.2.2)
    let g := again.foldl (fun (g : Gloesk) e => g.sendBlock (e.1, e.2.1)) g
    let n := g.free % (j.todo.length + 1)
    let g := (j.todo.take n).foldl (fun (g : Gloesk) b => g.sendBlock b) g.nextFree
    (g.onJoin (fun j => { j with todo := j.todo.drop n })).showCopy

/-- The source starts a copy at the next input set, under wear hold (R351). -/
def copyStart (g : Gloesk) : Gloesk :=
  let s0 := strokeMod (g.stroke + 1)
  let g := g.onTwin (fun t => { t with wearHold := true })
  ((g.onJoin (fun j => { j with copyFrom := s0, switchAt := none, equal := 0, copied := false, todo := g.copyBlocks, blocks := [] })).wr
    F.TWN_JOIN_PHASE 2).showCopy.sendMarker 0xFF000002 s0

/-- JOIN_REQUEST: TWN_CTRL.JOIN on the twin out of step, or the start of its join as the ACTIVE twin sees it (R349). `view`
is what this twin knows of its partner. -/
def joinRequest (g : Gloesk) (view : PeerView) : Gloesk :=
  let g := g.onTwin (fun t => { t with peerView := view })
  if g.role = roleActive then
    if view.joining && g.peerIs roleOut && g.twin.join.isNone then
      (g.onTwin (fun t => { t with join := some ⟨false, 0, none, 0, g.ns, none, false, [], []⟩ })).wr F.TWN_JOIN_RETRY 0 |>.copyStart
    else g
  else (g.onTwin (fun t => { t with joinReq := true })).tryJoin

/-- The join ends on this twin. -/
def joinOver (g : Gloesk) : Gloesk :=
  (g.onTwin (fun t => { t with join := none, wearHold := false })).wr F.TWN_JOIN_PHASE 0 |>.wr F.TWN_JOIN_PROG 0

/-- The join fails (R352). -/
def joinFail (g : Gloesk) : Gloesk :=
  match g.twin.join with
  | none => g
  | some j =>
    let g := g.joinOver
    if j.joiner then (((g.up F.TWN_STATUS_JOINFAIL).inc F.TWN_ERRCNT_JFAIL).raise 73) else g

/-- The join returns to COPY, or fails at the third return (R352). The source sends the abandon marker and names a new s0. -/
def joinBack (g : Gloesk) : Gloesk :=
  match g.twin.join with
  | none => g
  | some j =>
    let n := g.rd F.TWN_JOIN_RETRY + 1
    let g := g.wr F.TWN_JOIN_RETRY (min 3 n)
    let g := g.iff (!j.joiner) (·.sendMarker 0xFF000003 0)
    if 3 ≤ n then g.joinFail
    else if j.joiner then
      (g.onJoin (fun j => { j with switchAt := none, equal := 0, marked := none })).wr F.TWN_JOIN_PHASE 2
    else g.copyStart

/-- JOIN_TIMEOUT: JTO ms have passed since the start of COPY (R352). -/
def joinTimeout (g : Gloesk) : Gloesk := g.joinFail

/-! ### What the joiner applies (R350) -/

/-- Put words into the registers of one address range. -/
def putWords (g : Gloesk) (lo hi : Nat) (l : List (Nat × Nat)) : Gloesk :=
  let put (rf : RegFile) (e : Nat × Nat) : RegFile :=
    (fieldsAt FieldList.gloesk e.1).foldl (fun rf d => rf.setFld d.1 (e.2 / 2 ^ d.1.lo) d.2) rf
  { g with regs := (l.filter (fun e => decide (lo ≤ e.1) && decide (e.1 < hi))).foldl put g.regs }

/-- Put the words of the staged fields of the blocks that R350 names (object 0x0100_0000). -/
def putStaged (g : Gloesk) (l : List (Nat × Nat)) : Gloesk :=
  let put (rf : RegFile) (e : Nat × Nat) : RegFile :=
    ((fieldsAt FieldList.gloesk e.1).filter (fun d => d.1.kind == .staged && d.1.acc == .rw)).foldl
      (fun rf d => rf.setFld d.1 (e.2 / 2 ^ d.1.lo) d.2) rf
  { g with regs := l.foldl put g.regs }

/-- Put bytes into Inkwell. -/
def putBytes (g : Gloesk) (a : Nat) (l : List Nat) : Gloesk :=
  { g with ink := { g.ink with mem := Memory.writeList g.ink.mem a l } }

/-- Apply one object. -/
def objectApply (g : Gloesk) (o : StateObj) : Gloesk :=
  match o with
  | .staged regs l =>
    let own := Tab.get Staged.reset g.staged Blk.blt.idx
    { g.putStaged regs with staged := Tab.set Staged.reset l Blk.blt.idx own }
  | .ruling regs r => { g.putWords 0x60000 0x70000 regs with rul := { r with enc0 := g.rul.enc0, enc1 := g.rul.enc1 } }
  | .loop regs l => { g.putWords 0x80000 0x88000 regs with lpe := l }
  | .flrTable f written ofs bytes =>
    (g.onFlr (fun s => { s with written := Tab.set 0 s.written f written })).putBytes (g.pointAddr f 0 + ofs) bytes
  | .flrSums regs s => (g.putWords 0x88000 0x90000 regs).onFlr (fun m => { m with
      sum := s.sum, count := s.count, prevIdx := s.prevIdx, prevBack := s.prevBack, good := s.good, fresh := s.fresh })
  | .arm a regs u cells =>
    cells.foldl (fun (g : Gloesk) e => g.onCell e.1 (fun _ => e.2)) ((g.putWords 0x90000 0xA0000 regs).onArm a (fun _ => u))
  | .direct ofs bytes => g.putBytes (g.partBase 6 + g.rd F.STK_DBASE_OFS + ofs) bytes
  | .goose held agreed pubs => g.onSvi (fun v => { v with heldGoose := held, agreedGoose := agreed, pubs := pubs })
  | .arbiter a b regs outs => (g.putWords (R.AQ_ARB_STAT.addr + 32 * a) (R.AQ_ARB_STAT.addr + 32 * a + 20) regs).onArb (fun r => {
      run := r.run.filter (fun e => e.1 ≠ a) ++ (match b with
        | some x => [(a, x)]
        | none => []),
      holdOuts := r.holdOuts.filter (fun e => e.1 ≠ a) ++ outs.filter (fun e => e.1 = a) })
  | .partition p ofs bytes => g.putBytes (g.partBase p + ofs) bytes
  | .standing marks heldOut =>
    let g := marks.foldl (fun (g : Gloesk) e => g.onRank (fun r => { r with standing := Tab.set 0 r.standing e.1 e.2 })) g
    g.each heldOut (fun g x => g.onCell x (fun c => { c with held := true }))
  | .blotter marks blocks => (g.onBlt (fun b => { b with marks := marks, blocks := blocks })).showBlocks
  | _ => g

/-- The joiner executes from input set `s1` (R351). -/
def joinSwitch (g : Gloesk) : Gloesk :=
  ((g.onJoin (fun j => { j with equal := 0 })).onTwin (fun t => { t with newSusp := false })).wr F.TWN_JOIN_PHASE 3

/-- STATE_FRAME on a joiner; any other twin discards it. -/
def stateFrame (g : Gloesk) (o : StateObj) : Gloesk :=
  if !((g.twin.join.map (·.joiner)).getD false) then g
  else
    match o with
    | .copyFrom k => (g.onJoin (fun j => { j with copyFrom := k, switchAt := none, equal := 0, marked := none })).wr F.TWN_JOIN_PHASE 2
    | .switchAt k => g.onJoin (fun j => { j with switchAt := some k, copied := true })
    | .endOfSet k => g.onJoin (fun j => { j with marked := some k })
    | .abandoned => g.joinBack
    | o => if g.copying then g.objectApply o else g

/-- The joiner has the writes of the input set before `k` (R352). -/
def joinHas (g : Gloesk) (k : Nat) : Bool :=
  match g.twin.join with
  | none => false
  | some j => j.marked == some (strokeMod (k + 2 ^ 48 - 1))

/-- The switch falls on input set `k`. -/
def joinDue (g : Gloesk) (k : Nat) : Bool :=
  match g.twin.join with
  | none => false
  | some j => j.switchAt == some k

/-- The join at the key agreement of input set `k`: a joiner whose writes are there switches (R351, R352), the source ends
its wear hold. -/
def joinKey (g : Gloesk) (k : Nat) : Gloesk :=
  if !(g.joinDue k) then g
  else if g.copying then g.iff (g.joinHas k) (·.joinSwitch)
  else (g.onTwin (fun t => { t with wearHold := false })).wr F.TWN_JOIN_PHASE 3

/-- The join at the input agreement of input set `k`, SB(k) + W + 442 ns: a joiner still copying missed its switch. The source
sends its blocks, closes the set with an end marker and, once everything is copied, names s1 four sets on. -/
def joinInput (g : Gloesk) (k : Nat) : Gloesk :=
  match g.twin.join with
  | none => g
  | some j =>
    if j.joiner then g.iff (g.joinDue k && g.copying) (·.joinBack)
    else if g.rd F.TWN_JOIN_PHASE ≠ 2 ∨ strokeDiff j.copyFrom k < 0 then g
    else
      let g := (g.copyGo).sendMarker 0xFF000000 (k % 2 ^ 32)
      if j.copied || (g.twin.join.map (fun j => !j.todo.isEmpty)).getD true then g
      else
          let s1 := strokeMod (k + 4)
          (g.onJoin (fun j => { j with copied := true, switchAt := some s1 })).sendMarker 0xFF000001 (s1 % 2 ^ 32)

/-- A comparison of digests in SHADOW (R352): `d` is the twin's own, `o` the partner's. -/
def joinDigest (g : Gloesk) (d : Digest) (o : Option Digest) : Gloesk :=
  match g.twin.join with
  | none => g
  | some j =>
    let peer := (o.map (·.susp)).getD false
    let suspects := if j.joiner then g.twin.newSusp else peer && !g.twin.peerSusp && decide (0 < j.equal)
    let g := g.onTwin (fun t => { t with peerSusp := peer })
    let differ := digestDiffer d o || o.isNone
    let lacks := if j.joiner then d.noPeer else (o.map (·.noPeer)).getD false
    let g := g.iff (digestDiffer d o) (fun g => ((g.inc F.TWN_DIGCNT_MISM).up F.TWN_STATUS_DIGEST_MISM).raise 65)
    if differ || lacks || suspects then g.joinBack
    else
      let n := j.equal + 1
      if n < atLeast1 (g.rd F.TWN_CFG1_JOINN) then g.onJoin (fun j => { j with equal := n })
      else if j.joiner then (((g.joinOver).down F.TWN_STATUS_SUSP).enterRole roleStandby).confirmImage
      else ((g.joinOver).peerTurns roleStandby).confirmImage

end Gloesk

end Sys2Proof.Machine
end

