-- ==== Sys2Proof/Machine/RegAccess.lean ====
section
/-!
DEFINITION. Register accesses on the Gloesk (R443, R444, R451): what a 32-bit read returns and changes, what a 32-bit write
changes, block by block.
-/

namespace Sys2Proof.Machine

/-- The bits of a write that clear sticky and W1C bits. -/
def clearBits (old v : Nat) : Nat := old - (old &&& v)

/-- Write one field of a register as its access class says; `may` tells which RW fields software may change. -/
def fieldWrite (v : Nat) (may : Fld → Bool) (rf : RegFile) (d : Fld × Nat) : RegFile :=
  match d.1.acc with
  | .rw => if may d.1 then rf.setFld d.1 (v / 2 ^ d.1.lo) d.2 else rf
  | .st | .w1c => rf.setFld d.1 (clearBits (rf.fld d.1 d.2) (bits v d.1.lo d.1.wid)) d.2
  | _ => rf

/-- Clear a read-clear field. -/
def fieldReadClear (rf : RegFile) (d : Fld × Nat) : RegFile := if d.1.acc == .rc then rf.setFld d.1 0 d.2 else rf

/-- The word that a read of a register returns: WO fields read as 0. A W1S field whose action is not over yet is held as 1 (R45,
R71, R366, R408); no other W1S field is ever held. -/
def fieldsWord (rf : RegFile) (l : List (Fld × Nat)) : Nat :=
  l.foldl (fun n d => if d.1.acc == .wo then n else n + rf.fld d.1 d.2 * 2 ^ d.1.lo) 0

namespace Gloesk

/-! ### Reads -/

/-- The word that the last answer carried, without the answer. -/
def takeAnswer (g : Gloesk) : Gloesk × Nat :=
  ({ g with sent := g.sent.dropLast }, ((g.sent.getLast?.map (·.args)).getD []).getD 1 0)

/-- A read of a lane's LVL0 latches LVL1-LVL3 and STAT.FOM (R417); the latch of STAT is marked in bit 31. -/
def levelRead (g : Gloesk) (who n : Nat) : Gloesk :=
  let g := [R.LAN_L_LVL1, R.LAN_L_LVL2, R.LAN_L_LVL3].foldl (fun (g : Gloesk) r => g.latch who r (g.reg r n) n) g
  (g.latch who R.LAN_L_STAT (2 ^ 31 + g.rd F.LAN_L_STAT_FOM n) n).answer who [g.reg R.LAN_L_LVL0 n]

/-- A lane's STAT as a requester reads it: FOM from its latch once it has read LVL0. -/
def laneStat (g : Gloesk) (who n : Nat) : Nat :=
  let l := g.latched who R.LAN_L_STAT n
  let w := g.reg R.LAN_L_STAT n
  if bit l 31 then (F.LAN_L_STAT_FOM.into (BitVec.ofNat 32 w) l).toNat else w

/-- A partition's STAT: USED is the end of its highest registered object (R319, R325). -/
def partStat (g : Gloesk) (p : Nat) : Nat := g.usedGranules p % 2 ^ 11 + g.rd F.INK_PART_STAT_VALID p * 2 ^ 16

/-- Reads that latch other words, or that select, pop or advance (R451). -/
def specialRead (g : Gloesk) (who a : Nat) : Option Gloesk :=
  if a = R.PTP_TIME0.addr then some (g.time0Read who)
  else if a = R.PTP_STROKE0.addr then some (g.stroke0Read who)
  else if a = R.RUL_ANGLE.addr then some (g.angleRead who)
  else if a = R.LPE_XDATA0.addr then some (g.lpeXdataRead who)
  else if a = R.RNK_CXDATA0.addr then some (g.cxRead who)
  else if a = R.AQ_RES.addr then some (g.aqRes0Read who)
  else if a = R.AQ_URES0.addr then some (g.aqUres0Read who)
  else if a = R.BLT_LOG0.addr then some (g.log0Read who)
  else if a = R.BLT_CBDATA.addr then some (g.cbdataRead who)
  else if a = R.SEC_DBGCHAL0.addr then some (g.dbgchalRead who)
  else if a = R.SEC_POSDATA0.addr then some (g.posdataRead who)
  else if a = R.HST_DPSTAT.addr then some (g.dpstatRead who)
  else if a = R.PWR_DXDATA.addr then some (g.dxdataRead who)
  else if a = R.PWR_QDATA.addr then some (g.qdataRead who)
  else match R.RUL_ENC_POS.index a with
  | some n => some (g.encPosRead who n)
  | none => match R.FOL_TTS0.index a with
    | some p => some (g.tts0Read who p)
    | none => match R.BLT_SRC_FIRST0.index a with
      | some n => some (g.sourceTimeRead who n false)
      | none => match R.BLT_SRC_LAST0.index a with
        | some n => some (g.sourceTimeRead who n true)
        | none => match R.LAN_L_LVL0.index a with
          | some n => some (g.levelRead who n)
          | none => match R.LAN_L_STAT.index a with
            | some n => some (g.answer who [g.laneStat who n])
            | none => (R.INK_PART_STAT.index a).map (fun p => g.answer who [g.partStat p])

/-- Registers that a requester reads from its latch. -/
def latchedRegs : List Reg :=
  [R.PTP_TIME1, R.PTP_TIME2, R.PTP_TIME3, R.PTP_STROKE1, R.RUL_FRAC, R.RUL_VEL, R.RUL_ENC_RAW, R.RUL_ENC_IDXPOS, R.LPE_XDATA1,
    R.RNK_CXDATA1, R.AQ_RES, R.AQ_URES1, R.BLT_LOG1, R.BLT_LOG2, R.BLT_LOG3, R.BLT_SRC_FIRST1, R.BLT_SRC_LAST1, R.FOL_TTS1,
    R.FOL_TTS2, R.FOL_TTS3, R.SEC_POSDATA1, R.SEC_POSDATA2, R.SEC_POSDATA3, R.SEC_POSDATA4, R.SEC_POSDATA5, R.SEC_DBGCHAL1,
    R.SEC_DBGCHAL2, R.SEC_DBGCHAL3, R.SEC_DBGCHAL4, R.SEC_DBGCHAL5, R.SEC_DBGCHAL6, R.SEC_DBGCHAL7, R.PWR_DXINFO,
    R.LAN_L_LVL1, R.LAN_L_LVL2, R.LAN_L_LVL3]

/-- A segment entry's index (R57): two banks of 32 entries of eight words each. -/
def segIndex (a : Nat) : Option Nat :=
  if 0x61000 ≤ a ∧ a < 0x61800 ∧ a % 4 = 0 then some ((a - 0x61000) / 4) else none

/-- The bits of a register that belong to resources a GK-9632 lacks (R2): hub lanes 16-31 and 48-63, Quill pairs 8-15 and
Inkwell banks 32-63. -/
def smallAbsent (a : Nat) : Word :=
  if 0xD1000 ≤ a ∧ a < 0xD2000 ∧ 16 ≤ (a - 0xD1000) / 64 % 32 then 0xFFFFFFFF#32
  else if 0x100 ≤ a ∧ a < 0x200 ∧ 16 ≤ (a - 0x100) / 4 % 32 then 0xFFFFFFFF#32
  else if 0x40180 ≤ a ∧ a < 0x40200 then 0xFFFFFFFF#32
  else if has [R.LAN_UP0.addr, R.LAN_UP1.addr, R.STK_SDROP0.addr, R.STK_SDROP1.addr, R.TWN_LATHUB0.addr, R.TWN_LATHUB1.addr] a then
    0xFFFF0000#32
  else if a = R.DUC_CORESTAT.addr then 0xFF00FF00#32
  else if has [R.DUC_CORE.addr, R.DUC_CORERET.addr, R.PWR_QGATE.addr] a || (R.DUC_TASK_AFF.index a).isSome then 0xFF00#32
  else 0#32

/-- The bits of a register that belong to resources this part lacks (R2). -/
def absentBits (g : Gloesk) (a : Nat) : Word := if g.small then smallAbsent a else 0#32

/-- A 32-bit read by requester `who` (0 the host, q + 1 Quill pair q): the word, and what the read changes. A register that
does not exist reads as 0 (R443). -/
def readWord (g : Gloesk) (who a : Nat) : Gloesk × Nat :=
  match segIndex a with
  | some i => (g, (Tab.get 0 g.rul.seg i).toNat)
  | none =>
    if 0x8000 ≤ a ∧ a < 0x8080 ∧ a % 4 = 0 then (g, (Tab.get 0 g.hst.msixTable ((a - 0x8000) / 4)).toNat)
    else if a = 0x9000 then (g, g.hst.msixPend)
    else match g.specialRead who a with
    | some g' => g'.takeAnswer
    | none =>
      match latchedRegs.findSome? (fun r => (r.index a).map (fun i => (r, i))) with
      | some (r, i) => (g, if r == R.AQ_RES && g.latched who r == 0 then g.reg r i else g.latched who r i)
      | none =>
        let l := fieldsAt FieldList.gloesk a
        ({ g with regs := l.foldl fieldReadClear g.regs }, fieldsWord g.regs l)

/-- A read: bits of absent resources read as 0 (R2). -/
def readReg (g : Gloesk) (who a : Nat) : Gloesk × Nat :=
  let r := g.readWord who a
  (r.1, (BitVec.ofNat 32 r.2 &&& ~~~ g.absentBits a).toNat)

/-- REGISTER_READ_CLEAR: a read by `who`; an event of the counter field at bit `hit` in the same clock leaves it at 1 (R451). -/
def readClear (g : Gloesk) (who a : Nat) (hit : Option Nat) : Gloesk :=
  let r := g.readReg who a
  let g := r.1.answer who [r.2]
  match hit with
  | none => g
  | some b =>
    let l := (fieldsAt FieldList.gloesk a).filter (fun d => d.1.acc == .rc && d.1.lo == b)
    { g with regs := l.foldl (fun rf d => rf.addSat d.1 1 d.2) g.regs }

/-! ### Writes -/

/-- The block whose staging takes a write to an address (R53). -/
def blockOf (a : Nat) : Option Blk :=
  match a / 0x10000 with
  | 0x2 => some .blt | 0x4 => some .ink | 0x6 => some .rul | 0x8 => some .lpe | 0x9 => some .rnk | 0xA => some .stk | 0xB => some .twn
  | 0xF => some .aq | _ => none

/-- A field that the settings bundle holds and that host writes reach while the stroke cycle is stopped. -/
def hostBundle (f : Fld) : Bool := bundleField f && f.kind != .signed

/-- A block in which host writes to bundle fields are ignored while the stroke cycle runs (R97, R124, R135, R162). -/
def frozenBlock (a : Nat) : Bool := has [0x7, 0x8, 0x9, 0xA, 0xB] (a / 0x10000)

/-- Whether software may change an RW field by a plain write now. -/
def mayWrite (g : Gloesk) (f : Fld) : Bool :=
  (f.kind == .plain || f.kind == .bundle) && !(hostBundle f && frozenBlock f.reg.addr && g.running)

/-- A write that reaches bundle fields while the stroke cycle runs is ignored and counted (R97, R124, R135, R162). One to a
register that also holds other writable fields counts where it would have changed a bundle field. -/
def countIgnored (g : Gloesk) (v : Nat) (l : List (Fld × Nat)) : Gloesk :=
  let held := l.filter (fun d => hostBundle d.1 && frozenBlock d.1.reg.addr)
  let other := l.any (fun d => !(hostBundle d.1) && d.1.acc != .ro && d.1.acc != .rc)
  let lost := !held.isEmpty && (!other || held.any (fun d => g.rd d.1 d.2 != bits v d.1.lo d.1.wid))
  if !g.running || !lost then g
  else match (l.head?.map (fun d => d.1.reg.addr)).getD 0 / 0x8000 with
  | 0xE => g.inc F.SVI_AGREE1_WREJ
  | 0x10 => g.inc F.LPE_ERRCNT_WREJ
  | 0x11 => g.inc F.FLR_ERRCNT_WREJ
  | 0x12 => g.inc F.RNK_ERRCNT_WREJ
  | _ => g

/-- A write of the fields at an address that have no action of their own; bits set in `skip` are kept. -/
def plainWrite (g : Gloesk) (a v : Nat) (skip : Fld → Bool := fun _ => false) : Gloesk :=
  let l := (fieldsAt FieldList.gloesk a).filter (fun d => !(skip d.1))
  let g := g.countIgnored v l
  let may := g.mayWrite
  { g with regs := l.foldl (fieldWrite v may) g.regs }

/-- A write reaches staged fields: RW ones always, W1S ones where the bit is 1. -/
def stagedPart (g : Gloesk) (a v : Nat) : Gloesk :=
  let l := (fieldsAt FieldList.gloesk a).filter (fun d => d.1.kind == .staged && (d.1.acc == .rw || (d.1.acc == .w1s && bit v d.1.lo)))
  match blockOf a with
  | some b =>
    if l.isEmpty then g
    else if b = .twn then g.stagedWrite b a (if a = R.TWN_BUNDLE.addr then v % 4 else v &&& 0x81)
    else g.stagedWrite b a v
  | none => g

/-- Whether a write has the W1S bit of a field set. -/
def asks (f : Fld) (v : Nat) : Bool := bit v f.lo

/-- A flag-driven action on the state. -/
def whenBit (g : Gloesk) (f : Fld) (v : Nat) (act : Gloesk → Gloesk) : Gloesk := if asks f v then act g else g

/-- Writes in BLT (R366-R369, R373). -/
def writeBlt (g : Gloesk) (a v : Nat) : Gloesk :=
  if a = R.BLT_LOGCTL.addr then g.whenBit F.BLT_LOGCTL_POP v (·.logPop)
  else if a = R.BLT_CREL.addr then g.stagedWrite .blt a (v % 2 ^ 13)
  else match R.BLT_SRC_STAT.index a with
  | some n => g.whenBit F.BLT_SRC_STAT_SET v (·.sourceClear n)
  | none => match R.BLT_SRC_CTRL.index a with
    | some n => g.sourceForce n (bit v 0)
    | none => match R.BLT_ALERT.index a with
      | some n => (g.plainWrite a v).whenBit F.BLT_ALERT_REL v (·.alertRel n)
      | none => ((g.plainWrite a v).stagedPart a v).showAny

/-- Writes in DUC (R302-R305). -/
def writeDuc (g : Gloesk) (a v : Nat) : Gloesk :=
  if a = R.DUC_CTRL.addr then g.ductusEnable (bit v 0)
  else if a = R.DUC_CTXBASE.addr then g.contextBase v
  else if a = R.DUC_CORE.addr then g.coreEnableWrite (v % 2 ^ 16)
  else if a = R.DUC_CORERET.addr then g.coreReturn (v % 2 ^ 16)
  else if a = R.DUC_TCMD.addr then g.taskCommand (v % 256) (bits v 8 3)
  else if 0x31000 ≤ a ∧ a % 64 < 0x20 then g.descriptorWrite ((a - 0x31000) / 64) (fun g => g.plainWrite a v)
  else g.plainWrite a v

/-- Writes in INK (R311, R318, R319, R324): the layout is writable until it is locked. -/
def writeInk (g : Gloesk) (a v : Nat) : Gloesk :=
  if a = R.INK_CTRL.addr then (g.plainWrite a v).whenBit F.INK_CTRL_LOCK v (·.layoutLock)
  else if a = R.INK_RESIZE.addr then g.stagedWrite .ink a (v % 16 + bits v 16 11 * 2 ^ 16)
  else if a = R.INK_SPARE.addr then
    (g.plainWrite a v).whenBit F.INK_SPARE_REQ v (fun g => g.spareReq (bits v 8 6))
  else if a = R.INK_RINV.addr then g.rinv (bit v 0) (bits v 12 20)
  else if 0x40200 ≤ a ∧ a < 0x40300 ∧ a % 16 ≠ 12 ∧ g.on F.INK_STATUS_LOCKED then g.inc F.INK_ERRCNT1_RSZREJ
  else g.plainWrite a v

/-- Writes in PTP (R28, R36, R39). -/
def writePtp (g : Gloesk) (a v : Nat) : Gloesk :=
  if a = R.PTP_PERIOD.addr then g.periodWrite v
  else if a = R.PTP_RATE.addr then g.rateWrite v
  else ((g.plainWrite a v).iff (a == R.PTP_CTRL.addr && asks F.PTP_CTRL_STEP_REQ v) (·.stepReq)).rolesChanged

/-- Writes in SVI (R84, R97). -/
def writeSvi (g : Gloesk) (a v : Nat) : Gloesk :=
  if a = R.SVI_CTRL.addr then
    if g.running then g.plainWrite a v
    else (g.plainWrite a v (fun f => f == F.SVI_CTRL_MODE)).sviModeWrite (bits v 1 2) g.allBlocked
  else if a = R.SVI_CUTOFF.addr then
    if g.running || decide (100 ≤ v % 1024 ∧ v % 1024 ≤ 480) then g.plainWrite a v else g.inc F.SVI_AGREE1_WREJ
  else match R.SVI_GP_TRIG.index a with
  | some n => g.whenBit F.SVI_GP_TRIG_TRIG v (·.gooseTrig n)
  | none => g.plainWrite a v

/-- Writes of a table's CFG while the stroke cycle is stopped may enable it (R127). -/
def flrWrite (g : Gloesk) (t a v : Nat) : Gloesk :=
  let was := g.on F.FLR_T_CFG_EN t
  let g := (g.plainWrite a v).stagedPart a v
  g.iff (!was && g.on F.FLR_T_CFG_EN t) (·.flrEnable t)

/-- Actions 0 and 3 of a command register queue nothing (R124, R164). -/
def queues (act : Nat) : Bool := act == 1 || act == 2

/-- Writes in LPE and FLR (R120-R124, R135, R139, R140). -/
def writeLpe (g : Gloesk) (a v : Nat) : Gloesk :=
  if a = R.LPE_XDATA0.addr then g.lpeXdataWrite v
  else if a = R.LPE_XDATA1.addr then
    g.plainWrite a v |>.each (List.range 17) (fun g who => g.latch who R.LPE_XDATA1 v)
  else if a = R.LPE_CTRL.addr then (g.plainWrite a v).showAref
  else if a = R.LPE_OPCMD.addr then (if queues (bits v 8 2) then g.stagedWrite .lpe a (v % 64 + bits v 8 2 * 256) else g)
  else if a = R.LPE_CWVAL.addr then g.stagedWrite .lpe a (g.rd F.LPE_CWIDX_IDX * 2 ^ 18 + v % 2 ^ 18)
  else if (R.LPE_PARAM.index a).isSome then g.stagedWrite .lpe a v
  else match R.FLR_T_CFG.index a with
  | some t => g.flrWrite t a v
  | none => match R.FLR_TAP_CFG.index a with
    | some t => g.tapCfgWrite t v
    | none => match R.FLR_TAP_CTRL.index a with
      | some t => (g.whenBit F.FLR_TAP_CTRL_START v (·.tapStart t)).whenBit F.FLR_TAP_CTRL_TRIG v (·.tapTrigger t)
      | none => match R.FLR_TAP_BASE.index a with
        | some t => g.tapFieldWrite F.FLR_TAP_BASE_OFS t v
        | none => match R.FLR_TAP_SIZE.index a with
          | some t => g.tapFieldWrite F.FLR_TAP_SIZE_LOG t v
          | none => match R.FLR_TAP_POST.index a with
            | some t => g.tapFieldWrite F.FLR_TAP_POST_POST t v
            | none => match R.LPE_SLOT_CFG0.index a with
              | some s => (g.plainWrite a v).iff (!g.running) (·.slotShow s)
              | none => (g.plainWrite a v).stagedPart a v

/-- Writes in AQ (R226, R228, R232, R237). -/
def writeAq (g : Gloesk) (a v : Nat) : Gloesk :=
  if a = R.AQ_CTRL.addr then g.aqEnable (bit v 0)
  else if a = R.AQ_URG.addr then
    (g.wr F.AQ_URG_INPUT (v % 32)).whenBit F.AQ_URG_REQ v (fun g => g.aqUrgentRequest (v % 32))
  else if a = R.AQ_STAT.addr then
    ((g.plainWrite a v (fun f => f == F.AQ_STAT_DRIFT || f == F.AQ_STAT_HARD)).whenBit F.AQ_STAT_DRIFT v (·.driftClear false)).whenBit
      F.AQ_STAT_HARD v (·.driftClear true)
  else if a = R.AQ_REFCTL.addr then (g.whenBit F.AQ_REFCTL_SEL v (·.up F.AQ_REFCTL_SEL)).whenBit F.AQ_REFCTL_XOFF v (·.up F.AQ_REFCTL_XOFF)
  else (g.plainWrite a v).stagedPart a v

/-- Writes in FOL (R387, R393, R395). -/
def writeFol (g : Gloesk) (a v : Nat) : Gloesk :=
  if a = R.FOL_CTRL.addr then g.folioCtrl v
  else if a = R.FOL_SRBASE0.addr then g.iff (!(g.on F.FOL_CTRL_SR_EN)) (·.plainWrite a v)
  else if 0xC1000 ≤ a then g.entryWrite ((a - 0xC1000) / 8) (fun g => g.plainWrite a v)
  else match R.FOL_F_CTRL.index a with
  | some n =>
    (((g.whenBit F.FOL_F_CTRL_ARM v (·.folioArm n)).whenBit F.FOL_F_CTRL_TRIG v (·.folioTrig n)).whenBit F.FOL_F_CTRL_FREE v
      (·.folioFree n)).whenBit F.FOL_F_CTRL_ABORT v (·.folioAbort n)
  | none =>
    if 0xC0100 ≤ a ∧ (a - 0xC0100) % 64 ≤ 0x18 then g.folioWrite ((a - 0xC0100) / 64) (fun g => g.plainWrite a v)
    else g.plainWrite a v

/-- Writes in PWR (R461, R468, R471, R473). -/
def writePwr (g : Gloesk) (a v : Nat) : Gloesk :=
  if a = R.PWR_CTRL.addr then g.whenBit F.PWR_CTRL_REBOOT v (·.reboot)
  else if a = R.PWR_QGATE.addr then g.qgateWrite (v % 2 ^ 16)
  else if a = R.PWR_QCTL.addr then
    if asks F.PWR_QCTL_GO v then g.flashCommand (bits v 0 1) (bits v 8 8) (bits v 16 2) (bits v 20 9) else g.plainWrite a v
  else if a = R.PWR_QDATA.addr then g.qdataWrite v
  else if a = R.PWR_IMGCELL.addr then g.cellLoad (v % 2 ^ 13)
  else if a = R.PWR_IMG.addr then (g.plainWrite a v).hubAuto (g.on F.PWR_IMG_HUBAUTO)
  else g.plainWrite a v

/-- Writes in HST (R449, R452); vector 5 is sent when Quill firmware writes the doorbell. -/
def writeHst (g : Gloesk) (who a v : Nat) : Gloesk :=
  if a = R.HST_DPCTL.addr then (g.plainWrite a v).whenBit F.HST_DPCTL_ADV v (·.portAdv)
  else if a = R.HST_DOORBELL.addr then (if who = 0 then g.plainWrite a v else g.doorbell v)
  else g.plainWrite a v

/-- Writes in TWN (R53, R344, R349, R353). -/
def writeTwn (g : Gloesk) (a v : Nat) : Gloesk :=
  let g := (g.plainWrite a v).stagedPart a v
  g.iff (a == R.TWN_CTRL.addr && asks F.TWN_CTRL_JOIN v) (fun g => g.joinRequest g.twin.peerView)

/-- SW_CANCEL of each block that stages. -/
def cancelFields : List (Fld × Blk) :=
  [(F.RUL_CTRL_SW_CANCEL, .rul), (F.LPE_CTRL_SW_CANCEL, .lpe), (F.RNK_CTRL_SW_CANCEL, .rnk), (F.STK_CTRL_SW_CANCEL, .stk),
    (F.TWN_CTRL_SW_CANCEL, .twn), (F.BLT_CTRL_SW_CANCEL, .blt), (F.AQ_GCTRL_SW_CANCEL, .aq), (F.INK_CTRL_SW_CANCEL, .ink)]

/-- A write with SW_CANCEL set (R53 item 7). -/
def cancelPart (g : Gloesk) (a v : Nat) : Gloesk :=
  (cancelFields.filter (fun e => e.1.reg.addr == a && asks e.1 v)).foldl (fun (g : Gloesk) e => g.recordCancel e.2) g

/-- The action of a write, block by block (R443). -/
def blockWrite (g : Gloesk) (who a v : Nat) : Gloesk :=
  match a / 0x10000 with
  | 0x0 => g.writeHst who a v
  | 0x1 => g.writePwr a v
  | 0x2 => g.writeBlt a v
  | 0x3 => g.writeDuc a v
  | 0x4 => g.writeInk a v
  | 0x5 => g.writePtp a v
  | 0x6 => if a = R.RUL_ANGLE.addr then g.angleWrite v else (g.plainWrite a v).stagedPart a v
  | 0x7 => g.writeSvi a v
  | 0x8 => g.writeLpe a v
  | 0x9 => if a = R.RNK_CXDATA0.addr then g.cxWrite v
    else if a = R.RNK_HOCMD.addr then (if queues (bits v 16 2) then g.stagedWrite .rnk a (v % 2 ^ 13 + bits v 16 2 * 2 ^ 16) else g)
    else (g.plainWrite a v).stagedPart a v
  | 0xA => (g.plainWrite a v).stagedPart a v
  | 0xB => g.writeTwn a v
  | 0xC => g.writeFol a v
  | 0xD => if a = R.LAN_CALREQ.addr ∧ asks F.LAN_CALREQ_GO v = true then g.calRequest (v % 128) else g.plainWrite a v
  | 0xE => if a = R.SEC_DBGCTL.addr then g.whenBit F.SEC_DBGCTL_CLOSE v (·.debugClose) else g.plainWrite a v
  | 0xF => g.writeAq a v
  | _ => g

/-- A 32-bit write by requester `who` with byte enables `be` (R443, R444). -/
def writeReg (g : Gloesk) (who a v be : Nat) : Gloesk :=
  if be ≠ 15 then g.inc F.HST_STATUS_BADCNT
  else match segIndex a with
  | some i => g.segEntryWrite i v
  | none =>
    if 0x8000 ≤ a ∧ a < 0x8080 ∧ a % 4 = 0 then g.msixWrite ((a - 0x8000) / 4) v
    else if a = 0x9000 then g
    else if (fieldsAt FieldList.gloesk a).isEmpty then g.inc F.HST_STATUS_BADCNT
    else match Blk.all.find? (fun b => b.lo.any (fun f => f.reg.addr == a)) with
    | some b => g.recordCommit b v
    | none =>
      let absent := g.absentBits a
      if absent = 0xFFFFFFFF#32 then g
      else
        let v := (BitVec.ofNat 32 v &&& ~~~ absent).toNat
        (g.cancelPart a v).blockWrite who a v

/-- REGISTER_WRITE: a write by `who` in a clock in which hardware sets the ST and W1C bits of `hit`: those stay set (R6). -/
def writeHit (g : Gloesk) (who a v be hit : Nat) : Gloesk :=
  let kept := (fieldsAt FieldList.gloesk a).foldl (fun (n : Nat) d =>
    if d.1.acc == .st || d.1.acc == .w1c then n + bits hit d.1.lo d.1.wid * 2 ^ d.1.lo else n) 0
  g.writeReg who a (clearBits v kept) be

end Gloesk

end Sys2Proof.Machine
end

