-- ==== Sys2Proof/Machine/PartAccess.lean ====
section
/-!
DEFINITION. Register accesses on the Stanak and on the Ihloon, and the management messages that carry them (R172, R188, R189,
R191, R214, R379, R428).
-/

namespace Sys2Proof.Machine

namespace Stanak

/-! ### The hub's registers -/

def latch (h : Stanak) (who : Nat) (r : Reg) (v i : Nat) : Stanak :=
  { h with latches := Tab.set 0 h.latches (who * 2 ^ 24 + r.at i) (BitVec.ofNat 32 v) }

def latched (h : Stanak) (who : Nat) (r : Reg) (i : Nat) : Nat := (Tab.get 0 h.latches (who * 2 ^ 24 + r.at i)).toNat

/-- The address is a register of the hub. -/
def regAt (a : Nat) : Bool := !(fieldsAt FieldList.stanak a).isEmpty

/-- Whether an access is answered over an uplink without keys: the SEC window and the identification register (R428). -/
def openAccess (a : Nat) : Bool := a == R.HUB_ID.addr || decide (0x7000 ≤ a ∧ a < 0x8000)

/-- A 32-bit read over uplink `u`. Reading LVL0 latches LVL1-LVL3 and STAT.FOM (R418). -/
def readReg (h : Stanak) (u a : Nat) : Stanak × Nat :=
  match R.HLAN_L_LVL0.index a with
  | some n =>
    let h := [R.HLAN_L_LVL1, R.HLAN_L_LVL2, R.HLAN_L_LVL3].foldl (fun (h : Stanak) r => h.latch u r (h.reg r n) n) h
    (h.latch u R.HLAN_L_STAT (2 ^ 31 + h.rd F.HLAN_L_STAT_FOM n) n, h.reg R.HLAN_L_LVL0 n)
  | none =>
    match [R.HLAN_L_LVL1, R.HLAN_L_LVL2, R.HLAN_L_LVL3].findSome? (fun r => (r.index a).map (fun i => (r, i))) with
    | some (r, i) => (h, h.latched u r i)
    | none =>
      let l := fieldsAt FieldList.stanak a
      let w := fieldsWord h.regs l
      let h' : Stanak := { h with regs := l.foldl fieldReadClear h.regs }
      match R.HLAN_L_STAT.index a with
      | some n => (h', if bit (h.latched u R.HLAN_L_STAT n) 31 then
          (F.HLAN_L_STAT_FOM.into (BitVec.ofNat 32 w) (h.latched u R.HLAN_L_STAT n)).toNat else w)
      | none => (h', w)

/-- A write would change a field that only the station map or an owner-signed bundle writes (R191, R379). -/
def denied (h : Stanak) (a v : Nat) : Bool :=
  (fieldsAt FieldList.stanak a).any (fun d => (d.1.kind == .map || d.1.kind == .signed) && h.rd d.1 d.2 != bits v d.1.lo d.1.wid)

/-- A 32-bit write over uplink `u` that is not denied; `map` marks a write of the Gloesk from its verified station map. -/
def writeReg (h : Stanak) (u a v : Nat) (map : Bool) : Stanak :=
  if a = R.HUB_RST.addr then h.iff (bit v 0) (·.hubReset)
  else if a = R.HUB_CAL.addr then h.iff (bit v 25) (fun h => h.calGrant (bits v 20 5))
  else if a = R.HSEC_ATT.addr then h.wr F.HSEC_ATT_STAND v
  else if a = R.HSEC_EPOCH.addr then h.epochWrite u v
  else if a = R.HSEC_DBGCTL.addr then h.iff (bit v 8) (·.debugClose)
  else match R.HBLT_SRC_STAT.index a with
  | some n => (h.iff (bit v 0) (·.sourceClear n)).iff (bit v 2 != h.on F.HBLT_SRC_STAT_FORCE n) (fun h => h.sourceForce n (bit v 2))
  | none =>
    let may (f : Fld) : Bool := f.kind == .plain || (f.kind == .map && map)
    let h : Stanak := { h with regs := (fieldsAt FieldList.stanak a).foldl (fieldWrite v may) h.regs }
    (h.iff (R.HUB_SLOT0.addr ≤ a && a < R.HUB_SLOT0.addr + 24) (·.startPorts)).showGates

/-! ### The hub management channel (R188, R189) -/

/-- A response on an uplink: OP 3, 4 or 5, TID, TARGET, PORT, ADDR, STATUS and the words. -/
def respond (h : Stanak) (u op tid target port addr status : Nat) (ws : List Nat) : Stanak :=
  h.frame u 0x10 h.stroke 0 [mgmtBody op tid (ws.length - 1) target port addr status ws]

/-- Reads of consecutive registers, in increasing order. -/
def readMany (h : Stanak) (u a n : Nat) : Stanak × List Nat :=
  (List.range n).foldl (fun (s : Stanak × List Nat) i =>
    let r := s.1.readReg u (a + 4 * i)
    (r.1, s.2 ++ [r.2])) (h, [])

/-- Writes of consecutive registers. -/
def writeMany (h : Stanak) (u a : Nat) (ws : List Nat) (map : Bool) : Stanak :=
  (ws.zip (List.range ws.length)).foldl (fun (h : Stanak) e => h.writeReg u (a + 4 * e.2) e.1 map) h

/-- A request to the hub itself: the code of R189, or what it does. -/
def ownRequest (h : Stanak) (u op tid n addr : Nat) (ws : List Nat) (map : Bool) : Stanak :=
  let addrs := (List.range n).map (fun i => addr + 4 * i)
  if !(addrs.all regAt) then h.respond u 5 tid 0 0 addr 1 []
  else if op = 1 then
    let r := h.readMany u addr n
    r.1.respond u 3 tid 0 0 addr 0 r.2
  else if !map && (addrs.zip ws).any (fun e => h.denied e.1 e.2) then h.respond u 5 tid 0 0 addr 4 []
  else (h.writeMany u addr ws map).respond u 4 tid 0 0 addr 0 []

/-- HUB_MGMT_REQUEST on uplink `u`: executed, relayed to a cell, or answered with a code (R188, R189). Over an uplink without
keys only the hub's own SEC window and identification are reached (R428). -/
def mgmtRequest (h : Stanak) (u op tid count target port addr : Nat) (ws : List Nat) (map : Bool) : Stanak :=
  let n := count + 1
  let keyed := h.trust.keyed.contains u
  if h.rd F.HLAN_L_STAT_RXST u ≠ 4 then h
  else if !keyed && (target != 0 || !((List.range n).all (fun i => openAccess (addr + 4 * i)))) then h
  else if (op ≠ 1 ∧ op ≠ 2) ∨ addr % 4 ≠ 0 ∨ (op = 2 ∧ ws.length ≠ n) ∨ (target = 1 ∧ 7 < count) then
    h.respond u 5 tid target port addr 5 []
  else if target = 0 then h.ownRequest u op tid n addr ws map
  else if !(h.populated port) then h.respond u 5 tid 1 port addr 1 []
  else if h.rd F.HLNK_LK_STAT_RXST port ≠ 3 then h.respond u 5 tid 1 port addr 2 []
  else if 16 ≤ (h.hub.relays.filter (fun r => r.uplink = u)).length then h.respond u 5 tid 1 port addr 6 []
  else
    (h.onHub (fun s => { s with relays := s.relays ++ [⟨u, tid, port, op == 2, addr, count⟩] })).message
      port 3 (mgmtMessage op count tid addr ws)

/-- The oldest relayed request that a message of a cell port answers. -/
def relayOf (h : Stanak) (port tid : Nat) (write : Option Bool) : Option HubRelay :=
  h.hub.relays.find? (fun r => r.port == port && r.tid == tid && (match write with
    | some w => r.write == w
    | none => true))

/-- The cell's answer goes to the uplink that carried the request. A wrong tag discards it (R172). -/
def cellAnswer (h : Stanak) (port tid : Nat) (write : Option Bool) (status : Nat) (ws : List Nat) : Stanak :=
  match h.relayOf port tid write with
  | none => h
  | some r =>
    let h := h.onHub (fun s => { s with relays := s.relays.erase r })
    h.respond r.uplink (if status ≠ 0 then 5 else if r.write then 4 else 3) tid 1 port r.addr status ws

/-- MGMT_READ_RESPONSE, MGMT_WRITE_ACK and MGMT_ERROR at the hub. An error about an image block goes to the uplink that
streams the images, with the port and the block index (R471). -/
def readResponse (h : Stanak) (port tid : Nat) (ws : List Nat) : Stanak := h.cellAnswer port tid (some false) 0 ws
def writeAck (h : Stanak) (port tid : Nat) : Stanak := h.cellAnswer port tid (some true) 0 []
def mgmtError (h : Stanak) (port tid code : Nat) (block : Option Nat) : Stanak :=
  match block with
  | some i => h.respond (h.rd F.HUB_BOOT_SRCU) 5 tid 1 port i code []
  | none => h.cellAnswer port tid none code []

/-- CELL_MGMT_TIMEOUT: no response to the oldest request on the port within 100 µs (R189): code 3, source 9. -/
def mgmtTimeout (h : Stanak) (port : Nat) : Stanak :=
  match h.hub.relays.find? (fun r => r.port = port) with
  | none => h
  | some r =>
    let h := ((h.onHub (fun s => { s with relays := s.relays.erase r })).inc F.HUB_ERRCNT1_MGTO).raiseAt 9 port
    h.respond r.uplink 5 r.tid 1 port r.addr 3 []

end Stanak

namespace Ihloon

/-! ### The debug unit (R286) -/

/-- A debug session with permission bit 2 is open (R438). -/
def debugOpen (c : Ihloon) : Bool := match c.trust.session with
  | some e => bit e.1 2
  | none => false

/-- DEBUG_HALT, DEBUG_RESUME and DEBUG_STEP of the Quill-S, reached over the management channel. -/
def debugHalt (c : Ihloon) (T tick : Nat) : Ihloon :=
  if c.debugOpen && c.mainRuns then (c.onCore (·.dbgHalt)).freeze T tick false else c
def debugResume (c : Ihloon) : Ihloon :=
  if c.debugOpen && c.mainRuns && c.cell.core.halted then (c.onCore (·.dbgResume)).freezeResume else c
def debugStep (c : Ihloon) (T tick : Nat) : Ihloon :=
  if c.debugOpen && c.mainRuns then (c.onCore (·.dbgStep)).freeze T tick false else c

/-- A register of the debug unit. -/
def debugReg (a : Nat) : Bool := decide (0x6000 ≤ a ∧ a < 0x6020 ∨ 0x6100 ≤ a ∧ a < 0x6180) && a % 4 == 0

/-- A write of the debug unit within a session; `tick` is the instant within the stroke. -/
def debugWrite (c : Ihloon) (T tick a v : Nat) : Ihloon :=
  if !c.debugOpen then c
  else
    let c := c.onCore (fun k => k.dbgWrite false (a - 0x6000) v)
    if a ≠ 0x6000 then c
    else ((c.iff (bit v 0) (·.debugHalt T tick)).iff (bit v 1) (·.debugResume)).iff (bit v 2) (·.debugStep T tick)

/-! ### The cell's registers -/

/-- The address is a register of the cell. -/
def regAt (a : Nat) : Bool := debugReg a || !(fieldsAt FieldList.ihloon a).isEmpty

/-- An access answered over a link without keys (R428). -/
def openAccess (a : Nat) : Bool := a == R.LNK_ID.addr || decide (0x8000 ≤ a ∧ a < 0x9000)

/-- The last answer's word, without the answer. -/
def takeAnswer (c : Ihloon) : Ihloon × Nat :=
  ({ c with sent := c.sent.dropLast }, ((c.sent.getLast?.map (·.args)).getD []).getD 1 0)

/-- Registers read from a latch. -/
def latchedRegs : List Reg := [R.CAQ_RES, R.CAQ_URES1] ++ (lfrRegs true).drop 1 ++ (lfrRegs false).drop 1

/-- A 32-bit read by link 0 or 1, or 2 the Quill-S. -/
def readReg (c : Ihloon) (who a : Nat) : Ihloon × Nat :=
  if a = R.CAQ_RES.addr then (c.aqRes0Read who).takeAnswer
  else if a = R.CAQ_URES0.addr then (c.aqUres0Read who).takeAnswer
  else if debugReg a then
    if who < 2 ∧ c.debugOpen = true then
      let r := c.cell.core.dbgRead false (a - 0x6000)
      (c.onCore (fun _ => r.1), r.2)
    else (c, 0)
  else if a = R.RSV_LFRF0.addr then (c.lfrRead who true).takeAnswer
  else if a = R.RSV_LFRL0.addr then (c.lfrRead who false).takeAnswer
  else match latchedRegs.findSome? (fun r => (r.index a).map (fun i => (r, i))) with
  | some (r, i) => (c, if r == R.CAQ_RES && c.latched who r == 0 then c.reg r i else c.latched who r i)
  | none =>
    let l := fieldsAt FieldList.ihloon a
    ({ c with regs := l.foldl fieldReadClear c.regs }, fieldsWord c.regs l)

/-- A write would change a signed field; a 1 in a W1S signed field is a change (R214). -/
def denied (c : Ihloon) (a v : Nat) : Bool :=
  (fieldsAt FieldList.ihloon a).any (fun d => d.1.kind == .signed &&
    (if d.1.acc == .w1s then bit v d.1.lo else d.1.acc == .rw && c.rd d.1 d.2 != bits v d.1.lo d.1.wid))

/-- The fields of a write that have no action of their own. -/
def plainWrite (c : Ihloon) (a v : Nat) (skip : Fld → Bool := fun _ => false) : Ihloon :=
  let l := (fieldsAt FieldList.ihloon a).filter (fun d => !(skip d.1))
  { c with regs := l.foldl (fieldWrite v (fun f => f.kind == .plain)) c.regs }

/-- A 32-bit write that is not denied, by link 0 or 1, or 2 the Quill-S; `tick` is the instant within the stroke for what acts at
once. -/
def writeReg (c : Ihloon) (T tick who a v : Nat) : Ihloon :=
  let mgmt := decide (who < 2)
  if a = R.LNK_CMD.addr then c.iff (mgmt && bit v 8) (·.clrSafe)
  else if debugReg a then c.iff mgmt (·.debugWrite T tick a v)
  else if a = R.LNK_HSTAT.addr then c.plainWrite a v (fun f => f == F.LNK_HSTAT_SAFE)
  else if a = R.NIB_CTRL.addr then (if bit v 0 then c.nibEnable else c.nibDisable T tick)
  else if a = R.NIB_AUX.addr then (c.plainWrite a v).showAux
  else if a = R.PRT_STAT.addr then
    let c := (below 5 (bit v)).foldl (fun (c : Ihloon) b =>
      c.iff (if b < 4 then bit (c.rd F.PRT_STAT_TRIP) b else c.on F.PRT_STAT_OVP) (·.latchClear b)) c
    c.iff (bit v 6 && c.on F.PRT_STAT_ILOCK) (·.ilockClear)
  else if a = R.CAQ_CTRL.addr then c.aqEnable (bit v 0)
  else if a = R.CAQ_URG.addr then
    if bit v 8 then c.urgentRequest T tick (v % 32) else c.plainWrite a v
  else if a = R.CAQ_STAT.addr then
    ((c.plainWrite a v (fun f => f == F.CAQ_STAT_DRIFT || f == F.CAQ_STAT_HARD)).iff (bit v 8) (·.driftClear false)).iff
      (bit v 9) (·.driftClear true)
  else if a = R.CAQ_REFCTL.addr then (c.iff (mgmt && bit v 0) (·.up F.CAQ_REFCTL_SEL)).iff (mgmt && bit v 1) (·.up F.CAQ_REFCTL_XOFF)
  else if a = R.RSV_FWCTL.addr then
    (((c.iff (mgmt && bit v 0) (·.fwErase)).iff (bit v 1) (·.fwVerify)).iff (mgmt && bit v 2) (·.fwActivate T tick)).iff
      (!mgmt && bit v 3) (·.fwConfirm)
  else if a = R.RSV_LFRCLR.addr then c.iff (bit v 0) (·.lfrClear)
  else if a = R.CSEC_ATT.addr then c.iff mgmt (·.verdict (v % 4))
  else if a = R.CSEC_EPOCH.addr then c.iff mgmt (·.epochWrite who v)
  else if a = R.CSEC_DBGCTL.addr then c.iff (bit v 8) (·.debugClose)
  else match R.CBLT_SRC_STAT.index a with
  | some n => (c.iff (bit v 0) (·.sourceClear n)).iff (bit v 2 != c.on F.CBLT_SRC_STAT_FORCE n) (fun c => c.sourceForce n (bit v 2))
  | none => c.plainWrite a v

/-- A write by cell firmware: one that would change a signed field is ignored and counted (R214). -/
def firmwareWrite (c : Ihloon) (T tick a v : Nat) : Ihloon :=
  if c.denied a v then c.inc F.PRT_ERRCNT_WDEN else c.writeReg T tick 2 a v

/-! ### Management messages (R172, R189) -/

/-- A message to the hub over link `p`. -/
def respond (c : Ihloon) (p op tid addr : Nat) (ws : List Nat) : Ihloon :=
  c.message p 3 (mgmtMessage op (ws.length - 1) tid addr ws)

/-- Whether a management message is taken: main domain, link, tag, keys (R172, R428). -/
def takesMgmt (c : Ihloon) (p : Nat) (m : LinkMsg) (addrs : List Nat) : Bool :=
  c.mainRuns && c.rd F.LNK_LK_STAT_RXST p == 3 && m.recent c.stroke && (c.trust.keyed.contains p || addrs.all openAccess)

/-- A message that is not taken is discarded; bad framing and a tag that fails are counted with the link's discards (R170,
R172). -/
def tagBad (c : Ihloon) (p : Nat) (m : LinkMsg) : Ihloon :=
  c.iff (c.mainRuns && c.rd F.LNK_LK_STAT_RXST p == 3 && !(m.recent c.stroke)) (·.inc F.LNK_LK_CNT1_MDISC p)

/-- MGMT_READ_REQUEST over link `p`. -/
def mgmtRead (c : Ihloon) (p : Nat) (m : LinkMsg) (tid addr cnt : Nat) : Ihloon :=
  let addrs := (List.range (cnt + 1)).map (fun i => addr + 4 * i)
  if !(c.takesMgmt p m addrs) then c.tagBad p m
  else if addr % 4 ≠ 0 ∨ 7 < cnt then c.respond p 5 tid addr [5]
  else if !(addrs.all regAt) then c.respond p 5 tid addr [1]
  else
    let r := addrs.foldl (fun (s : Ihloon × List Nat) a =>
      let x := s.1.readReg p a
      (x.1, s.2 ++ [x.2])) (c, [])
    r.1.respond p 3 tid addr r.2

/-- MGMT_WRITE_REQUEST over link `p`; an object streamed through the SEC window is verified when its last word is written
(R428). -/
def mgmtWrite (c : Ihloon) (T tick p : Nat) (m : LinkMsg) (tid addr : Nat) (ws : List Nat) (obj : Option (Envelope × Delivery)) :
    Ihloon :=
  let addrs := (List.range ws.length).map (fun i => addr + 4 * i)
  if !(c.takesMgmt p m addrs) then c.tagBad p m
  else if addr % 4 ≠ 0 ∨ ws.isEmpty ∨ 8 < ws.length then c.respond p 5 tid addr [5]
  else if !(addrs.all regAt) then c.respond p 5 tid addr [1]
  else if (addrs.zip ws).any (fun e => c.denied e.1 e.2) then c.respond p 5 tid addr [4]
  else
    let c := (addrs.zip ws).foldl (fun (c : Ihloon) e => c.writeReg T tick p e.1 e.2) c
    let c := match obj with
      | some (e, d) => c.deliver T e d
      | none => c
    c.respond p 4 tid addr []

/-- IMAGE_BLOCK over link `p`: programmed, acknowledged or refused (R172, R255). -/
def imageMessage (c : Ihloon) (p : Nat) (m : LinkMsg) (tid idx cnt data : Nat) : Ihloon :=
  if !(c.takesMgmt p m [0]) then c.tagBad p m
  else
    let r := c.imageBlock idx cnt data
    if r.2 = 0 then r.1.respond p 4 tid idx [] else r.1.respond p 5 tid idx [r.2]

end Ihloon

end Sys2Proof.Machine
end

