-- ==== Sys2Proof/Machine/QuillRun.lean ====
section
/-!
DEFINITION. A core executes one instruction (R258-R286): fetch, legality, exceptions, loads and stores, control registers, waits,
posts, locks and moves on the Quill; interrupts and exceptions on the Quill-S; the debug units. A command that names an
instruction has an effect only where the word at the core's pc is that instruction.
-/

namespace Sys2Proof.Machine

/-! ### Debug windows (R286) -/

namespace Gloesk

/-- A debug session with permission bit 0 is open (R438). -/
def debugOpen (g : Gloesk) : Bool := match g.trust.session with
  | some e => bit e.1 0
  | none => false

/-- The pair and the offset of an address in the debug windows. -/
def debugAt (a : Nat) : Option (Nat × Nat) :=
  if 0x100000 ≤ a ∧ a < 0x500000 then some ((a - 0x100000) / 0x40000, (a - 0x100000) % 0x40000) else none

/-- A 32-bit read by the host: the debug windows beside the registers. -/
def hostRead (g : Gloesk) (a : Nat) : Gloesk × Nat :=
  match debugAt a with
  | some (q, o) =>
    if !g.debugOpen || !(g.pairPresent q) then (g, 0)
    else if o < 0x20000 then (g, Memory.read (g.core q).mem (o / 4 * 4) 4)
    else
      let r := (g.core q).dbgRead true (o - 0x20000)
      (g.onPair q (fun _ => r.1), r.2)
  | none => g.readReg 0 a

/-- DEBUG_HALT, DEBUG_RESUME and DEBUG_STEP of a pair. -/
def debugCommand (g : Gloesk) (q : Nat) (f : Core → Core) : Gloesk :=
  if g.debugOpen && g.pairPresent q then g.onPair q f else g

/-- A write into a debug window. -/
def debugWrite (g : Gloesk) (q o v : Nat) : Gloesk :=
  if !g.debugOpen || !(g.pairPresent q) then g
  else if o < 0x20000 then
    if (g.core q).halted || !((g.core q).busy || (q == 0 && g.pwr.bootRun)) then
      g.onPair q (fun k => { k with mem := Memory.write k.mem (o / 4 * 4) 4 v })
    else g
  else
    let g := g.onPair q (fun k => k.dbgWrite true (o - 0x20000) v)
    if o ≠ 0x20000 then g
    else g.onPair q (fun k =>
      let k := if bit v 0 then k.dbgHalt else k
      let k := if bit v 1 then k.dbgResume else k
      if bit v 2 then k.dbgStep else k)

/-- A 32-bit write by the host with its byte enables; `hit` are the bits that hardware sets in the same clock (R6). -/
def hostWrite (g : Gloesk) (a v be hit : Nat) : Gloesk :=
  match debugAt a with
  | some (q, o) => if be ≠ 15 then g.inc F.HST_STATUS_BADCNT else g.debugWrite q o v
  | none => g.writeHit 0 a v be hit

/-- QDBG_ACC_READ: a read of QDBG_ACCnL latches QDBG_ACCnH. -/
def qdbgAccRead (g : Gloesk) (q n : Nat) : Gloesk :=
  let r := g.hostRead (0x100000 + 0x40000 * q + 0x20200 + 8 * n)
  r.1.answer 0 [r.2]

/-! ### A Quill executes (R258, R263, R265, R279, R280) -/

/-- Quill 0 in its boot run (R469). -/
def booting (g : Gloesk) (q : Nat) : Bool := q == 0 && g.pwr.bootRun

/-- The pair executes instructions now. -/
def quillRuns (g : Gloesk) (q : Nat) : Bool :=
  let k := g.core q
  g.pairPresent q && (k.busy || g.booting q) && (!k.halted || k.stepping) && !k.fenced && k.stall.isNone && !(has g.duc.preempt q)

/-- An exception on a Quill (R280); in the boot run it ends the boot run. -/
def quillFault (g : Gloesk) (q cause addr : Nat) : Gloesk :=
  if g.booting q then
    let g := g.onPair q (fun k => { k with xcause := cause, xpc := k.pc, xaddr := addr % 2 ^ 32, stepping := false })
    ((g.abandonMoves q (g.core q).task).onPwr (fun p => { p with bootRun := false })).raise 48
  else g.taskException q cause addr

/-- An uncorrectable scratch error that both cores see. -/
def scratchError (g : Gloesk) (q addr : Nat) : Gloesk := (g.onPair q (·.uncorrectable)).quillFault q 11 addr

/-- Pair `q` executes the instruction with encoding `w`, `fe` being the ECC's finding at its fetch; `f` is what the instruction
does, `none` while it waits for moves. -/
def quill (g : Gloesk) (q w fe : Nat) (f : Gloesk → Option Gloesk) : Gloesk :=
  let k := g.core q
  if !(g.quillRuns q) then g
  else if 0x10000 < k.pc + 4 then g.quillFault q 2 k.pc
  else if fe = 2 then g.scratchError q k.pc
  else if !(Enc.legal true (k.fetchWord k.pc)) then g.quillFault q 1 0
  else if k.fetchWord k.pc ≠ w then g
  else
    match f (if fe = 1 then g.onPair q (·.corrected) else g) with
    | none => g
    | some g' => g'.onPair q (fun k => { k with stepping := false })

/-- An instruction that acts on the core alone. -/
def quillCore (g : Gloesk) (q w fe : Nat) (f : Core → Core) : Gloesk := g.quill q w fe (fun g => some (g.onPair q f))

/-- The value of a register of a pair. -/
def qreg (g : Gloesk) (q n : Nat) : Nat := (g.core q).reg n

/-- Write a register and go on to the next instruction. -/
def qret (g : Gloesk) (q rd v : Nat) : Gloesk := g.onPair q (fun k => (k.setReg rd v).next)

/-- Go on to the next instruction. -/
def qnext (g : Gloesk) (q : Nat) : Gloesk := g.onPair q (·.next)

/-! ### Loads and stores (R261, R263, R270) -/

/-- An access to a hub window stalls the core until the hub answers (R261, R445). -/
def hubAccess (g : Gloesk) (q rd o : Nat) (isRead : Bool) (data : List Nat) : Gloesk :=
  (g.onPair q (fun k => { k.next with stall := some g.hst.tid })).hubRequest (q + 1) rd (o / 0x20000) (o % 0x20000) 1 isRead true data

/-- A load of `size` bytes; `de` is the ECC's finding in the scratch. -/
def load (g : Gloesk) (q rd ra imm size : Nat) (signed : Bool) (de : Nat) : Gloesk :=
  let a := (g.qreg q ra + Core.sext 16 imm) % 2 ^ 32
  if a % size ≠ 0 then g.quillFault q 3 a
  else if a < 0x20000 then
    if de = 2 then g.scratchError q a
    else
      let g := if de = 1 then g.onPair q (·.corrected) else g
      let v := Memory.read (g.core q).mem a size
      g.qret q rd (if signed then Core.sext (8 * size) v else v)
  else if size ≠ 4 ∨ a < 0x10000000 ∨ 0x11000000 ≤ a ∨ (debugAt (a - 0x10000000)).isSome = true then g.quillFault q 4 a
  else
    let o := a - 0x10000000
    if 0x800000 ≤ o then g.hubAccess q rd (o - 0x800000) true []
    else
      let r := g.readReg (q + 1) o
      r.1.qret q rd r.2

/-- A store of the low `size` bytes of register `rd`. -/
def storeReg (g : Gloesk) (q rd ra imm size : Nat) : Gloesk :=
  let a := (g.qreg q ra + Core.sext 16 imm) % 2 ^ 32
  let v := g.qreg q rd
  if a % size ≠ 0 then g.quillFault q 3 a
  else if 0x10000 ≤ a ∧ a < 0x20000 then g.onPair q (fun k => { k.next with mem := Memory.write k.mem a size v })
  else if size ≠ 4 ∨ a < 0x10000000 ∨ 0x11000000 ≤ a ∨ (debugAt (a - 0x10000000)).isSome = true then g.quillFault q 4 a
  else
    let o := a - 0x10000000
    if 0x800000 ≤ o then g.hubAccess q 0 (o - 0x800000) false [v] else (g.qnext q).writeReg (q + 1) o v 15

/-! ### Control and status registers (R278) -/

/-- The value of a CSR, and what its read changes. -/
def csrRead (g : Gloesk) (q n : Nat) : Gloesk × Nat :=
  let k := g.core q
  if n = 0x000 then (g, k.flags.word)
  else if n = 0x001 then (g, q + g.rd F.HST_ID_STEP * 2 ^ 16)
  else if n = 0x002 then (g, k.task % 256 + g.pri k.task * 2 ^ 8)
  else if n = 0x003 then (g.onPair q (fun k => { k with strokeH := g.stroke / 2 ^ 32 }), g.stroke % 2 ^ 32)
  else if n = 0x004 then (g, k.strokeH)
  else if n = 0x005 then
    let h := g.nextFree.free % 2 ^ 32
    (g.nextFree.nextFree.onPair q (fun k => { k with cycleH := h }), g.free % 2 ^ 32)
  else if n = 0x006 then (g, k.cycleH)
  else if n = 0x008 then (g, k.xcause)
  else if n = 0x009 then (g, k.xpc)
  else if n = 0x00A then (g, k.xaddr)
  else if n = 0x010 then (g, k.mvstat k.task)
  else if n = 0x011 then (g.onPair q (fun k => { k with ecc := 0 }), k.ecc)
  else if n = 0x012 then (g, k.istat)
  else (g, 0)

/-- A write of a CSR: FLAGS alone is writable on the Quill. -/
def csrWrite (g : Gloesk) (q n v : Nat) : Gloesk := if n = 0 then g.onPair q (fun k => { k with flags := Flags.ofWord v }) else g

/-- CSRR, and CSRS and CSRC with their new value. -/
def csrRw (g : Gloesk) (q rd n : Nat) (new : Option (Nat → Nat)) : Gloesk :=
  let r := g.csrRead q n
  let g := match new with
    | none => r.1
    | some f => r.1.csrWrite q n (f r.2)
  g.qret q rd r.2

/-! ### Waits, posts and locks (R274, R275, R291-R293) -/

/-- Moves of the running task are outstanding: what acts as FENCE waits. -/
def mustWait (g : Gloesk) (q : Nat) : Bool := (List.range 4).any (fun t => g.outstanding q t)

/-- FENCE. -/
def fence (g : Gloesk) (q : Nat) : Option Gloesk := if g.mustWait q then none else some (g.onPair q (·.fence))

/-- The run ends with the pc past the instruction; `ce` is the ECC's finding at the save of the context. -/
def suspend (g : Gloesk) (q ce : Nat) (f : Gloesk → Nat → Gloesk) : Option Gloesk :=
  (g.fence q).map (fun g =>
    let g := (g.qnext q).ecc ce (g.ctxAddr (g.core q).task) 4
    g.endRun q (ce == 2) f)

/-- In the boot run nothing waits: the instruction completes with a value left open (log entry 30). -/
def bootResult (g : Gloesk) (q rd : Nat) : Gloesk := g.nextFree.qret q rd (g.free % 2 ^ 32)

/-- The stroke that a WAITS names after stroke `s`: none when it does not lie after `s`. -/
def waitTarget (s v mode : Nat) : Option Nat :=
  if mode = 0 then
    let n := if 2 ^ 24 ≤ v then 2 ^ 24 else v
    some (strokeMod (s + max n 1))
  else
    let d := toS 32 (v + 2 ^ 32 - s % 2 ^ 32)
    if 0 < d then some (strokeMod (s + d.toNat)) else none

/-- WAITS. -/
def waits (g : Gloesk) (q rd ra imm ce : Nat) : Option Gloesk :=
  if g.booting q then some (g.bootResult q rd)
  else
    match waitTarget g.stroke (g.qreg q ra) (imm % 2) with
    | none => (g.fence q).map (fun g => g.qret q rd (g.stroke % 2 ^ 32))
    | some j => g.suspend q ce (fun g t =>
        ((g.wr F.DUC_TASK_STAT_STATE 4 t).wr F.DUC_TASK_WAKE_WAKE (j % 2 ^ 32) t).onDuc (fun d => { d with
          wakeS := Tab.put d.wakeS t j, dest := Tab.set 0 d.dest t rd }))

/-- WAITA. -/
def waita (g : Gloesk) (q rd ra imm ce : Nat) : Option Gloesk :=
  if g.booting q then some (g.bootResult q rd)
  else
    let ch := imm % 16
    let n := max (g.qreg q ra % 2 ^ 16) 1
    if !(g.routed ch) then (g.fence q).map (fun g => g.qret q rd 0xFFFFFFFF)
    else g.suspend q ce (fun g t =>
      ((g.wr F.DUC_TASK_STAT_STATE 5 t).wr F.DUC_TASK_WAKE_WAKE n t).onDuc (fun d => { d with
        wakeA := d.wakeA ++ [(t, ch, (n : Int))], dest := Tab.set 0 d.dest t rd }))

/-- POST. -/
def post (g : Gloesk) (q rd ra : Nat) : Gloesk :=
  let t := g.qreg q ra % 256
  (g.qret q rd (g.postStatus t)).post1 t false

/-- The task on a core holds a lock. -/
def ownLock (g : Gloesk) (q l : Nat) : Bool := g.on F.DUC_LOCK_HELD l && g.rd F.DUC_LOCK_HOLDER l == (g.core q).task

/-- A free lock is granted: status 1 when it was marked abandoned. -/
def grant (g : Gloesk) (q rd l : Nat) : Gloesk := (g.qret q rd (g.rd F.DUC_LOCK_ABAND l)).grab l (g.core q).task

/-- LOCK: on a lock that another task holds, the task enters its wait queue. -/
def lock (g : Gloesk) (q rd ra ce : Nat) : Option Gloesk :=
  let l := g.qreg q ra % 64
  if g.booting q then some (g.bootResult q rd)
  else if g.ownLock q l then some (g.quillFault q 8 0)
  else if !(g.on F.DUC_LOCK_HELD l) then some (g.grant q rd l)
  else g.suspend q ce (fun g t =>
    let g := (g.wr F.DUC_TASK_STAT_STATE 6 t).onDuc (fun d => { d with
      dest := Tab.set 0 d.dest t rd, lockFrom := Tab.put d.lockFrom t g.stroke })
    (g.setQueue l (g.queue l ++ [t])).reprioritise [])

/-- TRYLK. -/
def trylk (g : Gloesk) (q rd ra : Nat) : Gloesk :=
  let l := g.qreg q ra % 64
  if g.booting q then g.bootResult q rd
  else if g.ownLock q l then g.quillFault q 8 0
  else if g.on F.DUC_LOCK_HELD l then g.qret q rd 2 else g.grant q rd l

/-- UNLOCK. -/
def unlock (g : Gloesk) (q ra : Nat) : Gloesk :=
  let l := g.qreg q ra % 64
  if g.booting q then g.qnext q
  else if g.ownLock q l then (g.qnext q).release l false else g.quillFault q 8 0

/-- YIELD: the task goes to the tail of its ready list. -/
def yieldRun (g : Gloesk) (q ce : Nat) : Option Gloesk :=
  if g.booting q then (g.fence q).map (·.qnext q) else g.suspend q ce (fun g t => g.makeReady t)

/-- EXIT: the task ends, its locks released marked abandoned; in the boot run, the boot run ends (R469). -/
def exitRun (g : Gloesk) (q : Nat) : Option Gloesk :=
  (g.fence q).map (fun g =>
    if g.booting q then (g.qnext q).onPwr (fun p => { p with bootRun := false })
    else
      let t := (g.core q).task
      (((g.qnext q).releaseAll t).leave q).wr F.DUC_TASK_STAT_STATE 1 t)

/-- BRK: a halt in a debug session with breakpoints enabled, else cause 10 (R279). -/
def brk (g : Gloesk) (q : Nat) : Gloesk :=
  if g.debugOpen && (g.core q).brkEn then g.onPair q (fun k => k.next.dbgHalt) else g.quillFault q 10 0

/-! ### Moves (R276, R277) -/

/-- MVIN and MVOUT: a tag still outstanding is waited for; the move starts or faults. -/
def move (g : Gloesk) (q rd ra rb tag : Nat) (inward : Bool) : Option Gloesk :=
  if g.outstanding q tag then none
  else
    let ink := g.qreg q ra
    let r := g.moveStart q inward tag ink (g.qreg q rb) (g.qreg q rd)
    some (match r.2 with
      | some c => r.1.quillFault q c ink
      | none => r.1.qnext q)

/-- MVWAIT: the status of a tag, which is then no longer in use. -/
def mvwait (g : Gloesk) (q rd tag : Nat) : Option Gloesk :=
  if g.outstanding q tag then none
  else
    let s := Tab.get 0 (g.core q).tags tag
    some ((g.onPair q (fun k => { k with tags := Tab.del k.tags tag })).qret q rd (if s = 0 then 3 else s - 1))

/-- INKLW; `de` is the ECC's finding in Inkwell. -/
def inklw (g : Gloesk) (q rd ra de : Nat) : Gloesk :=
  let a := g.qreg q ra
  if a % 4 ≠ 0 then g.quillFault q 7 a
  else
    let r := g.quillAccess q a 4 .read
    match r.2 with
    | some c => r.1.quillFault q c a
    | none =>
      let g := r.1.ecc de a 4
      if g.poisoned a 4 then g.quillFault q 11 a else g.qret q rd (g.peek a 4)

/-- INKSW. -/
def inksw (g : Gloesk) (q rd ra : Nat) : Gloesk :=
  let a := g.qreg q ra
  if a % 4 ≠ 0 then g.quillFault q 7 a
  else
    let r := g.quillAccess q a 4 .write
    match r.2 with
    | some c => r.1.quillFault q c a
    | none => (r.1.store a 4 (r.1.qreg q rd)).qnext q

end Gloesk

/-! ### The Quill-S -/

namespace Ihloon

/-- The core does not wait for the admission of a deferred class 1: from stage 2 on that class is part of the bring-up (R245,
R250). -/
def awake (c : Ihloon) : Bool := c.admitted 1 || decide (c.rd F.RSV_STAT_STAGE < 2)

/-- The Quill-S executes instructions now (R242, R250, R274, R286). While class 1 is deferred it waits in low power (R245). -/
def coreRuns (c : Ihloon) : Bool :=
  c.mainRuns && c.cell.rsv.booted && c.awake && (!c.cell.core.halted || c.cell.core.stepping) && !((c.cell.waitsFor.map (·.asleep)).getD false)

/-- An exception of the Quill-S (R281): to the vector, or a double fault that resets the core. -/
def coreFault (c : Ihloon) (T cause addr : Nat) : Ihloon :=
  let k := c.cell.core
  let c := c.raise 23
  if !(bit k.xstat 0) && k.xcause != 0 && decide (k.xcause < 16) then c.coreReset T 0
  else c.onCore (fun k => { k with
    xcause := cause, xpc := k.pc, xaddr := addr % 2 ^ 32, xstat := k.xstat % 2 * 2, pc := k.xvec, stepping := false })

/-- The word that a fetch at `a` finds, none outside the fetch ranges (R262). -/
def fetched (c : Ihloon) (a : Nat) : Option Nat :=
  if a < 0x20000 then some (c.cell.core.fetchWord a)
  else if 0x01000000 ≤ a ∧ a < 0x01100000 then
    some (Memory.read c.cell.fw.mem (c.rd F.RSV_FWSTAT_ACTIVE * 0x100000 + (a - 0x01000000)) 4)
  else none

/-- An uncorrectable SRAM error. -/
def sramError (c : Ihloon) (T addr : Nat) : Ihloon := (c.onCore (·.uncorrectable)).coreFault T 11 addr

/-- The Quill-S executes the instruction with encoding `w`. -/
def quillS (c : Ihloon) (T w fe : Nat) (f : Ihloon → Ihloon) : Ihloon :=
  let k := c.cell.core
  if !c.coreRuns then c
  else
    match c.fetched k.pc with
    | none => c.coreFault T 2 k.pc
    | some x =>
      if fe = 2 then c.sramError T k.pc
      else if !(Enc.legal false x) then c.coreFault T 1 0
      else if x ≠ w then c
      else (f (if fe = 1 then c.onCore (·.corrected) else c)).onCore (fun k => { k with stepping := false })

/-- An instruction that acts on the core alone. -/
def quillSCore (c : Ihloon) (T w fe : Nat) (f : Core → Core) : Ihloon := c.quillS T w fe (fun c => c.onCore f)

/-- Write a register and go on to the next instruction. -/
def qret (c : Ihloon) (rd v : Nat) : Ihloon := c.onCore (fun k => (k.setReg rd v).next)

/-- A load (R262, R263). -/
def load (c : Ihloon) (T rd ra imm size : Nat) (signed : Bool) (de : Nat) : Ihloon :=
  let a := (c.cell.core.reg ra + Core.sext 16 imm) % 2 ^ 32
  let ext (v : Nat) : Nat := if signed then Core.sext (8 * size) v else v
  if a % size ≠ 0 then c.coreFault T 3 a
  else if a < 0x20000 then
    if de = 2 then c.sramError T a
    else (if de = 1 then c.onCore (·.corrected) else c).qret rd (ext (Memory.read c.cell.core.mem a size))
  else if 0x01000000 ≤ a ∧ a < 0x01200000 then
    let active := c.rd F.RSV_FWSTAT_ACTIVE
    let bank := if a < 0x01100000 then active else 1 - active
    c.qret rd (ext (Memory.read c.cell.fw.mem (bank * 0x100000 + a % 0x100000) size))
  else if size = 4 ∧ 0x40000000 ≤ a ∧ a < 0x40010000 then
    let r := c.readReg 2 (a - 0x40000000)
    r.1.qret rd r.2
  else c.coreFault T 4 a

/-- A store; `tick` is the instant within the stroke for a register that acts at once. -/
def storeReg (c : Ihloon) (T tick rd ra imm size : Nat) : Ihloon :=
  let a := (c.cell.core.reg ra + Core.sext 16 imm) % 2 ^ 32
  let v := c.cell.core.reg rd
  if a % size ≠ 0 then c.coreFault T 3 a
  else if a < 0x20000 then c.onCore (fun k => { k.next with mem := Memory.write k.mem a size v })
  else if size = 4 ∧ 0x40000000 ≤ a ∧ a < 0x40010000 then (c.onCore (·.next)).firmwareWrite T tick (a - 0x40000000) v
  else c.coreFault T 4 a

/-- The value of a CSR, and what its read changes (R278). -/
def csrRead (c : Ihloon) (n : Nat) : Ihloon × Nat :=
  let k := c.cell.core
  if n = 0x000 then (c, k.flags.word)
  else if n = 0x001 then (c, 2 ^ 8 + c.rd F.LNK_ID_STEP * 2 ^ 16)
  else if n = 0x003 then (c.onCore (fun k => { k with strokeH := c.stroke / 2 ^ 32 }), c.stroke % 2 ^ 32)
  else if n = 0x004 then (c, k.strokeH)
  else if n = 0x005 then
    let h := c.nextFree.free % 2 ^ 32
    (c.nextFree.nextFree.onCore (fun k => { k with cycleH := h }), c.free % 2 ^ 32)
  else if n = 0x006 then (c, k.cycleH)
  else if n = 0x008 then (c, k.xcause)
  else if n = 0x009 then (c, k.xpc)
  else if n = 0x00A then (c, k.xaddr)
  else if n = 0x00B then (c, k.xvec)
  else if n = 0x00C then (c, k.xstat)
  else if n = 0x00D then (c, k.ien)
  else if n = 0x00E then (c, k.ipend)
  else if n = 0x011 then (c.onCore (fun k => { k with ecc := 0 }), k.ecc)
  else (c, 0)

/-- A write of a CSR; AQ is always 0 on the Quill-S. -/
def csrWrite (c : Ihloon) (n v : Nat) : Ihloon :=
  c.onCore (fun k =>
    if n = 0x000 then { k with flags := { Flags.ofWord v with aq := false } }
    else if n = 0x008 then { k with xcause := v % 2 ^ 8 }
    else if n = 0x009 then { k with xpc := v }
    else if n = 0x00A then { k with xaddr := v }
    else if n = 0x00B then { k with xvec := v / 4 * 4 }
    else if n = 0x00C then { k with xstat := v % 4 }
    else if n = 0x00D then { k with ien := v % 2 ^ 8 }
    else if n = 0x00F then { k with ipend := clearBits k.ipend v }
    else k)

/-- CSRR, and CSRS and CSRC with their new value. -/
def csrRw (c : Ihloon) (rd n : Nat) (new : Option (Nat → Nat)) : Ihloon :=
  let r := c.csrRead n
  let c := match new with
    | none => r.1
    | some f => r.1.csrWrite n (f r.2)
  c.qret rd r.2

/-- WAITS: the core stalls until the boundary; a WAITS to which an XRET returned goes on waiting (R274). -/
def waits (c : Ihloon) (rd ra imm : Nat) : Ihloon :=
  let k := c.cell.core
  let sleep (c : Ihloon) (w : CellWait) : Ihloon := c.onCell (fun s => { s with waitsFor := some { w with asleep := true } })
  match c.cell.waitsFor.filter (fun w => w.pc == k.pc) with
  | some w =>
    if 0 ≤ strokeDiff w.target c.stroke then
      (c.onCell (fun s => { s with waitsFor := none })).qret w.rd (c.stroke % 2 ^ 32)
    else sleep c w
  | none =>
    match Gloesk.waitTarget c.stroke (k.reg ra) (imm % 2) with
    | none => c.qret rd (c.stroke % 2 ^ 32)
    | some j => sleep c ⟨j, rd, k.pc, true⟩

/-- BRK: a debug halt freezes the nib module (R210, R279). -/
def brk (c : Ihloon) (T : Nat) : Ihloon :=
  if c.debugOpen && c.cell.core.brkEn then ((c.onCore (fun k => k.next.dbgHalt)).freeze T 0 false) else c.coreFault T 10 0

/-- XRET (R281). -/
def xret (c : Ihloon) : Ihloon :=
  c.onCore (fun k => { k with pc := k.xpc, xstat := k.xstat / 2 % 2 + k.xstat / 2 % 2 * 2 })

/-- QUILL_S_INTERRUPT `n` between two instructions (R281); one that meets a stalled WAITS returns to it (R274). -/
def interrupt (c : Ihloon) (n : Nat) : Ihloon :=
  let k := c.cell.core
  if !c.mainRuns || !c.cell.rsv.booted || !c.awake || k.halted || !(bit k.ipend n) || !(bit k.ien n) || !(bit k.xstat 0) then c
  else
    let c := c.onCell (fun s => { s with waitsFor := s.waitsFor.map (fun w => { w with asleep := false }) })
    c.onCore (fun k => { k with xcause := 16 + n, xpc := k.pc, xaddr := 0, xstat := 2, pc := k.xvec })

end Ihloon

end Sys2Proof.Machine
end

