-- ==== Sys2Proof/Machine/Boundary.lean ====
section
/-!
DEFINITION. The steps that several blocks share: a stroke boundary, the key agreement, the input agreement, the writeback, the
start of the word frames, the digest; what follows every step of the Gloesk; time markers and exchanges; the states of lane
ends (R16, R28, R41, R93, R99, R166, R171, R335, R403, R404, R410, R411).
-/

namespace Sys2Proof.Machine

namespace Gloesk

/-! ### Stroke boundary (R28) -/

/-- STROKE_BOUNDARY on Baseline time: stroke k begins. The records due come first, then the Ruling, the encoders, the start of
the cycle, Ductus, the heartbeat check and the key epochs. -/
def strokeBoundary (g : Gloesk) : Gloesk :=
  let prev := g.stroke
  let k := strokeMod (prev + 1)
  let sb := (g.ns / g.period + 1) * g.period * 2 ^ 32
  let reached := decide (g.strokeOfTime = k)
  let g : Gloesk := { g with time := { g.time with
    bl := if reached then g.time.bl else sb, stroke := k } }
  let g := (g.onLan (fun l => { l with fseq := [] })).strokeRate.takeLead
  let before := g.srcAct
  let g := g.recordsDue k .rul
  let switched := g.srcAct != before
  let g := [Blk.twn, .blt, .aq, .ink].foldl (fun (g : Gloesk) b => g.recordsDue k b) g
  let g := ((g.rulingAtBoundary switched).storeRecord).encoderLatch
  let g := ((g.recordsDue k .stk).cycleEdges k).exchangeRecords k
  let g := (g.strokeTick k).imageStep
  let g := (((g.heartbeatCheck).observe).drillBoundary).tryJoin
  let g := ((g.onTrust (·.switch k)).observeLinks).debugWatch
  let g := ((g.laneSilence).showChain).aqBoundary prev
  let g := g.blotterBoundary
  g.iff g.running (·.confirmImage)

/-! ### The events of a stroke (R16) -/

/-- KEY_AGREEMENT of input set `k`, and RANKING in it; `ce` and `ue` are the ECC's findings of R163. -/
def keyAgreementStep (g : Gloesk) (k ce : Nat) (ue : List Nat) : Gloesk :=
  if !g.setRuns k then g else
  let g := g.joinKey k
  if !(g.executes k) then g else
  (((g.recordsDue k .rnk).keyAgreement k)).ranking k ce ue

/-- INPUT_AGREEMENT of input set `k`: the input set is agreed, records and actions take effect, the loop window opens; `ce`
and `ue` are the ECC's findings of R123, `flrCe` and `pts` those in Flourish points: corrected errors, and the points with an
uncorrectable one (R136). -/
def inputAgreementStep (g : Gloesk) (k ce : Nat) (ue : List Nat) (flrCe : Nat) (pts : List (Nat × Nat)) : Gloesk :=
  if !g.setRuns k then g else
  let late := g.joinDue k && g.copying && g.joinHas k
  let g := g.iff late (fun g => (((g.joinSwitch).recordsDue k .rnk).keyAgreement k).ranking k 0 [])
  let g := g.joinInput k
  if !(g.executes k) then g else
  let g := (((g.tapFlush).agreeInputs k).keepInputs k).recordsDue k .svi
  let g := ((g.recordsDue k .lpe).applyActions k).standingStep
  let g := ((((g.flrErrors flrCe pts).flrOpen k).tapWindowOpen).aggregates k).loopOpen k ce ue
  let g := g.arbStep k
  let g := g.iff (g.role == roleStandby && g.twin.noPeer) (·.provisional k)
  ((g.demotion).hoBegin k).hoEval k

/-- LOOP_WRITEBACK of input set `k` at clock 120: deliveries, the gear engines, selection, dispatch, the recorder's rows. -/
def writebackStep (g : Gloesk) (k : Nat) : Gloesk :=
  if !(g.executes k) then g else
  let g := g.loopWriteback
  let g := g.gearWritebacks k
  ((g.selection k).dispatchWrite k).folioRows k

/-- The comparison of the digests of input set `k` (R335, R352); `o` is none where the partner's is missing. -/
def judgeDigest (g : Gloesk) (k : Nat) (d : Digest) (o : Option Digest) : Gloesk :=
  if g.shadow && g.twin.join.isSome then g.joinDigest d o
  else if g.expectPeer then g.digestOutcome k d o
  else g

/-- Own digests of older input sets that the partner's has not met (R333). -/
def staleDigests (g : Gloesk) (k : Nat) : Gloesk :=
  let old := g.twin.digests.filter (fun e => decide (0 < strokeDiff e.1 k))
  let g := g.onTwin (fun t => { t with
    digests := t.digests.filter (fun e => !(decide (0 < strokeDiff e.1 k))),
    peerDigests := t.peerDigests.filter (fun e => !(decide (0 < strokeDiff e.1 k))) })
  old.foldl (fun (g : Gloesk) e => g.judgeDigest e.1 e.2 none) g

/-- The DIGEST frame of input set `k` (R175, R333). -/
def digestSend (g : Gloesk) (k : Nat) : Gloesk :=
  if !g.expectPeer then g else
  let d := g.digestOf k
  let g := g.ligature 0x24 [(strokeMod (k + g.lead), 48), (g.claim, 16), (d.wcrc, 64), (d.scrc, 48), flagField d.susp, flagField d.noPeer,
    flagField d.valm, (0, 13)]
  match g.twin.peerDigests.find? (fun e => e.1 = k) with
  | some (_, o) =>
    (g.onTwin (fun t => { t with peerDigests := t.peerDigests.filter (fun e => e.1 ≠ k) })).judgeDigest k d (some o)
  | none => g.onTwin (fun t => { t with digests := t.digests ++ [(k, d)] })

/-- WORD_FRAME_START of input set `k` (R166, R187, R333): the word frames of the twin that sends words, and the digest. -/
def wordFrameStart (g : Gloesk) (k : Nat) : Gloesk :=
  if !(g.executes k) then g else
  let g := g.staleDigests k
  let g := g.iff (g.sendsWords k) (fun g => g.each g.lanes (fun g l => g.wordFrame k l))
  g.digestSend k

/-- DIGEST of input set `k` arrives: compared with this twin's own, or kept until that is formed (R333, R335). -/
def digest (g : Gloesk) (k : Nat) (d : Digest) : Gloesk :=
  if !(g.executes k) || !g.expectPeer then g
  else
    match g.twin.digests.find? (fun e => e.1 = k) with
    | some (_, own) =>
      (g.onTwin (fun t => { t with digests := t.digests.filter (fun e => e.1 ≠ k) })).judgeDigest k own (some d)
    | none => g.onTwin (fun t => { t with peerDigests := keepLast 4 (t.peerDigests.filter (fun e => e.1 ≠ k) ++ [(k, d)]) })

/-! ### After every step -/

/-- What follows in every step of the Gloesk: the Blotter takes the edges reported, Ductus its ticks and dispatch, the shed
level shows. Edges and compare hits are used up. -/
def finish (g : Gloesk) : Gloesk :=
  { ((((g.takeEdges).ductus).takeEdges).showShed) with edges := [], hits := [] }

/-- A step of the blocks outside HST and PWR: nothing while these are held (R456, R465, R468). -/
def act (g : Gloesk) (f : Gloesk → Gloesk) : Gloesk := if g.blocksRun then (f g).finish else g

/-! ### Time markers and frames (R40, R41, R171) -/

/-- The asymmetry of a hub lane, and of a cell port, in 10 ps (R42). -/
def laneAsym (g : Gloesk) (lane : Nat) : Int := Tab.get 0 g.map.laneAsym lane
def portAsym (g : Gloesk) (lane port : Nat) : Int := Tab.get 0 g.map.portAsym (lane * 256 + port)

/-- A TIME frame on a hub lane, or on the Ligature link (64), where TL0 or the lowest lane that is up takes it (R402). -/
def timeFrameOn (g : Gloesk) (lane : Nat) (body : List (Nat × Nat)) : Gloesk :=
  if lane < 64 then g.hubFrame lane 0x05 body else g.ligature 0x05 body

/-- TIME_MARKER of the Gloesk on a hub lane or on TL0 (64), at its present time. -/
def timeMarker (g : Gloesk) (lane : Nat) : Gloesk :=
  if !(g.laneRuns lane) then g
  else (g.timeFrameOn lane (timeBody (g.time.bl / 2 ^ 16) 0 (g.seqOf (1024 + lane)) 0)).seqNext (1024 + lane) 256

/-- TIME_FRAME_RECEIVED: a marker on TL0 is answered; a reply ends the exchange of a hub, which has its own times. -/
def timeFrame (g : Gloesk) (lane twin claim : Nat) (reply : Bool) (seq : Nat) (t2 t3 : Int) : Gloesk :=
  if !(g.laneRuns lane) then g
  else
    let g := if lane < 64 then g.header lane twin claim else g.frameSeen lane
    if lane = 64 ∧ reply = false then g.timeFrameOn 64 (timeBody (ofS 46 t3) (ofS 46 t2) seq 1) else g

/-! ### Lanes (R403, R404, R410, R418) -/

/-- TX_SETTLE_DONE: a running lane's transmitter leaves SETTLE for TRAIN. -/
def txSettled (g : Gloesk) (n : Nat) : Gloesk := if g.laneRuns n ∧ g.rd F.LAN_L_STAT_TXST n < 2 then g.wr F.LAN_L_STAT_TXST 2 n else g

/-- TRAIN_END: DATA. -/
def txTrained (g : Gloesk) (n : Nat) : Gloesk :=
  if g.rd F.LAN_L_STAT_TXST n = 2 then (g.wr F.LAN_L_STAT_TXST 3 n).frameGo n else g

/-- A receiver of a running lane goes on from state `a` to `b`. -/
def rxStep (g : Gloesk) (n a b : Nat) : Gloesk := if g.laneRuns n ∧ g.rd F.LAN_L_STAT_RXST n = a then g.setRx n b else g

/-- HOLD_TIMEOUT: the receiver has lost its lock. -/
def rxHoldEnd (g : Gloesk) (n : Nat) : Gloesk := if g.rd F.LAN_L_STAT_RXST n = 5 then g.laneFalls n else g

/-- CAL_WINDOW_END: DATA resumes with no training (R408). -/
def winEnd (g : Gloesk) (n : Nat) : Gloesk :=
  if g.rd F.LAN_L_STAT_TXST n = 4 then (g.wr F.LAN_L_STAT_TXST 3 n).frameGo n else g

/-- SYNTHESISER_DRIFT: the transmitter needs a window (R408). -/
def txDrift (g : Gloesk) (n : Nat) : Gloesk := if g.laneRuns n then g.up F.LAN_L_STAT_DRIFT n else g

end Gloesk

namespace Stanak

/-- STROKE_BOUNDARY on hub time; `T` is the stroke period (R28, R41, R358, R434, R435). -/
def strokeBoundary (h : Stanak) (T : Nat) : Stanak :=
  let prev := h.stroke
  let h := { h with stroke := strokeMod (prev + 1) }
  let h := { h with follow := if h.follow.locked then h.follow.slewStroke stanakLimits else h.follow }
  let h := ((h.onLan (fun l => { l with fseq := [] })).eventCount).drainWords.relayBlocks
  let h := h.laneSilence (prev * T / 1000000000 != h.stroke * T / 1000000000)
  let h := (h.bootStep).onTrust (·.switch h.stroke)
  (h.debugWatch).iff h.forwards (·.confirmImage)

/-- TIME_MARKER of the hub on a cell port (R41, R171). -/
def timeMarker (h : Stanak) (c : Nat) (t1 : Int) : Stanak :=
  if !(h.populated c) || !(has [3, 4] (h.rd F.HLNK_LK_STAT_TXST c)) then h
  else
    let n := Tab.get 0 h.hub.marks c
    (h.message c 6 (packFields (timeBody (ofS 46 t1) 0 n 0))).onHub (fun s => { s with marks := Tab.set 0 s.marks c ((n + 1) % 256) })

/-- TIME_FRAME_RECEIVED on an uplink: a marker is answered, and the exchange gives the hub its offset (R41). -/
def timeFrame (h : Stanak) (u : Nat) (reply : Bool) (seq : Nat) (t1 t2 t3 t4 a : Int) : Stanak :=
  let h := h.frameSeen u
  if reply then h
  else
    (h.frame u 0x05 h.stroke 0 [timeBody (ofS 46 t3) (ofS 46 t2) seq 1]).timeExchange u
      (exchangeOffset t1 t2 t3 t4 a)

/-- TIME_MESSAGE at a cell port: the reply ends the cell's exchange; a message whose tag fails is discarded (R170, R171). -/
def timeMessage (h : Stanak) (c : Nat) (m : LinkMsg) : Stanak := h.iff (h.populated c) (·.linked (2 + c) (·.hears c m id))

/-- A transmitter of the uplinks leaves SETTLE, then TRAIN (R403). -/
def upSettled (h : Stanak) (n : Nat) : Stanak := if h.rd F.HLAN_L_STAT_TXST n < 2 then h.wr F.HLAN_L_STAT_TXST 2 n else h
def upTrained (h : Stanak) (n : Nat) : Stanak :=
  if h.rd F.HLAN_L_STAT_TXST n = 2 then (h.wr F.HLAN_L_STAT_TXST 3 n).frameGo n else h

/-- A transmitter of the populated cell ports leaves SETTLE, then its commas (R411). -/
def portSettled (h : Stanak) (c : Nat) : Stanak :=
  if h.populated c ∧ h.rd F.HLNK_LK_STAT_TXST c < 2 then h.wr F.HLNK_LK_STAT_TXST 2 c else h
def portTrained (h : Stanak) (c : Nat) : Stanak := if h.rd F.HLNK_LK_STAT_TXST c = 2 then h.wr F.HLNK_LK_STAT_TXST 3 c else h

/-- A receiver goes on from state `a` to `b`: an uplink, a cell port. -/
def upRx (h : Stanak) (n a b : Nat) : Stanak := if h.rd F.HLAN_L_STAT_RXST n = a then h.wr F.HLAN_L_STAT_RXST b n else h
def portRx (h : Stanak) (c a b : Nat) : Stanak :=
  if h.populated c ∧ h.rd F.HLNK_LK_STAT_RXST c = a then h.wr F.HLNK_LK_STAT_RXST b c else h

/-- LANE_UP of an uplink (R404). The figure it needs is the 16 of R405, since LAN_LIM lies in the Gloesk. A bound hub whose
uplinks were both down becomes pending (R429). -/
def upUp (h : Stanak) (n : Nat) : Stanak :=
  if h.rd F.HLAN_L_STAT_RXST n = 3 ∧ 32 ≤ Tab.get 0 h.lan.okRun n ∧ 16 ≤ h.rd F.HLAN_L_STAT_FOM n then
    (h.wr F.HLAN_L_STAT_RXST 4 n).iff (h.rd F.HLAN_L_STAT_RXST (1 - n) != 4 && h.rd F.HSEC_ATT_STAND == 2) (·.wr F.HSEC_ATT_STAND 1)
  else h

/-- HOLD_TIMEOUT of an uplink, of a cell port (R410, R411). -/
def upHoldEnd (h : Stanak) (n : Nat) : Stanak := if h.rd F.HLAN_L_STAT_RXST n = 5 then h.laneFalls n else h
def portHoldEnd (h : Stanak) (c : Nat) : Stanak := if h.rd F.HLNK_LK_STAT_RXST c = 4 then h.portDown c 0 0 0 false else h

/-- CAL_WINDOW_END of an uplink; of a port group, whose ports share one transmitter (R409). -/
def upWinEnd (h : Stanak) (n : Nat) : Stanak :=
  if h.rd F.HLAN_L_STAT_TXST n = 4 then (h.wr F.HLAN_L_STAT_TXST 3 n).frameGo n else h
def portWinEnd (h : Stanak) (c : Nat) : Stanak :=
  (h.each (groupPorts (c / 12)) (fun h c => if h.rd F.HLNK_LK_STAT_TXST c = 4 then h.wr F.HLNK_LK_STAT_TXST 3 c else h)).messagesGo

/-- SYNTHESISER_DRIFT of an uplink, of a port group: the need shows in HUB_CAL (R408, R418). -/
def upDrift (h : Stanak) (n : Nat) : Stanak := (h.up F.HLAN_L_STAT_DRIFT n).wrBit F.HUB_CAL_UNEED n true
def portDrift (h : Stanak) (c : Nat) : Stanak := h.wrBit F.HUB_CAL_GNEED (c / 12) true

end Stanak

namespace Ihloon

/-- STROKE_BOUNDARY on cell time, with the key epochs and the debug watch of the running part. -/
def strokeBoundary (c : Ihloon) (T : Nat) : Ihloon :=
  if !c.mainRuns then c
  else
    let c := c.boundary T
    (c.onTrust (·.switch c.stroke)).debugWatch

/-- The plane that the cell follows (R41): P while its link is up and its hub is locked, otherwise Q. -/
def chooseSide (c : Ihloon) (p : Nat) (hubLocked : Bool) : Ihloon :=
  let side := if p = 0 then (if hubLocked then 0 else 1) else if c.rd F.LNK_LK_STAT_RXST 0 ≠ 3 then 1 else c.follow.side
  { c with follow := { c.follow with side := side } }

/-- TIME_MESSAGE over link `p`: a marker is answered, and the exchange gives the cell its offset (R41, R44, R171). A message
whose tag fails is discarded. -/
def timeMessage (c : Ihloon) (p : Nat) (m : LinkMsg) (reply : Bool) (seq : Nat) (t1 t2 t3 t4 a : Int) (hubLocked : Bool) : Ihloon :=
  if !c.mainRuns || c.rd F.LNK_LK_STAT_RXST p != 3 || !(c.trust.keyed.contains p) then c
  else if !(m.recent c.stroke) then c.inc F.LNK_LK_CNT1_MDISC p
  else if reply then c
  else
    ((c.message p 6 (packFields (timeBody (ofS 46 t3) (ofS 46 t2) seq 1))).chooseSide p hubLocked).timeExchange p (exchangeOffset t1 t2 t3 t4 a)

/-- A transmitter leaves SETTLE, then its commas (R411). -/
def txSettled (c : Ihloon) (n : Nat) : Ihloon :=
  if c.mainRuns ∧ c.rd F.LNK_LK_STAT_TXST n < 2 then c.wr F.LNK_LK_STAT_TXST 2 n else c
def txTrained (c : Ihloon) (n : Nat) : Ihloon :=
  if c.mainRuns ∧ c.rd F.LNK_LK_STAT_TXST n = 2 then c.wr F.LNK_LK_STAT_TXST 3 n else c

/-- A receiver goes on from state `a` to `b`. -/
def rxStep (c : Ihloon) (n a b : Nat) : Ihloon :=
  if c.mainRuns ∧ c.rd F.LNK_LK_STAT_RXST n = a then (c.wr F.LNK_LK_STAT_RXST b n).showSingle else c

/-- HOLD_TIMEOUT of a link (R410, R411). -/
def rxHoldEnd (c : Ihloon) (n : Nat) : Ihloon := if c.mainRuns ∧ c.rd F.LNK_LK_STAT_RXST n = 4 then c.linkDown n 0 0 0 else c

/-- SYNTHESISER_DRIFT: LNK_TXCAL.NEED (R413). -/
def txDrift (c : Ihloon) : Ihloon := if c.mainRuns then c.up F.LNK_TXCAL_NEED else c

end Ihloon

end Sys2Proof.Machine
end

