-- ==== Sys2Proof/Machine/State.lean ====
section
/-!
DEFINITION. The state of the block: the three parts as plain data, and the commands that wait. The reasons for which a
step may stop.
-/

namespace Sys2Proof.Machine

/-- The whole state: one Gloesk, one Stanak, one Ihloon (log entry 1), and the commands that wait, first in, first out. -/
structure State where
  gk : Gloesk
  sk : Stanak
  ih : Ihloon
  pending : List Instr
  deriving DecidableEq, Repr

/-- The machine right after reset: every part at its reset state, a GK-9664, no command waiting. -/
def State.reset : State := { gk := Gloesk.reset .gk9664, sk := Stanak.reset, ih := Ihloon.reset, pending := [] }

/-- Reasons for which a step stops: none. The manual gives every command of the table an effect, in every state; an access
that it forbids is answered with the error that it names. Safe. -/
inductive Fault where
  deriving DecidableEq, Repr

/-- Reasons for which a step is refused. -/
inductive Refusal where
  /-- The command has no meaning in the model yet: raised by the dispatcher alone. Safe. -/
  | notModelled (mnemonic : String)
  deriving DecidableEq, Repr

end Sys2Proof.Machine
end

