-- ==== Sys2Proof/Machine/Whole.lean ====
section
/-!
DEFINITION. What a command does to the whole state, part by part: the part it acts on, the period that hub and cell share
with their Gloesk, commands that name a part or a lane end.
-/

namespace Sys2Proof.Machine

/-- The values of words. -/
def natsOf (l : List Word) : List Nat := l.map (·.toNat)

namespace State

/-- The stroke period, which the whole set shares (R28). -/
def period (s : State) : Nat := s.gk.period

/-- SEC_LIM.TAGF, the limit on failed tags in a second (R435). -/
def tagLimit (s : State) : Nat := s.gk.rd F.SEC_LIM_TAGF

/-- A step of the Gloesk outside HST and PWR. -/
def onG (s : State) (f : Gloesk → Gloesk) : State := { s with gk := s.gk.act f }

/-- A step of HST, PWR or the boot, which act while the other blocks are held. -/
def onP (s : State) (f : Gloesk → Gloesk) : State := { s with gk := (f s.gk).finish }

/-- A step of the hub. -/
def onH (s : State) (f : Stanak → Stanak) : State := { s with sk := f s.sk }

/-- A step of the cell; `f` takes the stroke period. -/
def onC (s : State) (f : Nat → Ihloon → Ihloon) : State := { s with ih := f s.period s.ih }

/-- A step of the part named; the cell's main domain must run. -/
def onPart (s : State) (p : Part) (fg : Gloesk → Gloesk) (fh : Nat → Stanak → Stanak) (fc : Nat → Ihloon → Ihloon) : State :=
  match p with
  | .gloesk => s.onG fg
  | .stanak => s.onH (fh s.period)
  | .ihloon => s.onC (fun T c => if c.mainRuns then fc T c else c)

/-! ### Cores (R258, R284) -/

/-- The instruction with encoding `w` on core `u`, as the Quill and the Quill-S carry it out. -/
def quillBoth (s : State) (u : CoreId) (w fe : Nat) (fg : Gloesk → Nat → Option Gloesk) (fc : Nat → Ihloon → Ihloon) : State :=
  match u with
  | .q n => s.onG (fun g => g.quill n w fe (fun g => fg g n))
  | .s => s.onC (fun T c => c.quillS T w fe (fc T))

/-- An instruction that acts on the core alone. -/
def quillCore (s : State) (u : CoreId) (w fe : Nat) (f : Core → Core) : State :=
  match u with
  | .q n => s.onG (fun g => g.quillCore n w fe f)
  | .s => s.onC (fun T c => c.quillSCore T w fe f)

/-- A debug command to a core. -/
def onCore (s : State) (u : CoreId) (f : Core → Core) (fc : Nat → Ihloon → Ihloon) : State :=
  match u with
  | .q n => s.onG (fun g => g.debugCommand n f)
  | .s => s.onC fc

/-! ### Time (R28, R41, R171) -/

/-- STROKE_BOUNDARY on the time of a part. -/
def strokeBoundary (s : State) (p : Part) : State :=
  match p with
  | .gloesk => s.onG (·.strokeBoundary)
  | .stanak => s.onH (·.strokeBoundary s.period)
  | .ihloon => s.onC (fun T c => c.strokeBoundary T)

/-- TIME_MARKER of the upstream side over a link: hub lane or TL0 of the Gloesk, cell port of the hub. A cell sends none. -/
def timeMarker (s : State) (p : Part) (link : Nat) (t1 : Int) : State :=
  match p with
  | .gloesk => s.onG (·.timeMarker link)
  | .stanak => s.onH (·.timeMarker link t1)
  | .ihloon => s

/-- TIME_FRAME_RECEIVED on a lane of the Gloesk or an uplink of the hub. -/
def timeFrame (s : State) (p : Part) (lane twin claim : Nat) (reply : Bool) (seq : Nat) (t1 t2 t3 t4 : Int) : State :=
  match p with
  | .gloesk => s.onG (·.linked lane (·.timeFrame lane twin claim reply seq t2 t3))
  | .stanak => if lane < 2 then s.onH (·.linked lane (·.timeFrame lane reply seq t1 t2 t3 t4 (s.gk.laneAsym s.sk.lane))) else s
  | .ihloon => s

/-- TIME_MESSAGE on a cell link: a cell port of the hub, a link of the cell. -/
def timeMessage (s : State) (p : Part) (link : Nat) (m : LinkMsg) (reply : Bool) (seq : Nat) (t1 t2 t3 t4 : Int) (hubLocked : Bool) : State :=
  match p with
  | .gloesk => s
  | .stanak => s.onH (·.timeMessage link m)
  | .ihloon =>
    if link < 2 then
      s.onC (fun _ c => c.timeMessage link m reply seq t1 t2 t3 t4
        (s.gk.portAsym (Gloesk.laneOf (c.addr / 256) link) (c.addr % 256)) hubLocked)
    else s

/-! ### The cell's management channel (R172, R209) -/

/-- MGMT_WRITE_REQUEST to the cell. A settings record that the Gloesk's own check rejects is not delivered. -/
def mgmtWrite (s : State) (p : Nat) (m : LinkMsg) (tick tid addr : Nat) (ws : List Nat) (obj : Option (Envelope × Delivery)) : State :=
  let bad := match obj with
    | some (_, .settings l) => !(s.gk.cellSettingsOk (fun f n => s.ih.rd f n) l)
    | _ => false
  if bad then s.onG (·.raise 5)
  else s.onC (fun T c => c.mgmtWrite T tick p m tid addr ws obj)

/-! ### Fault sources (R358, R370) -/

/-- CAUSE_RISE at a part. -/
def causeRise (s : State) (p : Part) (n : Nat) (who : Who) : State :=
  s.onPart p (·.raise n who) (fun _ h => h.raise n) (fun _ c => c.raise n)

/-- CAUSE_FALL at a part. -/
def causeFall (s : State) (p : Part) (n : Nat) (who : Who) : State :=
  s.onPart p (·.lower n who) (fun _ h => h.lower n) (fun _ c => c.lower n)

/-! ### Registers of the Gloesk (R443, R444, R451) -/

/-- The address lies in HST or PWR, which answer while the other blocks are held. -/
def heldBlock (a : Nat) : Bool := decide (a < 0x20000)

/-- REGISTER_WRITE by the host. -/
def registerWrite (s : State) (a v be hit : Nat) : State :=
  if heldBlock a then s.onP (·.hostWrite a v be hit) else s.onG (·.hostWrite a v be hit)

/-- REGISTER_READ_CLEAR by a requester; `hit` names an event of the same clock. -/
def registerRead (s : State) (who a : Nat) (hit : Option Nat) : State :=
  if who = 0 ∧ (Gloesk.debugAt a).isSome = true then
    s.onG (fun g => let r := g.hostRead a; r.1.answer 0 [r.2])
  else if heldBlock a then s.onP (·.readClear who a hit) else s.onG (·.readClear who a hit)

/-! ### Lane ends (R403-R413) -/

/-- An action on the lane end named. -/
def onEnd (s : State) (e : LaneEnd) (gl : Gloesk → Nat → Gloesk) (up port : Stanak → Nat → Stanak) (lk : Ihloon → Nat → Ihloon) : State :=
  match e with
  | .gl n => s.onG (fun g => gl g n)
  | .up n => s.onH (fun h => up h n)
  | .port c => s.onH (fun h => port h c)
  | .lk n => s.onC (fun _ c => lk c n)

/-- TX_SETTLE_DONE. -/
def txSettleDone (s : State) (e : LaneEnd) : State :=
  s.onEnd e (fun g n => g.txSettled n) (fun h n => h.upSettled n) (fun h c => h.portSettled c) (fun c n => c.txSettled n)

/-- TRAIN_END. -/
def trainEnd (s : State) (e : LaneEnd) : State :=
  s.onEnd e (fun g n => g.txTrained n) (fun h n => h.upTrained n) (fun h c => h.portTrained c) (fun c n => c.txTrained n)

/-- A receiver goes on from one state to the next; the cell links number theirs apart. -/
def rxStep (s : State) (e : LaneEnd) (a b a' b' : Nat) : State :=
  s.onEnd e (fun g n => g.rxStep n a b) (fun h n => h.upRx n a b) (fun h c => h.portRx c a' b') (fun c n => c.rxStep n a' b')

/-- SIGNAL_DETECT. -/
def signalDetect (s : State) (e : LaneEnd) : State := s.rxStep e 0 1 0 1

/-- CDR_LOCK. -/
def cdrLock (s : State) (e : LaneEnd) : State := s.rxStep e 1 2 1 2

/-- PILOT_LOCK: lanes alone carry pilots. -/
def pilotLock (s : State) (e : LaneEnd) (seen : List Nat) : State :=
  s.onEnd e (fun g n => g.pilotLock n seen) (fun h n => h.pilotLock n seen) (fun h _ => h) (fun c _ => c)

/-- LANE_UP. -/
def laneUp (s : State) (e : LaneEnd) (devid step : Nat) : State :=
  s.onEnd e (fun g n => g.laneUp n devid step) (fun h n => h.upUp n) (fun h _ => h) (fun c _ => c)

/-- CODEWORD on a lane; cell links carry none. -/
def codeword (s : State) (e : LaneEnd) (line : List Nat) (tags : List (Bool × Bool)) : State :=
  s.onEnd e (fun g n => g.codeword n line tags) (fun h n => h.codeword (s.gk.rd F.SEC_LIM_GCMF) n line tags) (fun h _ => h) (fun c _ => c)

/-- LOSS_OF_SIGNAL: HOLD. A frame in transit on a lane is lost (R410). -/
def lossOfSignal (s : State) (e : LaneEnd) : State :=
  s.onEnd e (fun g n => (g.iff (g.rd F.LAN_L_STAT_RXST n == 4) (·.onLine n LineRx.drop)).rxStep n 4 5)
    (fun h n => (h.iff (h.rd F.HLAN_L_STAT_RXST n == 4) (·.onLine n LineRx.drop)).upRx n 4 5) (fun h c => h.portRx c 3 4)
    (fun c n => c.rxStep n 3 4)

/-- SIGNAL_RETURN: UP again, no loss of lock counted. -/
def signalReturn (s : State) (e : LaneEnd) : State := s.rxStep e 5 4 4 3

/-- HOLD_TIMEOUT. -/
def holdTimeout (s : State) (e : LaneEnd) : State :=
  s.onEnd e (fun g n => g.rxHoldEnd n) (fun h n => h.upHoldEnd n) (fun h c => h.portHoldEnd c) (fun c n => c.rxHoldEnd n)

/-- FOM_REFRESH of a lane. -/
def fomRefresh (s : State) (e : LaneEnd) (mu : List Int) (sd : List Nat) : State :=
  s.onEnd e (fun g n => g.fomRefresh n mu sd) (fun h n => h.fomRefresh n mu sd) (fun h _ => h) (fun c _ => c)

/-- CAL_WINDOW_START of a Gloesk lane. A hub's window opens with its grant, a cell's with IHLOON_TX_WINDOW. -/
def calWindowStart (s : State) (e : LaneEnd) : State :=
  s.onEnd e (fun g n => g.winStart n) (fun h _ => h) (fun h _ => h) (fun c _ => c)

/-- CAL_WINDOW_END. -/
def calWindowEnd (s : State) (e : LaneEnd) : State :=
  s.onEnd e (fun g n => g.winEnd n) (fun h n => h.upWinEnd n) (fun h c => h.portWinEnd c) (fun c _ => c)

/-- CELL_LINK_UP at a port or at the cell. -/
def cellLinkUp (s : State) (e : LaneEnd) (fom : Nat) : State :=
  s.onEnd e (fun g _ => g) (fun h _ => h) (fun h c => if h.populated c then h.portUp c fom else h)
    (fun c n => if c.mainRuns then c.linkUp n fom else c)

/-- CELL_LINK_DOWN at a port or at the cell. -/
def cellLinkDown (s : State) (e : LaneEnd) (viol disp disc : Nat) (silent : Bool) : State :=
  s.onEnd e (fun g _ => g) (fun h _ => h) (fun h c => h.portDown c viol disp disc silent) (fun c n => c.linkDown n viol disp disc)

/-- SYNTHESISER_DRIFT. -/
def synthesiserDrift (s : State) (e : LaneEnd) : State :=
  s.onEnd e (fun g n => g.txDrift n) (fun h n => h.upDrift n) (fun h c => h.portDrift c) (fun c _ => c.txDrift)

end State

end Sys2Proof.Machine
end

