-- ==== Sys2Proof/Machine/RunAq.lean ====
section
/-!
DEFINITION. The meanings of the commands of acquisition and the arbiters: one definition for each.
-/

namespace Sys2Proof.Machine

/-- AQ_SLOT (R222): A conversion slot begins and the sequencer assigns it. -/
def execAqSlot (cell : Bool) (ins : List Int) (s : State) : Host.Outcome State Fault Refusal :=
  .next (if cell then s.onC (fun T c => c.aqSlot T ins) else s.onG (·.aqSlot ins))

/-- AQ_RESULT (R223): An entry's result is written 50 ns after its last conversion. -/
def execAqResult (cell : Bool) (s : State) : Host.Outcome State Fault Refusal :=
  .next (if cell then s.onC (fun _ c => c.aqResult) else s.onG (·.aqResult))

/-- URGENT_REQUEST (R227): AQ_URG.REQ raises an urgent conversion request, dropped if one is pending. -/
def execUrgentRequest (cell : Bool) (input : Fin 32) (tick : Fin 16777216) (s : State) : Host.Outcome State Fault Refusal :=
  .next (if cell then s.onC (fun T c => c.urgentRequest T tick input) else s.onG (·.aqUrgentRequest input))

/-- URGENT_RESULT (R227): An urgent result is written to AQ_URES0. -/
def execUrgentResult (cell : Bool) (s : State) : Host.Outcome State Fault Refusal :=
  .next (if cell then s.onC (fun _ c => c.urgentResult) else s.onG (·.aqUrgentResult))

/-- AQ_ENABLE (R226): A write of AQ_CTRL.EN starts acquisition at the next stroke boundary. -/
def execAqEnable (cell en : Bool) (s : State) : Host.Outcome State Fault Refusal :=
  .next (if cell then s.onC (fun _ c => c.aqEnable en) else s.onG (·.aqEnable en))

/-- SLICE_CALIBRATED (R229): A slice's measurement completes, coefficients are computed and the next slice swaps. -/
def execSliceCalibrated (cell beyond : Bool) (s : State) : Host.Outcome State Fault Refusal :=
  .next (if cell then s.onC (fun _ c => c.sliceDone beyond) else s.onG (·.sliceDone beyond))

/-- DRIFT_CLEAR (R232): A W1C of DRIFT or HARD clears only below half its limit. -/
def execDriftClear (cell hard : Bool) (s : State) : Host.Outcome State Fault Refusal :=
  .next (if cell then s.onC (fun _ c => c.driftClear hard) else s.onG (·.driftClear hard))

/-- REF_SELECT (R233): A write of AQ_REFCTL.SEL moves conversion to the check reference at the next boundary. -/
def execRefSelect (cell : Bool) (s : State) : Host.Outcome State Fault Refusal :=
  .next (if cell then s.onC (fun _ c => c.up F.CAQ_REFCTL_SEL) else s.onG (·.up F.AQ_REFCTL_SEL))

/-- XOFF (R233): A write of AQ_REFCTL.XOFF stops drift reports. -/
def execXoff (cell : Bool) (s : State) : Host.Outcome State Fault Refusal :=
  .next (if cell then s.onC (fun _ c => c.up F.CAQ_REFCTL_XOFF) else s.onG (·.up F.AQ_REFCTL_XOFF))

/-- AQ_RES0_READ (R223): A read of AQ_RES0 latches AQ_RES1–AQ_RES31. -/
def execAqRes0Read (cell : Bool) (who : Fin 17) (s : State) : Host.Outcome State Fault Refusal :=
  .next (if cell then s.onC (fun _ c => c.aqRes0Read who) else s.onG (·.aqRes0Read who))

/-- AQ_URES0_READ (R239): A read of AQ_URES0 latches AQ_URES1. -/
def execAqUres0Read (cell : Bool) (who : Fin 17) (s : State) : Host.Outcome State Fault Refusal :=
  .next (if cell then s.onC (fun _ c => c.aqUres0Read who) else s.onG (·.aqUres0Read who))

/-- ARBITER_START (R234): AQ_ARBCMD.GO stages the start of an arm's reference arbiter. -/
def execArbiterStart (x : Fin 8192) (d : BitVec 24) (s : State) : Host.Outcome State Fault Refusal :=
  .next (s.onG (fun g => (g.stagedWrite .aq R.AQ_ARBD.addr d.toNat).stagedWrite .aq R.AQ_ARBCMD.addr (x + 2 ^ 16)))

/-- ARBITER_TIMEOUT (R236): 2^TO_LOG input sets pass and the arbiter ends UNRESOLVED. -/
def execArbiterTimeout (a : Fin 12) (s : State) : Host.Outcome State Fault Refusal :=
  .next (s.onG (fun g => g.arbTimeout a))

/-- ARBITER_HOLD_OUT (R237): 16 input sets after an outcome the arbiter's hold-out takes effect. -/
def execArbiterHoldOut (a : Fin 12) (s : State) : Host.Outcome State Fault Refusal :=
  .next (s.onG (fun g => g.arbHoldOut a))

end Sys2Proof.Machine
end

