-- ==== Sys2Proof/Machine/RunBlotter.lean ====
section
/-!
DEFINITION. The meanings of the commands of the Blotter: one definition for each.
-/

namespace Sys2Proof.Machine

/-- CAUSE_RISE (R358): A Blotter source's cause rises; status, count and times update and class A acts. -/
def execCauseRise (p : Part) (n : Fin 512) (who : Who) (s : State) : Host.Outcome State Fault Refusal :=
  .next (s.causeRise p n who)

/-- CAUSE_FALL (R373): A source's cause falls and a log entry is written. -/
def execCauseFall (p : Part) (n : Fin 512) (who : Who) (s : State) : Host.Outcome State Fault Refusal :=
  .next (s.causeFall p n who)

/-- EVENT_CAUSE_EXPIRY (R358): An event source's cause falls at the second boundary after its last event. -/
def execEventCauseExpiry (p : Part) (n : Fin 512) (s : State) : Host.Outcome State Fault Refusal :=
  .next (s.onPart p (·.eventExpiry n) (fun _ h => h.eventExpiry n) (fun _ c => c.eventExpiry n))

/-- PERSISTENCE_MET (R358): A class B cause persists PERS + 1 boundaries and its actions apply. -/
def execPersistenceMet (n : Fin 512) (s : State) : Host.Outcome State Fault Refusal :=
  .next (s.onG (fun g => g.persistenceMet n))

/-- ACTION_NOTICE (R363): The partner's action notice arrives. -/
def execActionNotice (a : BltAction) (s : State) : Host.Outcome State Fault Refusal :=
  .next (s.onG (fun g => g.actionNotice a))

/-- ALERT_PULSE_END (R366): The minimum pulse ends and a held REL is judged. -/
def execAlertPulseEnd (n : Fin 4) (s : State) : Host.Outcome State Fault Refusal :=
  .next (s.onG (fun g => g.alertPulseEnd n))

/-- ALERT_REL (R366): BLT_ALERTn.REL releases the alert, held or refused as the rule states. -/
def execAlertRel (n : Fin 4) (s : State) : Host.Outcome State Fault Refusal :=
  .next (s.onG (fun g => g.alertRel n))

/-- ALERT_PIN_FAULT (R366): The ball reads high for 1 ms while driven low and raises source 3. -/
def execAlertPinFault (n : Fin 4) (s : State) : Host.Outcome State Fault Refusal :=
  .next (s.onG (fun g => g.alertPinFault n))

/-- BLT_REL_WRITE (R367): A write of BLT_REL stages releases of arms or TRIPPED. -/
def execBltRelWrite (arms : BitVec 12) (trip : Bool) (s : State) : Host.Outcome State Fault Refusal :=
  .next (s.onG (fun g => g.writeReg 0 R.BLT_REL.addr (arms.toNat + trip.toNat * 2 ^ 16) 15))

/-- BLT_CREL (R367): A write of BLT_CREL queues release of a cell's bypass mark. -/
def execBltCrel (x : Fin 8192) (s : State) : Host.Outcome State Fault Refusal :=
  .next (s.onG (fun g => g.stagedWrite .blt R.BLT_CREL.addr x))

/-- SOURCE_CLEAR (R368): A W1C of BLT_SRCn_STAT.SET clears status only while CAUSE is 0. -/
def execSourceClear (p : Part) (n : Fin 512) (s : State) : Host.Outcome State Fault Refusal :=
  .next (s.onPart p (·.sourceClear n) (fun _ h => h.sourceClear n) (fun _ c => c.sourceClear n))

/-- SOURCE_FORCE (R369): A write of FORCE sets or clears a forced cause when permitted. -/
def execSourceForce (p : Part) (n : Fin 512) (x : Bool) (s : State) : Host.Outcome State Fault Refusal :=
  .next (s.onPart p (·.sourceForce n x) (fun _ h => h.sourceForce n x) (fun _ c => c.sourceForce n x))

/-- HUB_BLOTTER_READ (R371): A hub reads a cell's changed sources after an EVCNT change and packs records. -/
def execHubBlotterRead (cell : Option (Fin 192)) (rs : List BltRecord) (s : State) : Host.Outcome State Fault Refusal :=
  .next (s.onH (fun h => match cell with | some c => h.blotterCell c rs | none => h.blotterOwn))

/-- BLOTTER_READ_RETRY (R371): A record read not completed within 100 µs is repeated, after 8 failures raising 105. -/
def execBlotterReadRetry (c : Fin 192) (s : State) : Host.Outcome State Fault Refusal :=
  .next (s.onH (fun h => h.blotterRetry c))

/-- BLOTTER_BLOCK (R372): A BULK Blotter block reaches the Gloesk and its records are merged. -/
def execBlotterBlock (rs : List BltRecord) (s : State) : Host.Outcome State Fault Refusal :=
  .next (s.onG (fun g => g.blotterBlock rs))

/-- CHANGED_BITMAP_READ (R370): A read of BLT_CHGP or BLT_CHGQ returns and clears that link's bitmap. -/
def execChangedBitmapRead (cell : Bool) (w : Fin 4) (s : State) : Host.Outcome State Fault Refusal :=
  .next (if cell then s.onC (fun _ c => c.changedRead w) else s.onH (·.changedRead w))

/-- LOG_POP (R373): BLT_LOGCTL.POP advances the log read pointer. -/
def execLogPop (s : State) : Host.Outcome State Fault Refusal :=
  .next (s.onG (fun g => g.logPop))

/-- LOG0_READ (R373): A read of BLT_LOG0 latches BLT_LOG1–BLT_LOG3. -/
def execLog0Read (who : Fin 17) (s : State) : Host.Outcome State Fault Refusal :=
  .next (s.onG (fun g => g.log0Read who))

/-- SOURCE_FIRST_READ (R378): A read of FIRST0 or LAST0 latches its seconds word. -/
def execSourceFirstRead (who : Fin 17) (n : Fin 512) (last : Bool) (s : State) : Host.Outcome State Fault Refusal :=
  .next (s.onG (fun g => g.sourceTimeRead who n last))

/-- CBDATA_READ (R378): A read of BLT_CBDATA returns a cell's mark and advances CBADDR. -/
def execCbdataRead (who : Fin 17) (s : State) : Host.Outcome State Fault Refusal :=
  .next (s.onG (fun g => g.cbdataRead who))

/-- INCIDENT_CLEAR (R375): INCIDENT clears 10 ms after its conditions end. -/
def execIncidentClear (s : State) : Host.Outcome State Fault Refusal :=
  .next (s.onG (fun g => g.incidentClear))

end Sys2Proof.Machine
end

