-- ==== Sys2Proof/Machine/RunDuctus.lean ====
section
/-!
DEFINITION. The meanings of the commands of the scheduler: one definition for each.
-/

namespace Sys2Proof.Machine

/-- TASK_POST_CMD (R303): DUC_TCMD with ACT 1 posts a task and reports status. -/
def execTaskPostCmd (t : Fin 256) (s : State) : Host.Outcome State Fault Refusal :=
  .next (s.onG (fun g => g.taskPost t))

/-- TASK_KILL (R303): DUC_TCMD with ACT 2 kills a task to DORMANT, releasing locks abandoned. -/
def execTaskKill (t : Fin 256) (s : State) : Host.Outcome State Fault Refusal :=
  .next (s.onG (fun g => g.kill t 1))

/-- TASK_DISABLE (R303): DUC_TCMD with ACT 3 kills a task and disables it. -/
def execTaskDisable (t : Fin 256) (s : State) : Host.Outcome State Fault Refusal :=
  .next (s.onG (fun g => g.kill t 0))

/-- TASK_ENABLE (R304): DUC_TCMD with ACT 4 enables a disabled task after its checks. -/
def execTaskEnable (t : Fin 256) (s : State) : Host.Outcome State Fault Refusal :=
  .next (s.onG (fun g => g.taskEnable t))

/-- PREEMPTION (R297): A pre-empted core reaches its instruction boundary and its task's context is saved. -/
def execPreemption (q : Fin 16) (ce : Fin 3) (s : State) : Host.Outcome State Fault Refusal :=
  .next (s.onG (fun g => g.preemption q ce))

/-- BUDGET_EXCEEDED (R300): A run exceeds BUDGET µs and is counted or ended. -/
def execBudgetExceeded (t : Fin 256) (s : State) : Host.Outcome State Fault Refusal :=
  .next (s.onG (fun g => g.budgetExceeded t))

/-- LOCK_WAIT_TIMEOUT (R295): A task waits on a lock for more than LOCKTO strokes. -/
def execLockWaitTimeout (t : Fin 256) (s : State) : Host.Outcome State Fault Refusal :=
  .next (s.onG (fun g => g.lockWaitTimeout t))

/-- CORE_ENABLE_WRITE (R302): A write of DUC_CORE enables pairs or pre-empts and withdraws them. -/
def execCoreEnableWrite (v : BitVec 16) (s : State) : Host.Outcome State Fault Refusal :=
  .next (s.onG (fun g => g.coreEnableWrite v.toNat))

/-- CORE_RETURN (R302): DUC_CORERET starts the self-test of a fenced pair. -/
def execCoreReturn (v : BitVec 16) (s : State) : Host.Outcome State Fault Refusal :=
  .next (s.onG (fun g => g.coreReturn v.toNat))

/-- SELF_TEST_COMPLETE (R302): The 2 ms self-test ends, unfencing the pair or keeping it fenced. -/
def execSelfTestComplete (q : Fin 16) (good : Bool) (s : State) : Host.Outcome State Fault Refusal :=
  .next (s.onG (fun g => g.selfTest q good))

end Sys2Proof.Machine
end

