-- ==== Sys2Proof/Machine/RunFolio.lean ====
section
/-!
DEFINITION. The meanings of the commands of the recorder: one definition for each.
-/

namespace Sys2Proof.Machine

/-- FOLIO_ARM (R387): FOL_Fn_CTRL.ARM arms a folio or refuses with an ASTAT code. -/
def execFolioArm (n : Fin 8) (s : State) : Host.Outcome State Fault Refusal :=
  .next (s.onG (fun g => g.folioArm n))

/-- FOLIO_TRIG (R388): FOL_Fn_CTRL.TRIG is a software trigger. -/
def execFolioTrig (n : Fin 8) (s : State) : Host.Outcome State Fault Refusal :=
  .next (s.onG (fun g => g.folioTrig n))

/-- FOLIO_FREE (R394): FOL_Fn_CTRL.FREE returns a DONE folio to IDLE. -/
def execFolioFree (n : Fin 8) (s : State) : Host.Outcome State Fault Refusal :=
  .next (s.onG (fun g => g.folioFree n))

/-- FOLIO_ABORT (R394): FOL_Fn_CTRL.ABORT discards a folio and returns it to IDLE. -/
def execFolioAbort (n : Fin 8) (s : State) : Host.Outcome State Fault Refusal :=
  .next (s.onG (fun g => g.folioAbort n))

/-- TRIGIN_EDGE (R389): A TRIGIN edge is stamped by the TDC against Baseline time. -/
def execTriginEdge (p : Fin 2) (rise : Bool) (tenths : Nat) (s : State) : Host.Outcome State Fault Refusal :=
  .next (s.onG (fun g => (g.triginEdge p rise tenths).iff rise (·.aqTrigin p)))

/-- FINALISATION_COMPLETE (R391): Finalisation rewrites sample numbers and timestamps and the folio becomes DONE. -/
def execFinalisationComplete (n : Fin 8) (s : State) : Host.Outcome State Fault Refusal :=
  .next (s.onG (fun g => g.finalise n))

/-- STREAM_UNIT (R393): A stream unit is written to the host ring and WPTR advances. -/
def execStreamUnit (s : State) : Host.Outcome State Fault Refusal :=
  .next (s.onG (fun g => g.streamUnit))

/-- SRRPTR_WRITE (R393): A write of FOL_SRRPTR frees ring space and resumes a paused stream. -/
def execSrrptrWrite (v : Word) (s : State) : Host.Outcome State Fault Refusal :=
  .next (s.onG (fun g => g.wr F.FOL_SRRPTR_RPTR v.toNat))

/-- FOL_TTS0_READ (R395): A read of FOL_TTSn0 latches the rest of the stamp. -/
def execFolTts0Read (who : Fin 17) (p : Fin 2) (s : State) : Host.Outcome State Fault Refusal :=
  .next (s.onG (fun g => g.tts0Read who p))

end Sys2Proof.Machine
end

