-- ==== Sys2Proof/Machine/RunHost.lean ====
section
/-!
DEFINITION. The meanings of the commands of the host endpoint: one definition for each.
-/

namespace Sys2Proof.Machine

/-- ENDPOINT_RESET (R442): PERST_N, FLR or D3hot resets only the PCIe endpoint. -/
def execEndpointReset (perst : Bool) (s : State) : Host.Outcome State Fault Refusal :=
  .next (s.onP (fun g => g.endpointReset perst))

/-- PCIE_LINK_DOWN (R442): The PCIe link leaves L0 and outstanding requests are dropped. -/
def execPcieLinkDown (s : State) : Host.Outcome State Fault Refusal :=
  .next (s.onP (fun g => g.linkLost))

/-- REGISTER_WRITE (R444): A write to a register with no row of its own is executed as a 32-bit access. -/
def execRegisterWrite (a : BitVec 24) (v : Word) (be : Fin 16) (hit : Word) (s : State) : Host.Outcome State Fault Refusal :=
  .next (s.registerWrite a.toNat v.toNat be hit.toNat)

/-- HUB_WINDOW_READ (R446): A BAR0 read of a hub window becomes a MGMT read request. -/
def execHubWindowRead (n : Fin 64) (ofs : BitVec 17) (count : Fin 1024) (shapeOk : Bool) (s : State) : Host.Outcome State Fault Refusal :=
  .next (s.onG (fun g => g.hubRequest 0 0 n ofs.toNat count true shapeOk []))

/-- HUB_WINDOW_WRITE (R446): A BAR0 write to a hub window becomes a MGMT write request. -/
def execHubWindowWrite (n : Fin 64) (ofs : BitVec 17) (ws : List Word) (shapeOk : Bool) (s : State) : Host.Outcome State Fault Refusal :=
  .next (s.onG (fun g => g.hubRequest 0 0 n ofs.toNat ws.length false shapeOk (natsOf ws)))

/-- HUB_WINDOW_RESPONSE (R447): A MGMT response completes its hub window access or records a failure. -/
def execHubWindowResponse (n : Fin 64) (twin : Fin 2) (claim : Fin 65536) (tid code : Fin 256) (ws : List Word) (s : State) : Host.Outcome State Fault Refusal :=
  .next (s.onG (fun g => (g.header n twin claim).hubResponse n tid code (natsOf ws)))

/-- HUB_WINDOW_TIMEOUT (R447): 200 µs pass without a response and the access completes with code 8. -/
def execHubWindowTimeout (n : Fin 64) (s : State) : Host.Outcome State Fault Refusal :=
  .next (s.onG (fun g => g.hubTimeout n))

/-- HERR_CLEAR (R453): A W1C of HST_HERR.VALID allows the next failure to be recorded. -/
def execHerrClear (s : State) : Host.Outcome State Fault Refusal :=
  .next (s.onP (fun g => g.herrClear))

/-- DATA_PORT_WRITE (R449): A BAR2 write reaches Inkwell at DPADDR + offset. -/
def execDataPortWrite (x : Fin 1024) (ws : List (Word × Fin 16)) (s : State) : Host.Outcome State Fault Refusal :=
  .next (s.onG (fun g => g.portWrite x (ws.map (fun e => (e.1.toNat, e.2.val)))))

/-- DATA_PORT_READ (R449): A BAR2 read returns Inkwell data at DPADDR + offset. -/
def execDataPortRead (x : Fin 1024) (n : Fin 1025) (find : Fin 3) (s : State) : Host.Outcome State Fault Refusal :=
  .next (s.onG (fun g => g.portRead x n find))

/-- DATA_PORT_ADV (R449): HST_DPCTL.ADV adds 0x1000 to DPADDR. -/
def execDataPortAdv (s : State) : Host.Outcome State Fault Refusal :=
  .next (s.onP (fun g => g.portAdv))

/-- DATA_PORT_TIMEOUT (R450): A data-port access without an Inkwell cycle in 100 µs is dropped. -/
def execDataPortTimeout (isRead : Bool) (x : Fin 1024) (n : Fin 1025) (s : State) : Host.Outcome State Fault Refusal :=
  .next (s.onP (fun g => g.portTimeout isRead x n))

/-- DPSTAT_READ (R449): A read of HST_DPSTAT waits for earlier BAR2 writes and clears DROP and GUARD. -/
def execDpstatRead (who : Fin 17) (s : State) : Host.Outcome State Fault Refusal :=
  .next (s.onP (fun g => g.dpstatRead who))

/-- DOORBELL (R452): A write of HST_DOORBELL sends MSI-X vector 5. -/
def execDoorbell (v : Word) (s : State) : Host.Outcome State Fault Refusal :=
  .next (s.onP (fun g => g.doorbell v.toNat))

/-- MSIX_UNMASK (R452): Unmasking a vector sends its pending message. -/
def execMsixUnmask (v : Fin 8) (s : State) : Host.Outcome State Fault Refusal :=
  .next (s.onP (fun g => g.msixUnmask v))

/-- PCIE_LINK_UP (R442): The PCIe link trains back into L0, setting the negotiated width and speed and ending source
4's cause. -/
def execPcieLinkUp (width speed : Fin 16) (s : State) : Host.Outcome State Fault Refusal :=
  .next (s.onP (fun g => g.linkTrained width speed))

/-- REGISTER_READ_CLEAR (R451): A read of an RC field returns its value and clears it, with a same-clock event leaving
the counter at 1. -/
def execRegisterReadClear (who : Fin 17) (a : BitVec 24) (hit : Option Nat) (s : State) : Host.Outcome State Fault Refusal :=
  .next (s.registerRead who a.toNat hit)

end Sys2Proof.Machine
end

