-- ==== Sys2Proof/Machine/RunInkwell.lean ====
section
/-!
DEFINITION. The meanings of the commands of the Inkwell: one definition for each.
-/

namespace Sys2Proof.Machine

/-- SCRUB_STEP (R310): The scrubber reads and corrects the next line. -/
def execScrubStep (singles doubles : List Nat) (s : State) : Host.Outcome State Fault Refusal :=
  .next (s.onG (fun g => g.scrubStep singles doubles))

/-- SPARE_REQ (R311): INK_SPARE.REQ starts sparing of RBANK. -/
def execSpareReq (rbank : Fin 64) (s : State) : Host.Outcome State Fault Refusal :=
  .next (s.onG (fun g => g.spareReq rbank))

/-- SPARE_COPY_COMPLETE (R311): The spare's copy completes and it takes the bank's number at the next frame. -/
def execSpareCopyComplete (s : State) : Host.Outcome State Fault Refusal :=
  .next (s.onG (fun g => g.spareComplete))

/-- LAYOUT_LOCK (R318): INK_CTRL.LOCK validates and locks the partition layout. -/
def execLayoutLock (s : State) : Host.Outcome State Fault Refusal :=
  .next (s.onG (fun g => g.layoutLock))

/-- RESIZE_QUEUE (R319): A write of INK_RESIZE queues a partition resize in the shadow record. -/
def execResizeQueue (part : Fin 16) (size : BitVec 11) (s : State) : Host.Outcome State Fault Refusal :=
  .next (s.onG (fun g => g.stagedWrite .ink R.INK_RESIZE.addr (part + size.toNat * 2 ^ 16)))

/-- RINV (R324): A write of INK_RINV empties region caches. -/
def execRinv (all : Bool) (rgn : BitVec 20) (s : State) : Host.Outcome State Fault Refusal :=
  .next (s.onG (fun g => g.rinv all rgn.toNat))

end Sys2Proof.Machine
end

