-- ==== Sys2Proof/Machine/RunInputs.lean ====
section
/-!
DEFINITION. The meanings of the commands of measured values and their agreement: one definition for each.
-/

namespace Sys2Proof.Machine

/-- SV_FRAME (R76): An SV frame is received, timestamped and matched against the subscription table. -/
def execSvFrame (port : Fin 4) (f : SvFrame) (s : State) : Host.Outcome State Fault Refusal :=
  .next (s.onG (fun g => g.svFrame port f))

/-- GOOSE_FRAME (R82): A GOOSE message is received, matched and ordered by stNum and sqNum. -/
def execGooseFrame (port : Fin 4) (m : GooseMsg) (s : State) : Host.Outcome State Fault Refusal :=
  .next (s.onG (fun g => g.gooseFrame port m))

/-- PB_OTHER_FRAME (R75): A process-bus frame of another EtherType or bad FCS is discarded and counted. -/
def execPbOtherFrame (port : Fin 4) (kind srcMac : Nat) (tag : Option Nat) (own fcsBad : Bool) (s : State) : Host.Outcome State Fault Refusal :=
  .next (s.onG (fun g => g.pbOther port kind srcMac tag own fcsBad))

/-- SUPERVISION_FRAME_SEND (R73): The PRP or HSR supervision interval expires and a supervision frame is sent. -/
def execSupervisionFrameSend (pair : Fin 2) (s : State) : Host.Outcome State Fault Refusal :=
  .next (s.onG (fun g => g.supervision pair))

/-- DUPLICATE_FORGET (R74): A duplicate-table entry reaches its forget time and is forgotten. -/
def execDuplicateForget (pair : Fin 2) (s : State) : Host.Outcome State Fault Refusal :=
  .next (s.onG (fun g => g.duplicateForget pair))

/-- PORT_LINK_DOWN (R72): A process-bus port loses its link. -/
def execPortLinkDown (port : Fin 4) (s : State) : Host.Outcome State Fault Refusal :=
  .next (s.onG (fun g => g.portLinkDown port))

/-- XFEED (R90): An XFEED frame from the partner is staged as one of the twin's own items. -/
def execXfeed (item : Feed) (sim : Bool) (rx : Int) (arrival : Nat) (s : State) : Host.Outcome State Fault Refusal :=
  .next (s.onG (fun g => g.linked 64 (·.xfeed item sim rx arrival)))

/-- REPORT_FRAME (R87): A REPORT ink frame from a hub is received and its sections staged. -/
def execReportFrame (lane : Fin 64) (k : Nat) (twin : Fin 2) (claim : Fin 65536) (keyOk remOk : Bool) (overrun : Fin 3) (keys rems : List Nat) (s : State) : Host.Outcome State Fault Refusal :=
  .next (s.onG (fun g => g.linked lane (·.reportFrame lane k twin claim keyOk remOk overrun keys rems)))

/-- KEYSUM_SEND (R92): With key sections staged the twin sends its key summary. -/
def execKeysumSend (k : Nat) (s : State) : Host.Outcome State Fault Refusal :=
  .next (s.onG (fun g => g.keysumSend k))

/-- KEYSUM (R92): The partner's key summary arrives. -/
def execKeysum (k : Nat) (b : KeySummary) (s : State) : Host.Outcome State Fault Refusal :=
  .next (s.onG (fun g => g.linked 64 (·.keysum k b)))

/-- KEY_AGREEMENT (R93): At the key agreement instant key sections and encoder values are agreed. -/
def execKeyAgreement (k : Nat) (ce : Nat) (ue : List Nat) (s : State) : Host.Outcome State Fault Refusal :=
  .next (s.onG (fun g => g.keyAgreementStep k ce ue))

/-- SV_CUTOFF (R91): The SV and GOOSE eligibility cutoff of stroke k is reached. -/
def execSvCutoff (k : Nat) (s : State) : Host.Outcome State Fault Refusal :=
  .next (s.onG (fun g => g.svCutoff k))

/-- SV_FREEZE (R91): SV and GOOSE holdings freeze and the SV summary is sent. -/
def execSvFreeze (k : Nat) (s : State) : Host.Outcome State Fault Refusal :=
  .next (s.onG (fun g => g.svFreeze k))

/-- SVSUM (R92): The partner's SV summary arrives. -/
def execSvsum (k : Nat) (b : SvSummary) (s : State) : Host.Outcome State Fault Refusal :=
  .next (s.onG (fun g => g.linked 64 (·.svsum k b)))

/-- INSUM_SEND (R92): With all reports staged the twin sends its input summary and CRC summary. -/
def execInsumSend (k : Nat) (s : State) : Host.Outcome State Fault Refusal :=
  .next (s.onG (fun g => g.insumSend k))

/-- INSUM (R92): The partner's input summary arrives. -/
def execInsum (k : Nat) (b : InSummary) (s : State) : Host.Outcome State Fault Refusal :=
  .next (s.onG (fun g => g.linked 64 (·.insum k b)))

/-- CRCSUM (R93): The partner's CRC summary arrives and section CRCs are compared. -/
def execCrcsum (k : Nat) (crcs : List (Nat × Nat)) (s : State) : Host.Outcome State Fault Refusal :=
  .next (s.onG (fun g => g.linked 64 (·.crcsum k crcs)))

/-- INPUT_AGREEMENT (R93): At the agreement instant the input set of stroke k is agreed and the loop window opens. -/
def execInputAgreement (k : Nat) (ce : Nat) (ue : List Nat) (flrCe : Nat) (pts : List (Nat × Nat)) (s : State) : Host.Outcome State Fault Refusal :=
  .next (s.onG (fun g => g.inputAgreementStep k ce ue flrCe pts))

/-- GOOSE_STALE (R83): A subscription's timeAllowedToLive expires and it becomes stale. -/
def execGooseStale (n : Fin 128) (s : State) : Host.Outcome State Fault Refusal :=
  .next (s.onG (fun g => g.gooseStale n))

/-- GOOSE_TRIG (R84): A write of SVI_GPn_TRIG stages a new publication state. -/
def execGooseTrig (n : Fin 32) (s : State) : Host.Outcome State Fault Refusal :=
  .next (s.onG (fun g => g.gooseTrig n))

/-- GOOSE_REPEAT (R84): A publication's repeat interval expires and the next frame is sent. -/
def execGooseRepeat (n : Fin 32) (s : State) : Host.Outcome State Fault Refusal :=
  .next (s.onG (fun g => g.pubRepeat n))

/-- PORT_LINK_UP (R72): A process-bus port gains its link at the speed its partner offers, updating SPEED and the
pair-speed check. -/
def execPortLinkUp (port : Fin 4) (speed : Fin 3) (s : State) : Host.Outcome State Fault Refusal :=
  .next (s.onG (fun g => g.portLinkUp port speed))

end Sys2Proof.Machine
end

