-- ==== Sys2Proof/Machine/RunLanes.lean ====
section
/-!
DEFINITION. The meanings of the commands of the serial lanes: one definition for each.
-/

namespace Sys2Proof.Machine

/-- TX_SETTLE_DONE (R403): A lane transmitter's synthesiser settles and it enters TRAIN. -/
def execTxSettleDone (e : LaneEnd) (s : State) : Host.Outcome State Fault Refusal :=
  .next (s.txSettleDone e)

/-- TRAIN_END (R403): After 4,096 codewords the transmitter enters DATA. -/
def execTrainEnd (e : LaneEnd) (s : State) : Host.Outcome State Fault Refusal :=
  .next (s.trainEnd e)

/-- SIGNAL_DETECT (R404): The input exceeds signal-detect for 1 µs and clock recovery starts. -/
def execSignalDetect (e : LaneEnd) (s : State) : Host.Outcome State Fault Refusal :=
  .next (s.signalDetect e)

/-- CDR_LOCK (R404): Clock recovery locks and pilot search starts. -/
def execCdrLock (e : LaneEnd) (s : State) : Host.Outcome State Fault Refusal :=
  .next (s.cdrLock e)

/-- PILOT_LOCK (R404): 80 matching pilots give codeword lock. -/
def execPilotLock (e : LaneEnd) (seen : List (Fin 4)) (s : State) : Host.Outcome State Fault Refusal :=
  .next (s.pilotLock e (seen.map (·.val)))

/-- LANE_UP (R404): 32 clean codewords with sufficient FOM make the receiver UP. -/
def execLaneUp (e : LaneEnd) (devid step : Nat) (s : State) : Host.Outcome State Fault Refusal :=
  .next (s.laneUp e devid step)

/-- CODEWORD (R400): A codeword is decoded; sections verify raw or after correction. -/
def execCodeword (e : LaneEnd) (line : List (Fin 4)) (tags : List (Bool × Bool)) (s : State) : Host.Outcome State Fault Refusal :=
  .next (s.codeword e (line.map (·.val)) tags)

/-- LOSS_OF_SIGNAL (R410): An UP receiver loses signal and enters HOLD. -/
def execLossOfSignal (e : LaneEnd) (s : State) : Host.Outcome State Fault Refusal :=
  .next (s.lossOfSignal e)

/-- SIGNAL_RETURN (R410): The signal returns within 10 µs and the receiver is UP again. -/
def execSignalReturn (e : LaneEnd) (s : State) : Host.Outcome State Fault Refusal :=
  .next (s.signalReturn e)

/-- HOLD_TIMEOUT (R410): 10 µs in HOLD pass and the receiver returns to NOSIG. -/
def execHoldTimeout (e : LaneEnd) (s : State) : Host.Outcome State Fault Refusal :=
  .next (s.holdTimeout e)

/-- FOM_REFRESH (R405): Every 81.9 µs the figure of merit is recomputed. -/
def execFomRefresh (e : LaneEnd) (mu : List Int) (sd : List Nat) (s : State) : Host.Outcome State Fault Refusal :=
  .next (s.fomRefresh e mu sd)

/-- CAL_REQUEST (R408): LAN_CALREQ.GO requests a calibration window. -/
def execCalRequest (n : Fin 68) (s : State) : Host.Outcome State Fault Refusal :=
  .next (s.onG (fun g => g.calRequest n))

/-- CAL_WINDOW_START (R408): A permitted window opens between frames and the transmitter idles. -/
def execCalWindowStart (e : LaneEnd) (s : State) : Host.Outcome State Fault Refusal :=
  .next (s.calWindowStart e)

/-- CAL_WINDOW_END (R408): The 1.6 µs window ends and DATA resumes. -/
def execCalWindowEnd (e : LaneEnd) (s : State) : Host.Outcome State Fault Refusal :=
  .next (s.calWindowEnd e)

/-- HUB_CAL_POLL (R409): Once per ms the Gloesk reads every hub's HUB_CAL needs. -/
def execHubCalPoll (lane : Fin 64) (gneed : Fin 65536) (uneed : Fin 4) (s : State) : Host.Outcome State Fault Refusal :=
  .next (s.onG (fun g => g.hubCalPoll lane gneed uneed))

/-- HUB_CAL_GRANT (R409): A write of HUB_CAL.GNT grants a hub window. -/
def execHubCalGrant (port : Fin 32) (s : State) : Host.Outcome State Fault Refusal :=
  .next (s.onH (fun h => h.calGrant port))

/-- UCW_SECOND (R416): Each second of Baseline time the uncorrectable count is compared with the lane limit. -/
def execUcwSecond (n : Fin 68) (s : State) : Host.Outcome State Fault Refusal :=
  .next (s.onG (fun g => g.ucwSecond n))

/-- CELL_LINK_UP (R411): A cell-link receiver becomes UP after alignment and clean characters. -/
def execCellLinkUp (e : LaneEnd) (fom : Fin 64) (s : State) : Host.Outcome State Fault Refusal :=
  .next (s.cellLinkUp e fom)

/-- CELL_LINK_DOWN (R411): A cell-link receiver goes down on loss of signal, violations or silence. -/
def execCellLinkDown (e : LaneEnd) (viol disp disc : Nat) (silent : Bool) (s : State) : Host.Outcome State Fault Refusal :=
  .next (s.cellLinkDown e viol disp disc silent)

/-- IHLOON_TX_WINDOW (R413): A temperature move opens a 600 ns Ihloon transmit window after its report. -/
def execIhloonTxWindow (s : State) : Host.Outcome State Fault Refusal :=
  .next (s.onC (fun _ c => c.txWindow))

/-- IHLOON_TX_WINDOW_END (R413): The Ihloon transmit window ends and waiting messages start. -/
def execIhloonTxWindowEnd (s : State) : Host.Outcome State Fault Refusal :=
  .next (s.onC (fun _ c => c.txWindowEnd))

/-- SYNTHESISER_DRIFT (R408): A transmitter synthesiser's control voltage leaves its locking range, so DRIFT or the
hub's HUB_CAL need is set and a calibration window becomes due. -/
def execSynthesiserDrift (e : LaneEnd) (s : State) : Host.Outcome State Fault Refusal :=
  .next (s.synthesiserDrift e)

end Sys2Proof.Machine
end

