-- ==== Sys2Proof/Machine/RunLoop.lean ====
section
/-!
DEFINITION. The meanings of the commands of the loop engine, Flourish and taps: one definition for each.
-/

namespace Sys2Proof.Machine

/-- LOOP_TIER_BARRIER (R99): A tier's word clocks expire and its barrier begins. -/
def execLoopTierBarrier (s : State) : Host.Outcome State Fault Refusal :=
  .next (s.onG (fun g => g.tierBarrier))

/-- LOOP_WRITEBACK (R99): At clock 120 the last tier resolves and outputs are delivered to their destinations. -/
def execLoopWriteback (k : Nat) (s : State) : Host.Outcome State Fault Refusal :=
  .next (s.onG (fun g => g.writebackStep k))

/-- LOOP_NOP (R103): Loop word NOP does nothing. -/
def execLoopNop (lane : Fin 8) (s : State) : Host.Outcome State Fault Refusal :=
  .next (s.onG (fun g => g.laneNext lane (· == 0x00)))

/-- LOOP_MOV (R103): Loop word MOV saturates A into D. -/
def execLoopMov (lane : Fin 8) (s : State) : Host.Outcome State Fault Refusal :=
  .next (s.onG (fun g => g.laneNext lane (· == 0x01)))

/-- LOOP_ADD (R103): Loop word ADD writes sat(A + B). -/
def execLoopAdd (lane : Fin 8) (s : State) : Host.Outcome State Fault Refusal :=
  .next (s.onG (fun g => g.laneNext lane (· == 0x02)))

/-- LOOP_SUB (R103): Loop word SUB writes sat(A − B). -/
def execLoopSub (lane : Fin 8) (s : State) : Host.Outcome State Fault Refusal :=
  .next (s.onG (fun g => g.laneNext lane (· == 0x03)))

/-- LOOP_MULC (R103): Loop word MULC multiplies A by a coefficient and shifts. -/
def execLoopMulc (lane : Fin 8) (s : State) : Host.Outcome State Fault Refusal :=
  .next (s.onG (fun g => g.laneNext lane (· == 0x04)))

/-- LOOP_MULV (R103): Loop word MULV multiplies A by B[31:14] and shifts. -/
def execLoopMulv (lane : Fin 8) (s : State) : Host.Outcome State Fault Refusal :=
  .next (s.onG (fun g => g.laneNext lane (· == 0x05)))

/-- LOOP_MAC0 (R103): Loop word MAC0 starts the accumulator with A × c. -/
def execLoopMac0 (lane : Fin 8) (s : State) : Host.Outcome State Fault Refusal :=
  .next (s.onG (fun g => g.laneNext lane (· == 0x06)))

/-- LOOP_MAC (R103): Loop word MAC adds A × c to the accumulator. -/
def execLoopMac (lane : Fin 8) (s : State) : Host.Outcome State Fault Refusal :=
  .next (s.onG (fun g => g.laneNext lane (· == 0x07)))

/-- LOOP_INT (R115): Loop word INT integrates A × c into D unless held. -/
def execLoopInt (lane : Fin 8) (s : State) : Host.Outcome State Fault Refusal :=
  .next (s.onG (fun g => g.laneNext lane (· == 0x08)))

/-- LOOP_MAX (R103): Loop word MAX writes the larger of A and B. -/
def execLoopMax (lane : Fin 8) (s : State) : Host.Outcome State Fault Refusal :=
  .next (s.onG (fun g => g.laneNext lane (· == 0x09)))

/-- LOOP_MIN (R103): Loop word MIN writes the smaller of A and B. -/
def execLoopMin (lane : Fin 8) (s : State) : Host.Outcome State Fault Refusal :=
  .next (s.onG (fun g => g.laneNext lane (· == 0x0A)))

/-- LOOP_LIM (R103): Loop word LIM clamps A between two coefficients. -/
def execLoopLim (lane : Fin 8) (s : State) : Host.Outcome State Fault Refusal :=
  .next (s.onG (fun g => g.laneNext lane (· == 0x0B)))

/-- LOOP_ABS (R103): Loop word ABS writes the saturated magnitude of A. -/
def execLoopAbs (lane : Fin 8) (s : State) : Host.Outcome State Fault Refusal :=
  .next (s.onG (fun g => g.laneNext lane (· == 0x0C)))

/-- LOOP_NEG (R103): Loop word NEG writes sat(−A). -/
def execLoopNeg (lane : Fin 8) (s : State) : Host.Outcome State Fault Refusal :=
  .next (s.onG (fun g => g.laneNext lane (· == 0x0D)))

/-- LOOP_ASH (R103): Loop word ASH shifts A by a signed count. -/
def execLoopAsh (lane : Fin 8) (s : State) : Host.Outcome State Fault Refusal :=
  .next (s.onG (fun g => g.laneNext lane (· == 0x0E)))

/-- LOOP_TRIG (R103): Loop word TRIG writes sine or cosine of angle A. -/
def execLoopTrig (lane : Fin 8) (s : State) : Host.Outcome State Fault Refusal :=
  .next (s.onG (fun g => g.laneNext lane (· == 0x0F)))

/-- LOOP_LDC (R103): Loop word LDC loads a shifted coefficient. -/
def execLoopLdc (lane : Fin 8) (s : State) : Host.Outcome State Fault Refusal :=
  .next (s.onG (fun g => g.laneNext lane (· == 0x10)))

/-- LOOP_SKP (R108): Loop word SKP turns the next words into NOPs when its condition holds. -/
def execLoopSkp (lane : Fin 8) (s : State) : Host.Outcome State Fault Refusal :=
  .next (s.onG (fun g => g.laneNext lane (· == 0x11)))

/-- LOOP_OUT (R114): Loop word OUT clamps A to YMIN–YMAX as the slot's output and records the clamp. -/
def execLoopOut (lane : Fin 8) (s : State) : Host.Outcome State Fault Refusal :=
  .next (s.onG (fun g => g.laneNext lane (· == 0x12)))

/-- LOOP_WR (R103): Loop word WR writes A to a LPE_QRES register. -/
def execLoopWr (lane : Fin 8) (s : State) : Host.Outcome State Fault Refusal :=
  .next (s.onG (fun g => g.laneNext lane (· == 0x13)))

/-- FRD (R129): Flourish word FRD reads a table point ahead by LEAD. -/
def execFrd (lane : Fin 8) (s : State) : Host.Outcome State Fault Refusal :=
  .next (s.onG (fun g => g.laneNext lane (· == 0x30)))

/-- FRDI (R129): Flourish word FRDI reads an interpolated table value. -/
def execFrdi (lane : Fin 8) (s : State) : Host.Outcome State Fault Refusal :=
  .next (s.onG (fun g => g.laneNext lane (· == 0x31)))

/-- FST (R130): Flourish word FST reads a table's status word. -/
def execFst (lane : Fin 8) (s : State) : Host.Outcome State Fault Refusal :=
  .next (s.onG (fun g => g.laneNext lane (· == 0x32)))

/-- TRC (R137): Word TRC makes its tap capture operand A. -/
def execTrc (lane : Fin 8) (s : State) : Host.Outcome State Fault Refusal :=
  .next (s.onG (fun g => g.laneNext lane (· == 0x38)))

/-- LOOP_OPEN (R120): LPE_OPCMD with ACT 1 queues an open command in the shadow record. -/
def execLoopOpen (slot : Fin 64) (s : State) : Host.Outcome State Fault Refusal :=
  .next (s.onG (fun g => g.stagedWrite .lpe R.LPE_OPCMD.addr (256 + slot)))

/-- LOOP_CLOSE (R120): LPE_OPCMD with ACT 2 queues a close command in the shadow record. -/
def execLoopClose (slot : Fin 64) (s : State) : Host.Outcome State Fault Refusal :=
  .next (s.onG (fun g => g.stagedWrite .lpe R.LPE_OPCMD.addr (512 + slot)))

/-- COEF_WRITE (R121): A write of LPE_CWVAL queues a coefficient write, applied only to open or idle non-FIXED slots. -/
def execCoefWrite (v : BitVec 18) (s : State) : Host.Outcome State Fault Refusal :=
  .next (s.onG (fun g => g.stagedWrite .lpe R.LPE_CWVAL.addr (g.rd F.LPE_CWIDX_IDX * 2 ^ 18 + v.toNat)))

/-- PARAM_WRITE (R120): A write of LPE_PARAMp joins the shadow record. -/
def execParamWrite (p : Fin 64) (v : Word) (s : State) : Host.Outcome State Fault Refusal :=
  .next (s.onG (fun g => g.stagedWrite .lpe (R.LPE_PARAM.at p) v.toNat))

/-- LPE_XDATA_WRITE (R124): A write of LPE_XDATA0 stores an idle-bank word, coefficient or initial local while stopped
and advances INDEX. -/
def execLpeXdataWrite (v : Word) (s : State) : Host.Outcome State Fault Refusal :=
  .next (s.onG (fun g => g.lpeXdataWrite v.toNat))

/-- LPE_XDATA0_READ (R124): A read of LPE_XDATA0 latches LPE_XDATA1 and advances INDEX. -/
def execLpeXdata0Read (who : Fin 17) (s : State) : Host.Outcome State Fault Refusal :=
  .next (s.onG (fun g => g.lpeXdataRead who))

/-- FLOURISH_CLR (R135): FLR_Tf_CFG.CLR stages a clear of a table's written map and sum. -/
def execFlourishClr (t : Fin 64) (s : State) : Host.Outcome State Fault Refusal :=
  .next (s.onG (fun g => g.stagedWrite .lpe (R.FLR_T_CFG.at t) (2 ^ 10 + g.reg R.FLR_T_CFG t)))

/-- TAP_START (R139): FLR_TAPt_CTRL.START resets WPTR and WRAPS and runs the tap from the next window. -/
def execTapStart (t : Fin 64) (s : State) : Host.Outcome State Fault Refusal :=
  .next (s.onG (fun g => g.tapStart t))

/-- TAP_TRIG (R139): FLR_TAPt_CTRL.TRIG triggers a tap in MODE 2. -/
def execTapTrig (t : Fin 64) (s : State) : Host.Outcome State Fault Refusal :=
  .next (s.onG (fun g => g.tapTrigger t))

/-- TAP_ENABLE (R140): A write of FLR_TAPt_CFG.EN starts or stops a tap, setting BADCFG on a bad configuration. -/
def execTapEnable (t : Fin 64) (v : Word) (s : State) : Host.Outcome State Fault Refusal :=
  .next (s.onG (fun g => g.tapCfgWrite t v.toNat))

/-- TRACE_ENTRY_DEADLINE (R139): A trace entry not written by its deadline, or shed, is dropped and counted in LOST. -/
def execTraceEntryDeadline (t : Fin 64) (s : State) : Host.Outcome State Fault Refusal :=
  .next (s.onG (fun g => g.tapDrop t))

end Sys2Proof.Machine
end

