-- ==== Sys2Proof/Machine/RunMgmt.lean ====
section
/-!
DEFINITION. The meanings of the commands of the management channel and the stroke cycle: one definition for each.
-/

namespace Sys2Proof.Machine

/-- MGMT_READ_REQUEST (R172): A management read request (OP 0x1) reaches its target and is answered. -/
def execMgmtReadRequest (p : Fin 2) (m : LinkMsg) (tid : Fin 256) (addr : BitVec 16) (cnt : Fin 16) (s : State) : Host.Outcome State Fault Refusal :=
  .next (s.onC (fun _ c => c.mgmtRead p m tid addr.toNat cnt))

/-- MGMT_WRITE_REQUEST (R172): A management write request (OP 0x2) writes the target and is acknowledged. -/
def execMgmtWriteRequest (p : Fin 2) (m : LinkMsg) (tick : Fin 16777216) (tid : Fin 256) (addr : BitVec 16) (ws : List Word) (obj : Option (Envelope × Delivery)) (s : State) : Host.Outcome State Fault Refusal :=
  .next (s.mgmtWrite p m tick tid addr.toNat (natsOf ws) obj)

/-- MGMT_READ_RESPONSE (R172): A read response (OP 0x3) arrives at the requester. -/
def execMgmtReadResponse (engine : Option (Fin 8192)) (port : Fin 192) (tid : Fin 256) (m : LinkMsg) (ws : List Word) (s : State) : Host.Outcome State Fault Refusal :=
  .next (match engine with | some x => s.onG (·.loadNext x (nth 0 (natsOf ws) 0)) | none => s.onH (·.hears port m (·.readResponse port tid (natsOf ws))))

/-- MGMT_WRITE_ACK (R172): A write acknowledgement (OP 0x4) arrives at the requester. -/
def execMgmtWriteAck (port : Fin 192) (tid : Fin 256) (m : LinkMsg) (s : State) : Host.Outcome State Fault Refusal :=
  .next (s.onH (fun h => h.hears port m (·.writeAck port tid)))

/-- MGMT_ERROR (R189): An error message (OP 0x5) with a code arrives at the requester. -/
def execMgmtError (engine : Option (Fin 8192)) (port : Fin 192) (tid : Fin 256) (m : LinkMsg) (code : Fin 256) (block : Option (Fin 65536)) (s : State) : Host.Outcome State Fault Refusal :=
  .next (match engine with | some x => s.onG (·.loadError x) | none => s.onH (·.hears port m (·.mgmtError port tid code (block.map (·.val)))))

/-- IMAGE_BLOCK (R255): An image block message (OP 0x6) is programmed, acknowledged or refused by the cell. -/
def execImageBlock (p : Fin 2) (m : LinkMsg) (tid : Fin 256) (idx : BitVec 16) (cnt : Fin 16) (data : BitVec 256) (s : State) : Host.Outcome State Fault Refusal :=
  .next (s.onC (fun _ c => c.imageMessage p m tid idx.toNat cnt data.toNat))

/-- HUB_MGMT_REQUEST (R188): A MGMT frame request reaches a hub, which executes it or relays it to a cell. -/
def execHubMgmtRequest (u : Fin 2) (op : Fin 16) (tid count : Fin 256) (target : Fin 2) (port : Fin 256) (addr : BitVec 24) (ws : List Word) (map : Bool) (s : State) : Host.Outcome State Fault Refusal :=
  .next (s.onH (fun h => h.mgmtRequest u op tid count target port addr.toNat (natsOf ws) map))

/-- CELL_MGMT_TIMEOUT (R189): A relayed cell request gets no response within 100 µs and is answered with code 3. -/
def execCellMgmtTimeout (port : Fin 192) (s : State) : Host.Outcome State Fault Refusal :=
  .next (s.onH (fun h => h.mgmtTimeout port))

/-- CLR_SAFE (R185): LNK_CMD.CLR_SAFE clears SAFE and the safe-action latches. -/
def execClrSafe (s : State) : Host.Outcome State Fault Refusal :=
  .next (s.onC (fun _ c => c.clrSafe))

/-- STK_START (R186): STK_CTRL.START stages a start of the stroke cycle at s0. -/
def execStkStart (s : State) : Host.Outcome State Fault Refusal :=
  .next (s.onG (fun g => g.stagedWrite .stk R.STK_CTRL.addr 1))

/-- STK_STOP (R186): STK_CTRL.STOP stages a stop of the stroke cycle at s1. -/
def execStkStop (s : State) : Host.Outcome State Fault Refusal :=
  .next (s.onG (fun g => g.stagedWrite .stk R.STK_CTRL.addr 2))

end Sys2Proof.Machine
end

