-- ==== Sys2Proof/Machine/RunNib.lean ====
section
/-!
DEFINITION. The meanings of the commands of the nib outputs and the island: one definition for each.
-/

namespace Sys2Proof.Machine

/-- NIB_DISABLE (R201): A write of NIB_CTRL.EN = 0 takes all nib outputs low and sets state B. -/
def execNibDisable (tick : Fin 16777216) (s : State) : Host.Outcome State Fault Refusal :=
  .next (s.onC (fun T c => c.nibDisable T tick))

/-- NIB_ENABLE (R202): A write of NIB_CTRL.EN = 1 enables the module at the next boundary or is refused. -/
def execNibEnable (s : State) : Host.Outcome State Fault Refusal :=
  .next (s.onC (fun _ c => c.nibEnable))

/-- NIB_EDGE (R196): A planned edge instant arrives and the outputs change with dead time. -/
def execNibEdge (s : State) : Host.Outcome State Fault Refusal :=
  .next (s.onC (fun T c => c.island (·.nibEdge T)))

/-- TRIP (R204): An unblanked active trip input acts as its ACT sets. -/
def execTrip (n : Fin 4) (tick : Fin 16777216) (s : State) : Host.Outcome State Fault Refusal :=
  .next (s.onC (fun T c => c.island (·.trip T n tick)))

/-- BLANKING_END (R205): A blanking timer expires and a still-active trip acts. -/
def execBlankingEnd (ch : Fin 4) (tick : Fin 16777216) (s : State) : Host.Outcome State Fault Refusal :=
  .next (s.onC (fun T c => c.island (·.blankingEnd T ch tick)))

/-- LATCH_CLEAR (R206): A W1C of a trip or overvoltage bit clears its latch if the cause is gone. -/
def execLatchClear (b : Fin 5) (s : State) : Host.Outcome State Fault Refusal :=
  .next (s.onC (fun _ c => c.latchClear b))

/-- ILOCK_CLEAR (R206): A W1C of PRT_STAT.ILOCK clears the interlock latch only while disabled. -/
def execIlockClear (s : State) : Host.Outcome State Fault Refusal :=
  .next (s.onC (fun _ c => c.ilockClear))

/-- OVERVOLTAGE (R207): OVP_IN crosses its threshold and blocks or fires the bypass. -/
def execOvervoltage (tick : Fin 16777216) (s : State) : Host.Outcome State Fault Refusal :=
  .next (s.onC (fun T c => c.island (·.overvoltage T tick)))

/-- OVP_RELEASE (R207): The comparator releases below threshold minus hysteresis. -/
def execOvpRelease (s : State) : Host.Outcome State Fault Refusal :=
  .next (s.onC (fun _ c => c.ovpRelease))

/-- LINK_SILENCE (R208): PRT_SIL.TO passes without an execution strobe and the island takes the safe action. -/
def execLinkSilence (tick : Fin 16777216) (s : State) : Host.Outcome State Fault Refusal :=
  .next (s.onC (fun T c => c.island (·.linkSilence T tick)))

/-- FREEZE (R210): A debug halt or main clock stop freezes the nib module. -/
def execFreeze (tick : Fin 16777216) (clockStop : Bool) (s : State) : Host.Outcome State Fault Refusal :=
  .next (s.onC (fun T c => c.freeze T tick clockStop))

/-- FREEZE_RESUME (R210): The nib module resumes at the next stroke boundary. -/
def execFreezeResume (s : State) : Host.Outcome State Fault Refusal :=
  .next (s.onC (fun _ c => c.freezeResume))

/-- INTERLOCK (R212): Both outputs of a pair would be high; both go low and a block latches. -/
def execInterlock (tick : Fin 16777216) (s : State) : Host.Outcome State Fault Refusal :=
  .next (s.onC (fun T c => c.island (·.interlock T tick)))

/-- BYPASS_PULSE_END (R213): In pulse mode BYP_N returns high after BYPW × 10 µs. -/
def execBypassPulseEnd (s : State) : Host.Outcome State Fault Refusal :=
  .next (s.onC (fun _ c => c.bypassPulseEnd))

/-- REARM (R213): PRT_BYP.REARM clears FIRED and KEPT unless a bypass cause persists. -/
def execRearm (s : State) : Host.Outcome State Fault Refusal :=
  .next (s.onC (fun _ c => c.rearm))

/-- SIGNED_SETTINGS_APPLY (R214): A signed cell setting takes effect at the first boundary with no dead time running. -/
def execSignedSettingsApply (s : State) : Host.Outcome State Fault Refusal :=
  .next (s.onC (fun T c => c.signedApply T))

/-- CORE_RESET (R214): A reset of the Quill-S core disables the nib module and keeps the island. -/
def execCoreReset (tick : Fin 16777216) (s : State) : Host.Outcome State Fault Refusal :=
  .next (s.onC (fun T c => c.coreReset T tick))

/-- TIMER_PULSE_END (R216): A timer channel in MODE 2 ends its AUX pulse. -/
def execTimerPulseEnd (ch : Fin 4) (s : State) : Host.Outcome State Fault Refusal :=
  .next (s.onC (fun _ c => c.timerPulseEnd ch))

/-- OSC_CHECK (R362): Every 100 µs the island oscillator is judged against the main clock. -/
def execOscCheck (good : Bool) (s : State) : Host.Outcome State Fault Refusal :=
  .next (s.onC (fun _ c => c.oscCheck good))

/-- TRIP_INPUT_RELEASE (R203): A trip input returns to its inactive level, so TRIP_LIVE clears and the trip's cause is
gone for latch clears and re-arms. -/
def execTripInputRelease (n : Fin 4) (s : State) : Host.Outcome State Fault Refusal :=
  .next (s.onC (fun _ c => c.tripRelease n))

end Sys2Proof.Machine
end

