-- ==== Sys2Proof/Machine/RunPower.lean ====
section
/-!
DEFINITION. The meanings of the commands of power, thermal behaviour and boot: one definition for each.
-/

namespace Sys2Proof.Machine

/-- PART_RESET (R465): Power-on, PORST_N, a rail fault or thermal trip resets the part. -/
def execPartReset (cause : Fin 3) (s : State) : Host.Outcome State Fault Refusal :=
  .next (s.onP (fun g => g.resetPart cause))

/-- REBOOT (R465): PWR_CTRL.REBOOT resets the part and boots it. -/
def execReboot (s : State) : Host.Outcome State Fault Refusal :=
  .next (s.onP (fun g => g.reboot))

/-- BOOT_RELEASE (R466): Supplies, REFCLK and PORST_N valid release the boot sequence. -/
def execBootRelease (s : State) : Host.Outcome State Fault Refusal :=
  .next (s.onP (fun g => g.bootRelease))

/-- IMAGE_VERIFIED (R466): The boot image's signatures verify and Quill 0 starts, or the other port is tried. -/
def execImageVerified (e : Envelope) (entry : BitVec 16) (sections : List ImageSection) (s : State) : Host.Outcome State Fault Refusal :=
  .next (s.onP (fun g => g.imageVerified e entry.toNat sections))

/-- RAIL_FAULT (R456): A rail stays outside limits for 10 µs. -/
def execRailFault (hub bad : Bool) (s : State) : Host.Outcome State Fault Refusal :=
  .next (if hub then s.onH (·.railFault bad) else s.onP (·.railFault bad))

/-- REFCLK_FAULT (R456): REFCLK is absent or off frequency for 10 µs and the part goes fail-silent. -/
def execRefclkFault (s : State) : Host.Outcome State Fault Refusal :=
  .next (s.onP (fun g => g.refclkFault))

/-- PLANNER_TICK (R459): Every 1 ms the planner forms P and F and judges the budget. -/
def execPlannerTick (power floor : Nat) (energy : List (Nat × Nat)) (s : State) : Host.Outcome State Fault Refusal :=
  .next (s.onP (fun g => g.plannerTick power floor energy))

/-- SHED_STEP (R460): A STEP interval passes and BSHED or TSHED moves one step. -/
def execShedStep (thermal : Bool) (s : State) : Host.Outcome State Fault Refusal :=
  .next (s.onP (fun g => g.shedStep thermal))

/-- THERMAL_SAMPLE (R462): Every 100 µs the hottest sensor is reported and SHED and CRIT judged. -/
def execThermalSample (hub : Bool) (tj : Int) (sensor : Fin 16) (s : State) : Host.Outcome State Fault Refusal :=
  .next (if hub then s.onH (·.thermalSample tj) else s.onP (·.thermalSample tj sensor))

/-- THERMAL_TRIP (R464): The thermal trip resets the part until Tj falls below 110 °C. -/
def execThermalTrip (s : State) : Host.Outcome State Fault Refusal :=
  .next (s.onP (fun g => g.thermalTrip))

/-- QGATE_WRITE (R461): A write of PWR_QGATE gates or admits Quill pairs within the budget. -/
def execQgateWrite (v : BitVec 16) (s : State) : Host.Outcome State Fault Refusal :=
  .next (s.onP (fun g => g.qgateWrite v.toNat))

/-- DXDATA_READ (R473): A read of PWR_DXDATA latches DXINFO and advances DXADDR. -/
def execDxdataRead (who : Fin 17) (s : State) : Host.Outcome State Fault Refusal :=
  .next (s.onP (fun g => g.dxdataRead who))

/-- FLASH_COMMAND (R468): PWR_QCTL.GO starts a QSPI flash command. -/
def execFlashCommand (port : Fin 2) (op : BitVec 8) (mode : Fin 4) (len : Fin 512) (s : State) : Host.Outcome State Fault Refusal :=
  .next (s.onP (fun g => g.flashCommand port op.toNat mode len))

/-- FLASH_COMMAND_DONE (R468): A QSPI flash command completes and BUSY clears. -/
def execFlashCommandDone (data : List Word) (s : State) : Host.Outcome State Fault Refusal :=
  .next (s.onP (fun g => g.flashDone data))

/-- HUB_RESET (R470): A Stanak reset brings up its uplinks, attests and waits for an image. -/
def execHubReset (s : State) : Host.Outcome State Fault Refusal :=
  .next (s.onH (fun h => h.hubReset))

/-- IMAGE_FRAME (R471): A hub receives an IMAGE frame and loads or relays its blocks. -/
def execImageFrame (u : Fin 2) (cell : Bool) (port : Fin 192) (ofs : Nat) (data : List Nat) (last : Bool) (s : State) : Host.Outcome State Fault Refusal :=
  .next (s.onH (fun h => h.linked u (·.imageFrame u cell port ofs data last)))

/-- HUB_IMAGE_VERIFY (R470): A hub's received image is verified; RUN on success, FAIL otherwise. -/
def execHubImageVerify (e : Envelope) (s : State) : Host.Outcome State Fault Refusal :=
  .next (s.onH (fun h => h.imageVerify e))

/-- HUB_FAIL_WAIT (R470): 100 ms after FAIL the hub returns to WAIT. -/
def execHubFailWait (s : State) : Host.Outcome State Fault Refusal :=
  .next (s.onH (fun h => h.failWait))

/-- CELL_LOAD_QUEUE (R471): A write of PWR_IMGCELL queues a cell image load. -/
def execCellLoadQueue (x : Fin 8192) (s : State) : Host.Outcome State Fault Refusal :=
  .next (s.onG (fun g => g.cellLoad x))

/-- HUB_RESTART (R472): HUB_RST.RESTART resets a hub, which boots again. -/
def execHubRestart (s : State) : Host.Outcome State Fault Refusal :=
  .next (s.onH (fun h => h.hubReset))

end Sys2Proof.Machine
end

