-- ==== Sys2Proof/Machine/RunQuill.lean ====
section
/-!
DEFINITION. The meanings of the commands of the Quill instruction set: one definition for each.
-/

namespace Sys2Proof.Machine

/-- ADD (R267): Quill instruction ADD. -/
def execQAdd (u : CoreId) (rd ra rb : Fin 32) (fe : Fin 3) (s : State) : Host.Outcome State Fault Refusal :=
  .next (s.quillCore u (Enc.r 0x00 rd ra rb 0x001) fe (fun k => (k.add rd ra rb).next))

/-- SUB (R267): Quill instruction SUB. -/
def execQSub (u : CoreId) (rd ra rb : Fin 32) (fe : Fin 3) (s : State) : Host.Outcome State Fault Refusal :=
  .next (s.quillCore u (Enc.r 0x00 rd ra rb 0x002) fe (fun k => (k.sub rd ra rb).next))

/-- ADDC (R267): Quill instruction ADDC. -/
def execQAddc (u : CoreId) (rd ra rb : Fin 32) (fe : Fin 3) (s : State) : Host.Outcome State Fault Refusal :=
  .next (s.quillCore u (Enc.r 0x00 rd ra rb 0x003) fe (fun k => (k.addc rd ra rb).next))

/-- SUBC (R267): Quill instruction SUBC. -/
def execQSubc (u : CoreId) (rd ra rb : Fin 32) (fe : Fin 3) (s : State) : Host.Outcome State Fault Refusal :=
  .next (s.quillCore u (Enc.r 0x00 rd ra rb 0x004) fe (fun k => (k.subc rd ra rb).next))

/-- AND (R267): Quill instruction AND. -/
def execQAnd (u : CoreId) (rd ra rb : Fin 32) (fe : Fin 3) (s : State) : Host.Outcome State Fault Refusal :=
  .next (s.quillCore u (Enc.r 0x00 rd ra rb 0x005) fe (fun k => (k.and rd ra rb).next))

/-- OR (R267): Quill instruction OR. -/
def execQOr (u : CoreId) (rd ra rb : Fin 32) (fe : Fin 3) (s : State) : Host.Outcome State Fault Refusal :=
  .next (s.quillCore u (Enc.r 0x00 rd ra rb 0x006) fe (fun k => (k.or rd ra rb).next))

/-- XOR (R267): Quill instruction XOR. -/
def execQXor (u : CoreId) (rd ra rb : Fin 32) (fe : Fin 3) (s : State) : Host.Outcome State Fault Refusal :=
  .next (s.quillCore u (Enc.r 0x00 rd ra rb 0x007) fe (fun k => (k.xor rd ra rb).next))

/-- SHL (R267): Quill instruction SHL. -/
def execQShl (u : CoreId) (rd ra rb : Fin 32) (fe : Fin 3) (s : State) : Host.Outcome State Fault Refusal :=
  .next (s.quillCore u (Enc.r 0x00 rd ra rb 0x008) fe (fun k => (k.shl rd ra rb).next))

/-- SHR (R267): Quill instruction SHR. -/
def execQShr (u : CoreId) (rd ra rb : Fin 32) (fe : Fin 3) (s : State) : Host.Outcome State Fault Refusal :=
  .next (s.quillCore u (Enc.r 0x00 rd ra rb 0x009) fe (fun k => (k.shr rd ra rb).next))

/-- SHA (R267): Quill instruction SHA. -/
def execQSha (u : CoreId) (rd ra rb : Fin 32) (fe : Fin 3) (s : State) : Host.Outcome State Fault Refusal :=
  .next (s.quillCore u (Enc.r 0x00 rd ra rb 0x00A) fe (fun k => (k.sha rd ra rb).next))

/-- SHLI (R267): Quill instruction SHLI. -/
def execQShli (u : CoreId) (rd ra sh : Fin 32) (fe : Fin 3) (s : State) : Host.Outcome State Fault Refusal :=
  .next (s.quillCore u (Enc.r 0x00 rd ra sh 0x00B) fe (fun k => (k.shlBy rd ra sh).next))

/-- SHRI (R267): Quill instruction SHRI. -/
def execQShri (u : CoreId) (rd ra sh : Fin 32) (fe : Fin 3) (s : State) : Host.Outcome State Fault Refusal :=
  .next (s.quillCore u (Enc.r 0x00 rd ra sh 0x00C) fe (fun k => (k.shrBy rd ra sh).next))

/-- SHAI (R267): Quill instruction SHAI. -/
def execQShai (u : CoreId) (rd ra sh : Fin 32) (fe : Fin 3) (s : State) : Host.Outcome State Fault Refusal :=
  .next (s.quillCore u (Enc.r 0x00 rd ra sh 0x00D) fe (fun k => (k.shaBy rd ra sh).next))

/-- SLT (R267): Quill instruction SLT. -/
def execQSlt (u : CoreId) (rd ra rb : Fin 32) (fe : Fin 3) (s : State) : Host.Outcome State Fault Refusal :=
  .next (s.quillCore u (Enc.r 0x00 rd ra rb 0x00E) fe (fun k => (k.slt rd ra rb).next))

/-- SLTU (R267): Quill instruction SLTU. -/
def execQSltu (u : CoreId) (rd ra rb : Fin 32) (fe : Fin 3) (s : State) : Host.Outcome State Fault Refusal :=
  .next (s.quillCore u (Enc.r 0x00 rd ra rb 0x00F) fe (fun k => (k.sltu rd ra rb).next))

/-- MIN (R267): Quill instruction MIN. -/
def execQMin (u : CoreId) (rd ra rb : Fin 32) (fe : Fin 3) (s : State) : Host.Outcome State Fault Refusal :=
  .next (s.quillCore u (Enc.r 0x00 rd ra rb 0x010) fe (fun k => (k.min rd ra rb).next))

/-- MAX (R267): Quill instruction MAX. -/
def execQMax (u : CoreId) (rd ra rb : Fin 32) (fe : Fin 3) (s : State) : Host.Outcome State Fault Refusal :=
  .next (s.quillCore u (Enc.r 0x00 rd ra rb 0x011) fe (fun k => (k.max rd ra rb).next))

/-- MUL (R267): Quill instruction MUL. -/
def execQMul (u : CoreId) (rd ra rb : Fin 32) (fe : Fin 3) (s : State) : Host.Outcome State Fault Refusal :=
  .next (s.quillCore u (Enc.r 0x00 rd ra rb 0x012) fe (fun k => (k.mul rd ra rb).next))

/-- MULH (R267): Quill instruction MULH. -/
def execQMulh (u : CoreId) (rd ra rb : Fin 32) (fe : Fin 3) (s : State) : Host.Outcome State Fault Refusal :=
  .next (s.quillCore u (Enc.r 0x00 rd ra rb 0x013) fe (fun k => (k.mulh rd ra rb).next))

/-- MULHU (R267): Quill instruction MULHU. -/
def execQMulhu (u : CoreId) (rd ra rb : Fin 32) (fe : Fin 3) (s : State) : Host.Outcome State Fault Refusal :=
  .next (s.quillCore u (Enc.r 0x00 rd ra rb 0x014) fe (fun k => (k.mulhu rd ra rb).next))

/-- DIV (R267): Quill instruction DIV. -/
def execQDiv (u : CoreId) (rd ra rb : Fin 32) (fe : Fin 3) (s : State) : Host.Outcome State Fault Refusal :=
  .next (s.quillCore u (Enc.r 0x00 rd ra rb 0x015) fe (fun k => (k.div rd ra rb).next))

/-- DIVU (R267): Quill instruction DIVU. -/
def execQDivu (u : CoreId) (rd ra rb : Fin 32) (fe : Fin 3) (s : State) : Host.Outcome State Fault Refusal :=
  .next (s.quillCore u (Enc.r 0x00 rd ra rb 0x016) fe (fun k => (k.divu rd ra rb).next))

/-- REM (R267): Quill instruction REM. -/
def execQRem (u : CoreId) (rd ra rb : Fin 32) (fe : Fin 3) (s : State) : Host.Outcome State Fault Refusal :=
  .next (s.quillCore u (Enc.r 0x00 rd ra rb 0x017) fe (fun k => (k.rem rd ra rb).next))

/-- REMU (R267): Quill instruction REMU. -/
def execQRemu (u : CoreId) (rd ra rb : Fin 32) (fe : Fin 3) (s : State) : Host.Outcome State Fault Refusal :=
  .next (s.quillCore u (Enc.r 0x00 rd ra rb 0x018) fe (fun k => (k.remu rd ra rb).next))

/-- ADDS (R267): Quill instruction ADDS. -/
def execQAdds (u : CoreId) (rd ra rb : Fin 32) (fe : Fin 3) (s : State) : Host.Outcome State Fault Refusal :=
  .next (s.quillCore u (Enc.r 0x00 rd ra rb 0x019) fe (fun k => (k.adds rd ra rb).next))

/-- SUBS (R267): Quill instruction SUBS. -/
def execQSubs (u : CoreId) (rd ra rb : Fin 32) (fe : Fin 3) (s : State) : Host.Outcome State Fault Refusal :=
  .next (s.quillCore u (Enc.r 0x00 rd ra rb 0x01A) fe (fun k => (k.subs rd ra rb).next))

/-- ABSS (R267): Quill instruction ABSS. -/
def execQAbss (u : CoreId) (rd ra : Fin 32) (fe : Fin 3) (s : State) : Host.Outcome State Fault Refusal :=
  .next (s.quillCore u (Enc.r 0x00 rd ra 0 0x01B) fe (fun k => (k.abss rd ra).next))

/-- NEGS (R267): Quill instruction NEGS. -/
def execQNegs (u : CoreId) (rd ra : Fin 32) (fe : Fin 3) (s : State) : Host.Outcome State Fault Refusal :=
  .next (s.quillCore u (Enc.r 0x00 rd ra 0 0x01C) fe (fun k => (k.negs rd ra).next))

/-- ADDS14 (R267): Quill instruction ADDS14. -/
def execQAdds14 (u : CoreId) (rd ra rb : Fin 32) (fe : Fin 3) (s : State) : Host.Outcome State Fault Refusal :=
  .next (s.quillCore u (Enc.r 0x00 rd ra rb 0x01D) fe (fun k => (k.adds14 rd ra rb).next))

/-- SUBS14 (R267): Quill instruction SUBS14. -/
def execQSubs14 (u : CoreId) (rd ra rb : Fin 32) (fe : Fin 3) (s : State) : Host.Outcome State Fault Refusal :=
  .next (s.quillCore u (Enc.r 0x00 rd ra rb 0x01E) fe (fun k => (k.subs14 rd ra rb).next))

/-- MULS14 (R267): Quill instruction MULS14. -/
def execQMuls14 (u : CoreId) (rd ra rb : Fin 32) (fe : Fin 3) (s : State) : Host.Outcome State Fault Refusal :=
  .next (s.quillCore u (Enc.r 0x00 rd ra rb 0x01F) fe (fun k => (k.muls14 rd ra rb).next))

/-- SAT14 (R267): Quill instruction SAT14. -/
def execQSat14 (u : CoreId) (rd ra : Fin 32) (fe : Fin 3) (s : State) : Host.Outcome State Fault Refusal :=
  .next (s.quillCore u (Enc.r 0x00 rd ra 0 0x020) fe (fun k => (k.sat14 rd ra).next))

/-- SATS (R267): Quill instruction SATS. -/
def execQSats (u : CoreId) (rd ra rb : Fin 32) (fe : Fin 3) (s : State) : Host.Outcome State Fault Refusal :=
  .next (s.quillCore u (Enc.r 0x00 rd ra rb 0x021) fe (fun k => (k.sats rd ra rb).next))

/-- CLZ (R267): Quill instruction CLZ. -/
def execQClz (u : CoreId) (rd ra : Fin 32) (fe : Fin 3) (s : State) : Host.Outcome State Fault Refusal :=
  .next (s.quillCore u (Enc.r 0x00 rd ra 0 0x022) fe (fun k => (k.clz rd ra).next))

/-- ADDI (R268): Quill instruction ADDI. -/
def execQAddi (u : CoreId) (rd ra : Fin 32) (imm : BitVec 16) (fe : Fin 3) (s : State) : Host.Outcome State Fault Refusal :=
  .next (s.quillCore u (Enc.i 0x01 rd ra imm.toNat) fe (fun k => (k.addi rd ra imm.toNat).next))

/-- ANDI (R268): Quill instruction ANDI. -/
def execQAndi (u : CoreId) (rd ra : Fin 32) (imm : BitVec 16) (fe : Fin 3) (s : State) : Host.Outcome State Fault Refusal :=
  .next (s.quillCore u (Enc.i 0x02 rd ra imm.toNat) fe (fun k => (k.andi rd ra imm.toNat).next))

/-- ORI (R268): Quill instruction ORI. -/
def execQOri (u : CoreId) (rd ra : Fin 32) (imm : BitVec 16) (fe : Fin 3) (s : State) : Host.Outcome State Fault Refusal :=
  .next (s.quillCore u (Enc.i 0x03 rd ra imm.toNat) fe (fun k => (k.ori rd ra imm.toNat).next))

/-- XORI (R268): Quill instruction XORI. -/
def execQXori (u : CoreId) (rd ra : Fin 32) (imm : BitVec 16) (fe : Fin 3) (s : State) : Host.Outcome State Fault Refusal :=
  .next (s.quillCore u (Enc.i 0x04 rd ra imm.toNat) fe (fun k => (k.xori rd ra imm.toNat).next))

/-- LUI (R268): Quill instruction LUI. -/
def execQLui (u : CoreId) (rd : Fin 32) (imm : BitVec 16) (fe : Fin 3) (s : State) : Host.Outcome State Fault Refusal :=
  .next (s.quillCore u (Enc.i 0x05 rd 0 imm.toNat) fe (fun k => (k.lui rd imm.toNat).next))

/-- SLTI (R268): Quill instruction SLTI. -/
def execQSlti (u : CoreId) (rd ra : Fin 32) (imm : BitVec 16) (fe : Fin 3) (s : State) : Host.Outcome State Fault Refusal :=
  .next (s.quillCore u (Enc.i 0x06 rd ra imm.toNat) fe (fun k => (k.slti rd ra imm.toNat).next))

/-- LDW (R270): Quill instruction LDW. -/
def execQLdw (u : CoreId) (rd ra : Fin 32) (imm : BitVec 16) (fe : Fin 3) (de : Fin 3) (s : State) : Host.Outcome State Fault Refusal :=
  .next (s.quillBoth u (Enc.i 0x08 rd ra imm.toNat) fe (fun g q => some (g.load q rd ra imm.toNat 4 false de)) (fun T c => c.load T rd ra imm.toNat 4 false de))

/-- LDH (R270): Quill instruction LDH. -/
def execQLdh (u : CoreId) (rd ra : Fin 32) (imm : BitVec 16) (fe : Fin 3) (de : Fin 3) (s : State) : Host.Outcome State Fault Refusal :=
  .next (s.quillBoth u (Enc.i 0x09 rd ra imm.toNat) fe (fun g q => some (g.load q rd ra imm.toNat 2 true de)) (fun T c => c.load T rd ra imm.toNat 2 true de))

/-- LDHU (R270): Quill instruction LDHU. -/
def execQLdhu (u : CoreId) (rd ra : Fin 32) (imm : BitVec 16) (fe : Fin 3) (de : Fin 3) (s : State) : Host.Outcome State Fault Refusal :=
  .next (s.quillBoth u (Enc.i 0x0A rd ra imm.toNat) fe (fun g q => some (g.load q rd ra imm.toNat 2 false de)) (fun T c => c.load T rd ra imm.toNat 2 false de))

/-- LDB (R270): Quill instruction LDB. -/
def execQLdb (u : CoreId) (rd ra : Fin 32) (imm : BitVec 16) (fe : Fin 3) (de : Fin 3) (s : State) : Host.Outcome State Fault Refusal :=
  .next (s.quillBoth u (Enc.i 0x0B rd ra imm.toNat) fe (fun g q => some (g.load q rd ra imm.toNat 1 true de)) (fun T c => c.load T rd ra imm.toNat 1 true de))

/-- LDBU (R270): Quill instruction LDBU. -/
def execQLdbu (u : CoreId) (rd ra : Fin 32) (imm : BitVec 16) (fe : Fin 3) (de : Fin 3) (s : State) : Host.Outcome State Fault Refusal :=
  .next (s.quillBoth u (Enc.i 0x0C rd ra imm.toNat) fe (fun g q => some (g.load q rd ra imm.toNat 1 false de)) (fun T c => c.load T rd ra imm.toNat 1 false de))

/-- STW (R270): Quill instruction STW. -/
def execQStw (u : CoreId) (rd ra : Fin 32) (imm : BitVec 16) (fe : Fin 3) (tick : Fin 16777216) (s : State) : Host.Outcome State Fault Refusal :=
  .next (s.quillBoth u (Enc.i 0x0D rd ra imm.toNat) fe (fun g q => some (g.storeReg q rd ra imm.toNat 4)) (fun T c => c.storeReg T tick rd ra imm.toNat 4))

/-- STH (R270): Quill instruction STH. -/
def execQSth (u : CoreId) (rd ra : Fin 32) (imm : BitVec 16) (fe : Fin 3) (tick : Fin 16777216) (s : State) : Host.Outcome State Fault Refusal :=
  .next (s.quillBoth u (Enc.i 0x0E rd ra imm.toNat) fe (fun g q => some (g.storeReg q rd ra imm.toNat 2)) (fun T c => c.storeReg T tick rd ra imm.toNat 2))

/-- STB (R270): Quill instruction STB. -/
def execQStb (u : CoreId) (rd ra : Fin 32) (imm : BitVec 16) (fe : Fin 3) (tick : Fin 16777216) (s : State) : Host.Outcome State Fault Refusal :=
  .next (s.quillBoth u (Enc.i 0x0F rd ra imm.toNat) fe (fun g q => some (g.storeReg q rd ra imm.toNat 1)) (fun T c => c.storeReg T tick rd ra imm.toNat 1))

/-- BEQ (R270): Quill instruction BEQ. -/
def execQBeq (u : CoreId) (ra rb : Fin 32) (ofs : BitVec 16) (fe : Fin 3) (s : State) : Host.Outcome State Fault Refusal :=
  .next (s.quillCore u (Enc.b 0x10 ra rb ofs.toNat) fe (fun k => k.beq ra rb ofs.toNat))

/-- BNE (R270): Quill instruction BNE. -/
def execQBne (u : CoreId) (ra rb : Fin 32) (ofs : BitVec 16) (fe : Fin 3) (s : State) : Host.Outcome State Fault Refusal :=
  .next (s.quillCore u (Enc.b 0x11 ra rb ofs.toNat) fe (fun k => k.bne ra rb ofs.toNat))

/-- BLT (R270): Quill instruction BLT. -/
def execQBlt (u : CoreId) (ra rb : Fin 32) (ofs : BitVec 16) (fe : Fin 3) (s : State) : Host.Outcome State Fault Refusal :=
  .next (s.quillCore u (Enc.b 0x12 ra rb ofs.toNat) fe (fun k => k.blt ra rb ofs.toNat))

/-- BGE (R270): Quill instruction BGE. -/
def execQBge (u : CoreId) (ra rb : Fin 32) (ofs : BitVec 16) (fe : Fin 3) (s : State) : Host.Outcome State Fault Refusal :=
  .next (s.quillCore u (Enc.b 0x13 ra rb ofs.toNat) fe (fun k => k.bge ra rb ofs.toNat))

/-- BLTU (R270): Quill instruction BLTU. -/
def execQBltu (u : CoreId) (ra rb : Fin 32) (ofs : BitVec 16) (fe : Fin 3) (s : State) : Host.Outcome State Fault Refusal :=
  .next (s.quillCore u (Enc.b 0x14 ra rb ofs.toNat) fe (fun k => k.bltu ra rb ofs.toNat))

/-- BGEU (R270): Quill instruction BGEU. -/
def execQBgeu (u : CoreId) (ra rb : Fin 32) (ofs : BitVec 16) (fe : Fin 3) (s : State) : Host.Outcome State Fault Refusal :=
  .next (s.quillCore u (Enc.b 0x15 ra rb ofs.toNat) fe (fun k => k.bgeu ra rb ofs.toNat))

/-- BFL (R270): Quill instruction BFL. -/
def execQBfl (u : CoreId) (cond : Fin 9) (ofs : BitVec 16) (fe : Fin 3) (s : State) : Host.Outcome State Fault Refusal :=
  .next (s.quillCore u (Enc.b 0x16 cond 0 ofs.toNat) fe (fun k => k.bfl cond ofs.toNat))

/-- JAL (R266): Quill instruction JAL. -/
def execQJal (u : CoreId) (rd : Fin 32) (ofs : BitVec 21) (fe : Fin 3) (s : State) : Host.Outcome State Fault Refusal :=
  .next (s.quillCore u (Enc.j 0x18 rd ofs.toNat) fe (fun k => k.jal rd ofs.toNat))

/-- JALR (R266): Quill instruction JALR. -/
def execQJalr (u : CoreId) (rd ra : Fin 32) (imm : BitVec 16) (fe : Fin 3) (s : State) : Host.Outcome State Fault Refusal :=
  .next (s.quillCore u (Enc.i 0x19 rd ra imm.toNat) fe (fun k => k.jalr rd ra imm.toNat))

/-- MACZ (R271): Quill accumulator instruction MACZ. -/
def execQMacz (u : CoreId) (acc : Fin 8) (ra rb : Fin 32) (fe : Fin 3) (s : State) : Host.Outcome State Fault Refusal :=
  .next (s.quillCore u (Enc.a 0x1C 0 ra rb acc 0x01) fe (fun k => (k.macz acc ra rb).next))

/-- MAC (R271): Quill accumulator instruction MAC. -/
def execQMac (u : CoreId) (acc : Fin 8) (ra rb : Fin 32) (fe : Fin 3) (s : State) : Host.Outcome State Fault Refusal :=
  .next (s.quillCore u (Enc.a 0x1C 0 ra rb acc 0x02) fe (fun k => (k.mac acc ra rb).next))

/-- MSU (R271): Quill accumulator instruction MSU. -/
def execQMsu (u : CoreId) (acc : Fin 8) (ra rb : Fin 32) (fe : Fin 3) (s : State) : Host.Outcome State Fault Refusal :=
  .next (s.quillCore u (Enc.a 0x1C 0 ra rb acc 0x03) fe (fun k => (k.msu acc ra rb).next))

/-- MACV (R271): Quill accumulator instruction MACV. -/
def execQMacv (u : CoreId) (acc : Fin 8) (ra rb : Fin 32) (fe : Fin 3) (s : State) : Host.Outcome State Fault Refusal :=
  .next (s.quillCore u (Enc.a 0x1C 0 ra rb acc 0x04) fe (fun k => (k.macv acc ra rb).next))

/-- ACCW (R271): Quill accumulator instruction ACCW. -/
def execQAccw (u : CoreId) (acc : Fin 8) (ra rb : Fin 32) (fe : Fin 3) (s : State) : Host.Outcome State Fault Refusal :=
  .next (s.quillCore u (Enc.a 0x1C 0 ra rb acc 0x05) fe (fun k => (k.accw acc ra rb).next))

/-- ACCADD (R271): Quill accumulator instruction ACCADD. -/
def execQAccadd (u : CoreId) (acc : Fin 8) (ra : Fin 32) (sh : Fin 17) (fe : Fin 3) (s : State) : Host.Outcome State Fault Refusal :=
  .next (s.quillCore u (Enc.a 0x1C 0 ra sh acc 0x06) fe (fun k => (k.accadd acc ra sh).next))

/-- ACCRR (R271): Quill accumulator instruction ACCRR. -/
def execQAccrr (u : CoreId) (rd : Fin 32) (acc : Fin 8) (sh : Fin 48) (fe : Fin 3) (s : State) : Host.Outcome State Fault Refusal :=
  .next (s.quillCore u (Enc.a 0x1C rd 0 sh acc 0x07) fe (fun k => (k.accrr rd acc sh).next))

/-- ACCRD (R271): Quill accumulator instruction ACCRD. -/
def execQAccrd (u : CoreId) (rd : Fin 32) (acc : Fin 8) (sh : Fin 48) (fe : Fin 3) (s : State) : Host.Outcome State Fault Refusal :=
  .next (s.quillCore u (Enc.a 0x1C rd 0 sh acc 0x08) fe (fun k => (k.accrd rd acc sh).next))

/-- ACCR14 (R271): Quill accumulator instruction ACCR14. -/
def execQAccr14 (u : CoreId) (rd : Fin 32) (acc : Fin 8) (sh : Fin 48) (fe : Fin 3) (s : State) : Host.Outcome State Fault Refusal :=
  .next (s.quillCore u (Enc.a 0x1C rd 0 sh acc 0x09) fe (fun k => (k.accr14 rd acc sh).next))

/-- ACCLO (R271): Quill accumulator instruction ACCLO. -/
def execQAcclo (u : CoreId) (rd : Fin 32) (acc : Fin 8) (fe : Fin 3) (s : State) : Host.Outcome State Fault Refusal :=
  .next (s.quillCore u (Enc.a 0x1C rd 0 0 acc 0x0A) fe (fun k => (k.acclo rd acc).next))

/-- ACCHI (R271): Quill accumulator instruction ACCHI. -/
def execQAcchi (u : CoreId) (rd : Fin 32) (acc : Fin 8) (fe : Fin 3) (s : State) : Host.Outcome State Fault Refusal :=
  .next (s.quillCore u (Enc.a 0x1C rd 0 0 acc 0x0B) fe (fun k => (k.acchi rd acc).next))

/-- VADD (R272): Quill vector instruction VADD. -/
def execQVadd (u : CoreId) (rd ra rb : Fin 32) (fe : Fin 3) (s : State) : Host.Outcome State Fault Refusal :=
  .next (s.quillCore u (Enc.r 0x1D rd ra rb 0x001) fe (fun k => (k.vadd rd ra rb).next))

/-- VSUB (R272): Quill vector instruction VSUB. -/
def execQVsub (u : CoreId) (rd ra rb : Fin 32) (fe : Fin 3) (s : State) : Host.Outcome State Fault Refusal :=
  .next (s.quillCore u (Enc.r 0x1D rd ra rb 0x002) fe (fun k => (k.vsub rd ra rb).next))

/-- VMUL (R272): Quill vector instruction VMUL. -/
def execQVmul (u : CoreId) (rd ra rb : Fin 32) (fe : Fin 3) (s : State) : Host.Outcome State Fault Refusal :=
  .next (s.quillCore u (Enc.r 0x1D rd ra rb 0x003) fe (fun k => (k.vmul rd ra rb).next))

/-- VMIN (R272): Quill vector instruction VMIN. -/
def execQVmin (u : CoreId) (rd ra rb : Fin 32) (fe : Fin 3) (s : State) : Host.Outcome State Fault Refusal :=
  .next (s.quillCore u (Enc.r 0x1D rd ra rb 0x004) fe (fun k => (k.vmin rd ra rb).next))

/-- VMAX (R272): Quill vector instruction VMAX. -/
def execQVmax (u : CoreId) (rd ra rb : Fin 32) (fe : Fin 3) (s : State) : Host.Outcome State Fault Refusal :=
  .next (s.quillCore u (Enc.r 0x1D rd ra rb 0x005) fe (fun k => (k.vmax rd ra rb).next))

/-- VABS (R272): Quill vector instruction VABS. -/
def execQVabs (u : CoreId) (rd ra : Fin 32) (fe : Fin 3) (s : State) : Host.Outcome State Fault Refusal :=
  .next (s.quillCore u (Enc.r 0x1D rd ra 0 0x006) fe (fun k => (k.vabs rd ra).next))

/-- VNEG (R272): Quill vector instruction VNEG. -/
def execQVneg (u : CoreId) (rd ra : Fin 32) (fe : Fin 3) (s : State) : Host.Outcome State Fault Refusal :=
  .next (s.quillCore u (Enc.r 0x1D rd ra 0 0x007) fe (fun k => (k.vneg rd ra).next))

/-- VPACK (R272): Quill vector instruction VPACK. -/
def execQVpack (u : CoreId) (rd ra rb : Fin 32) (fe : Fin 3) (s : State) : Host.Outcome State Fault Refusal :=
  .next (s.quillCore u (Enc.r 0x1D rd ra rb 0x008) fe (fun k => (k.vpack rd ra rb).next))

/-- VSUM (R272): Quill vector instruction VSUM. -/
def execQVsum (u : CoreId) (rd ra : Fin 32) (fe : Fin 3) (s : State) : Host.Outcome State Fault Refusal :=
  .next (s.quillCore u (Enc.r 0x1D rd ra 0 0x009) fe (fun k => (k.vsum rd ra).next))

/-- VDOT (R272): Quill vector instruction VDOT. -/
def execQVdot (u : CoreId) (rd ra rb : Fin 32) (fe : Fin 3) (s : State) : Host.Outcome State Fault Refusal :=
  .next (s.quillCore u (Enc.r 0x1D rd ra rb 0x00A) fe (fun k => (k.vdot rd ra rb).next))

/-- CSRR (R273): System instruction CSRR reads a CSR. -/
def execQCsrr (u : CoreId) (rd : Fin 32) (csr : BitVec 12) (fe : Fin 3) (s : State) : Host.Outcome State Fault Refusal :=
  .next (s.quillBoth u (Enc.s 0x1E rd 0 csr.toNat 0x0) fe (fun g q => some (g.csrRw q rd csr.toNat none)) (fun _ c => c.csrRw rd csr.toNat none))

/-- CSRW (R273): System instruction CSRW writes a CSR. -/
def execQCsrw (u : CoreId) (ra : Fin 32) (csr : BitVec 12) (fe : Fin 3) (s : State) : Host.Outcome State Fault Refusal :=
  .next (s.quillBoth u (Enc.s 0x1E 0 ra csr.toNat 0x1) fe (fun g q => some ((g.csrWrite q csr.toNat (g.qreg q ra)).qnext q)) (fun _ c => (c.csrWrite csr.toNat (c.cell.core.reg ra)).onCore (·.next)))

/-- CSRS (R273): System instruction CSRS sets CSR bits. -/
def execQCsrs (u : CoreId) (rd ra : Fin 32) (csr : BitVec 12) (fe : Fin 3) (s : State) : Host.Outcome State Fault Refusal :=
  .next (s.quillBoth u (Enc.s 0x1E rd ra csr.toNat 0x2) fe (fun g q => some (g.csrRw q rd csr.toNat (some (fun v => v ||| g.qreg q ra)))) (fun _ c => c.csrRw rd csr.toNat (some (fun v => v ||| c.cell.core.reg ra))))

/-- CSRC (R273): System instruction CSRC clears CSR bits. -/
def execQCsrc (u : CoreId) (rd ra : Fin 32) (csr : BitVec 12) (fe : Fin 3) (s : State) : Host.Outcome State Fault Refusal :=
  .next (s.quillBoth u (Enc.s 0x1E rd ra csr.toNat 0x3) fe (fun g q => some (g.csrRw q rd csr.toNat (some (fun v => clearBits v (g.qreg q ra))))) (fun _ c => c.csrRw rd csr.toNat (some (fun v => clearBits v (c.cell.core.reg ra)))))

/-- WAITS (R274): System instruction WAITS waits on a stroke. -/
def execQWaits (u : CoreId) (rd ra : Fin 32) (imm : BitVec 12) (fe : Fin 3) (ce : Fin 3) (s : State) : Host.Outcome State Fault Refusal :=
  .next (s.quillBoth u (Enc.s 0x1E rd ra imm.toNat 0x4) fe (fun g q => g.waits q rd ra imm.toNat ce) (fun _ c => c.waits rd ra imm.toNat))

/-- WAITA (R274): System instruction WAITA waits on angle ticks. -/
def execQWaita (u : CoreId) (rd ra : Fin 32) (imm : BitVec 12) (fe : Fin 3) (ce : Fin 3) (s : State) : Host.Outcome State Fault Refusal :=
  .next (s.quillBoth u (Enc.s 0x1E rd ra imm.toNat 0x5) fe (fun g q => g.waita q rd ra imm.toNat ce) (fun _ c => c))

/-- POST (R275): System instruction POST posts a task to Ductus. -/
def execQPost (u : CoreId) (rd ra : Fin 32) (fe : Fin 3) (s : State) : Host.Outcome State Fault Refusal :=
  .next (s.quillBoth u (Enc.s 0x1E rd ra 0 0x6) fe (fun g q => some (g.post q rd ra)) (fun _ c => c))

/-- LOCK (R275): System instruction LOCK takes a lock, blocking. -/
def execQLock (u : CoreId) (rd ra : Fin 32) (fe : Fin 3) (ce : Fin 3) (s : State) : Host.Outcome State Fault Refusal :=
  .next (s.quillBoth u (Enc.s 0x1E rd ra 0 0x7) fe (fun g q => g.lock q rd ra ce) (fun _ c => c))

/-- TRYLK (R275): System instruction TRYLK takes a lock if free. -/
def execQTrylk (u : CoreId) (rd ra : Fin 32) (fe : Fin 3) (s : State) : Host.Outcome State Fault Refusal :=
  .next (s.quillBoth u (Enc.s 0x1E rd ra 0 0x8) fe (fun g q => some (g.trylk q rd ra)) (fun _ c => c))

/-- UNLOCK (R275): System instruction UNLOCK releases a lock. -/
def execQUnlock (u : CoreId) (ra : Fin 32) (fe : Fin 3) (s : State) : Host.Outcome State Fault Refusal :=
  .next (s.quillBoth u (Enc.s 0x1E 0 ra 0 0x9) fe (fun g q => some (g.unlock q ra)) (fun _ c => c))

/-- YIELD (R273): System instruction YIELD ends the present run. -/
def execQYield (u : CoreId) (fe : Fin 3) (ce : Fin 3) (s : State) : Host.Outcome State Fault Refusal :=
  .next (s.quillBoth u (Enc.s 0x1E 0 0 0 0xA) fe (fun g q => g.yieldRun q ce) (fun _ c => c))

/-- EXIT (R273): System instruction EXIT ends the task. -/
def execQExit (u : CoreId) (fe : Fin 3) (s : State) : Host.Outcome State Fault Refusal :=
  .next (s.quillBoth u (Enc.s 0x1E 0 0 0 0xB) fe (fun g q => g.exitRun q) (fun _ c => c))

/-- FENCE (R273): System instruction FENCE completes earlier stores and moves. -/
def execQFence (u : CoreId) (fe : Fin 3) (s : State) : Host.Outcome State Fault Refusal :=
  .next (s.quillBoth u (Enc.s 0x1E 0 0 0 0xC) fe (fun g q => (g.fence q).map (·.qnext q)) (fun _ c => c.onCore (fun k => k.fence.next)))

/-- TRAP (R273): System instruction TRAP raises cause 9. -/
def execQTrap (u : CoreId) (imm : BitVec 12) (fe : Fin 3) (s : State) : Host.Outcome State Fault Refusal :=
  .next (s.quillBoth u (Enc.s 0x1E 0 0 imm.toNat 0xD) fe (fun g q => some (g.quillFault q 9 imm.toNat)) (fun T c => c.coreFault T 9 imm.toNat))

/-- BRK (R279): System instruction BRK halts in debug or raises cause 10. -/
def execQBrk (u : CoreId) (fe : Fin 3) (s : State) : Host.Outcome State Fault Refusal :=
  .next (s.quillBoth u (Enc.s 0x1E 0 0 0 0xE) fe (fun g q => some (g.brk q)) (fun T c => c.brk T))

/-- XRET (R281): System instruction XRET returns from an interrupt or exception. -/
def execQXret (u : CoreId) (fe : Fin 3) (s : State) : Host.Outcome State Fault Refusal :=
  .next (s.quillBoth u (Enc.s 0x1E 0 0 0 0xF) fe (fun g _ => some g) (fun _ c => c.xret))

/-- MVIN (R276): Move instruction MVIN copies Inkwell to scratch under a tag. -/
def execQMvin (u : CoreId) (rd ra rb : Fin 32) (tag : Fin 4) (fe : Fin 3) (s : State) : Host.Outcome State Fault Refusal :=
  .next (s.quillBoth u (Enc.m 0x1F rd ra rb tag 0x1) fe (fun g q => g.move q rd ra rb tag true) (fun _ c => c))

/-- MVOUT (R276): Move instruction MVOUT copies scratch to Inkwell under a tag. -/
def execQMvout (u : CoreId) (rd ra rb : Fin 32) (tag : Fin 4) (fe : Fin 3) (s : State) : Host.Outcome State Fault Refusal :=
  .next (s.quillBoth u (Enc.m 0x1F rd ra rb tag 0x2) fe (fun g q => g.move q rd ra rb tag false) (fun _ c => c))

/-- MVWAIT (R277): Move instruction MVWAIT waits for a tag to complete. -/
def execQMvwait (u : CoreId) (rd : Fin 32) (tag : Fin 4) (fe : Fin 3) (s : State) : Host.Outcome State Fault Refusal :=
  .next (s.quillBoth u (Enc.m 0x1F rd 0 0 tag 0x3) fe (fun g q => g.mvwait q rd tag) (fun _ c => c))

/-- INKLW (R276): Move instruction INKLW loads an Inkwell word synchronously. -/
def execQInklw (u : CoreId) (rd ra : Fin 32) (fe : Fin 3) (de : Fin 3) (s : State) : Host.Outcome State Fault Refusal :=
  .next (s.quillBoth u (Enc.m 0x1F rd ra 0 0 0x4) fe (fun g q => some (g.inklw q rd ra de)) (fun _ c => c))

/-- INKSW (R276): Move instruction INKSW stores an Inkwell word synchronously. -/
def execQInksw (u : CoreId) (rd ra : Fin 32) (fe : Fin 3) (s : State) : Host.Outcome State Fault Refusal :=
  .next (s.quillBoth u (Enc.m 0x1F rd ra 0 0 0x5) fe (fun g q => some (g.inksw q rd ra)) (fun _ c => c))

/-- MOVE_COMPLETE (R277): A background move completes or ends with an error status. -/
def execMoveComplete (q : Fin 16) (mv : Nat) (status : Fin 3) (done : Nat) (s : State) : Host.Outcome State Fault Refusal :=
  .next (s.onG (fun g => g.moveComplete q mv status done))

/-- QUILL_S_INTERRUPT (R281): An enabled pending interrupt is taken between two Quill-S instructions. -/
def execQuillSInterrupt (n : Fin 8) (s : State) : Host.Outcome State Fault Refusal :=
  .next (s.onC (fun _ c => c.interrupt n))

/-- LOCKSTEP_MISMATCH (R282): The comparator of a Quill pair finds a mismatch and fences the pair. -/
def execLockstepMismatch (q : Fin 16) (s : State) : Host.Outcome State Fault Refusal :=
  .next (s.onG (fun g => g.lockstep q))

/-- DEBUG_HALT (R286): QDBG_CTRL.HALT halts the pair at the next instruction boundary. -/
def execDebugHalt (u : CoreId) (tick : Fin 16777216) (s : State) : Host.Outcome State Fault Refusal :=
  .next (s.onCore u (·.dbgHalt) (fun T c => c.debugHalt T tick))

/-- DEBUG_RESUME (R286): QDBG_CTRL.RESUME resumes a halted pair. -/
def execDebugResume (u : CoreId) (s : State) : Host.Outcome State Fault Refusal :=
  .next (s.onCore u (·.dbgResume) (fun _ c => c.debugResume))

/-- DEBUG_STEP (R286): QDBG_CTRL.STEP executes one instruction and halts. -/
def execDebugStep (u : CoreId) (tick : Fin 16777216) (s : State) : Host.Outcome State Fault Refusal :=
  .next (s.onCore u (·.dbgStep) (fun T c => c.debugStep T tick))

/-- QDBG_ACC_READ (R286): A read of QDBG_ACCnL latches QDBG_ACCnH. -/
def execQdbgAccRead (q : Fin 16) (n : Fin 8) (s : State) : Host.Outcome State Fault Refusal :=
  .next (s.onG (fun g => g.qdbgAccRead q n))

end Sys2Proof.Machine
end

