-- ==== Sys2Proof/Machine/RunRank.lean ====
section
/-!
DEFINITION. The meanings of the commands of the Rank Engine: one definition for each.
-/

namespace Sys2Proof.Machine

/-- RANK_COMPLETE (R148): An arm's sort completes and its order and aggregates are written. -/
def execRankComplete (a : Fin 12) (s : State) : Host.Outcome State Fault Refusal :=
  .next (s.onG (fun g => g.rankComplete a))

/-- HOLD_OUT (R162): RNK_HOCMD with ACT 1 queues a hold-out command. -/
def execHoldOut (x : Fin 8192) (s : State) : Host.Outcome State Fault Refusal :=
  .next (s.onG (fun g => g.stagedWrite .rnk R.RNK_HOCMD.addr (x + 2 ^ 16)))

/-- CELL_RETURN (R162): RNK_HOCMD with ACT 2 queues a return command. -/
def execCellReturn (x : Fin 8192) (s : State) : Host.Outcome State Fault Refusal :=
  .next (s.onG (fun g => g.stagedWrite .rnk R.RNK_HOCMD.addr (x + 2 ^ 17)))

/-- RNK_CXDATA0_READ (R164): A read of RNK_CXDATA0 latches RNK_CXDATA1 and advances INDEX. -/
def execRnkCxdata0Read (who : Fin 17) (s : State) : Host.Outcome State Fault Refusal :=
  .next (s.onG (fun g => g.cxRead who))

/-- RNK_CXDATA0_WRITE (R164): A write of RNK_CXDATA0 sets calibration in space 0 while stopped and advances INDEX. -/
def execRnkCxdata0Write (v : Word) (s : State) : Host.Outcome State Fault Refusal :=
  .next (s.onG (fun g => g.cxWrite v.toNat))

end Sys2Proof.Machine
end

