-- ==== Sys2Proof/Machine/RunReservoir.lean ====
section
/-!
DEFINITION. The meanings of the commands of the reservoir, the keeper and cell firmware: one definition for each.
-/

namespace Sys2Proof.Machine

/-- HOLDUP_CONVERSION (R244): Every 1 µs the island converts HSNS and updates the stored energy. -/
def execHoldupConversion (code : Fin 4096) (tick : Fin 16777216) (s : State) : Host.Outcome State Fault Refusal :=
  .next (s.onC (fun T c => c.island (·.holdup T code tick)))

/-- LEDGER_PLAN (R246): Every 100 µs the ledger defers and admits work classes. -/
def execLedgerPlan (tick : Fin 16777216) (s : State) : Host.Outcome State Fault Refusal :=
  .next (s.onC (fun T c => c.island (·.ledgerPlan T tick)))

/-- BROWN_OUT (R249): Holdup below FLOOR or a supply outside limits resets the main domain. -/
def execBrownOut (tick : Fin 16777216) (supply : Bool) (s : State) : Host.Outcome State Fault Refusal :=
  .next (s.onC (fun T c => c.brownOut T tick supply))

/-- VDD_IO_LOSS (R249): VDD_IO is lost, the island stops and outputs are released. -/
def execVddIoLoss (s : State) : Host.Outcome State Fault Refusal :=
  .next (s.onC (fun _ c => c.vddIoLoss))

/-- ISLAND_RESET_RELEASE (R242): 100 µs after VDD_IO is valid the island reset is released. -/
def execIslandResetRelease (s : State) : Host.Outcome State Fault Refusal :=
  .next (s.onC (fun _ c => c.islandRelease))

/-- MAIN_RESET_RELEASE (R242): 100 µs after supplies and holdup are valid the main reset is released and boot starts. -/
def execMainResetRelease (lost : List KeeperItem) (s : State) : Host.Outcome State Fault Refusal :=
  .next (s.onC (fun _ c => c.mainRelease lost))

/-- LFR_CLEAR (R257): RSV_LFRCLR clears both last-fault records in the keeper. -/
def execLfrClear (s : State) : Host.Outcome State Fault Refusal :=
  .next (s.onC (fun _ c => c.lfrClear))

/-- LFRF0_READ (R257): A read of RSV_LFRF0 or RSV_LFRL0 latches the rest of its record. -/
def execLfrf0Read (who : Fin 17) (first : Bool) (s : State) : Host.Outcome State Fault Refusal :=
  .next (s.onC (fun _ c => c.lfrRead who first))

/-- FW_ERASE (R255): RSV_FWCTL.ERASE erases the idle flash bank as class 5 work. -/
def execFwErase (s : State) : Host.Outcome State Fault Refusal :=
  .next (s.onC (fun _ c => c.fwErase))

/-- ERASE_COMPLETE (R255): The idle bank erase completes and ERASED is set. -/
def execEraseComplete (s : State) : Host.Outcome State Fault Refusal :=
  .next (s.onC (fun _ c => c.eraseComplete))

/-- FW_VERIFY (R255): RSV_FWCTL.VERIFY checks the idle image's signature. -/
def execFwVerify (s : State) : Host.Outcome State Fault Refusal :=
  .next (s.onC (fun _ c => c.fwVerify))

/-- FW_ACTIVATE (R256): RSV_FWCTL.ACTIVATE starts a trial boot of the idle bank. -/
def execFwActivate (tick : Fin 16777216) (s : State) : Host.Outcome State Fault Refusal :=
  .next (s.onC (fun T c => c.fwActivate T tick))

/-- FW_CONFIRM (R256): RSV_FWCTL.CONFIRM confirms the trial image as active. -/
def execFwConfirm (s : State) : Host.Outcome State Fault Refusal :=
  .next (s.onC (fun _ c => c.fwConfirm))

/-- TRIAL_TIMEOUT (R256): No confirmation within 2^TRIAL ms; the old bank boots and REVERTED is set. -/
def execTrialTimeout (tick : Fin 16777216) (s : State) : Host.Outcome State Fault Refusal :=
  .next (s.onC (fun T c => c.trialTimeout T tick))

/-- SECURE_BOOT_DONE (R250): The Ihloon's secure boot from the active bank completes, so the cell can leave stage 1
for stage 2 and confirm or revert a trial image. -/
def execSecureBootDone (ok : Bool) (s : State) : Host.Outcome State Fault Refusal :=
  .next (s.onC (fun _ c => c.secureBootDone ok))

/-- FW_VERIFY_DONE (R255): The hybrid-signature check of the Ihloon's idle image finishes and sets VERIFIED on
success. -/
def execFwVerifyDone (e : Envelope) (s : State) : Host.Outcome State Fault Refusal :=
  .next (s.onC (fun _ c => c.fwVerifyDone e))

end Sys2Proof.Machine
end

