-- ==== Sys2Proof/Machine/RunRuling.lean ====
section
/-!
DEFINITION. The meanings of the commands of the Ruling and the shaft encoders: one definition for each.
-/

namespace Sys2Proof.Machine

/-- RUL_ANGLE_WRITE (R50): A write of RUL_ANGLE loads the angle while stopped and SRC_ACT = 0, otherwise it is
rejected. -/
def execRulAngleWrite (v : Word) (s : State) : Host.Outcome State Fault Refusal :=
  .next (s.onG (fun g => g.angleWrite v.toNat))

/-- RUL_ANGLE_READ (R71): A read of RUL_ANGLE latches RUL_FRAC and RUL_VEL. -/
def execRulAngleRead (who : Fin 17) (s : State) : Host.Outcome State Fault Refusal :=
  .next (s.onG (fun g => g.angleRead who))

/-- RUL_ENC_POS_READ (R71): A read of RUL_ENCn_POS latches RUL_ENCn_RAW and RUL_ENCn_IDXPOS. -/
def execRulEncPosRead (who : Fin 17) (n : Fin 2) (s : State) : Host.Outcome State Fault Refusal :=
  .next (s.onG (fun g => g.encPosRead who n))

/-- RECORD_COMMIT (R53): A write of a block's SW_STROKE0 commits its shadow set to a target stroke, or rejects it as
too close. -/
def execRecordCommit (b : Blk) (lo : Word) (s : State) : Host.Outcome State Fault Refusal :=
  .next (s.onG (fun g => g.recordCommit b lo.toNat))

/-- RECORD_CANCEL (R53): A block's SW_CANCEL discards its pending record before the exchange. -/
def execRecordCancel (b : Blk) (s : State) : Host.Outcome State Fault Refusal :=
  .next (s.onG (fun g => g.recordCancel b))

/-- RECORD_RECEIVED (R53): A RECORD frame carrying the partner's pending staged record arrives on the Ligature link. -/
def execRecordReceived (b : Blk) (target : Nat) (writes : List (Nat × Nat)) (verdict : Bool) (s : State) : Host.Outcome State Fault Refusal :=
  .next (s.onG (fun g => g.linked 64 (·.recordReceived b target writes verdict)))

/-- SEGMENT_ARM (R58): RUL_SEG_CTRL.ARM arms the written bank to start at its start stroke, or rejects it. -/
def execSegmentArm (s : State) : Host.Outcome State Fault Refusal :=
  .next (s.onG (fun g => g.stagedWrite .rul R.RUL_SEG_CTRL.addr (2 ^ 9 + g.reg R.RUL_SEG_CTRL)))

/-- SEGMENT_ABORT (R59): RUL_SEG_CTRL.ABORT ends the running table, holds the velocity and returns to host source. -/
def execSegmentAbort (s : State) : Host.Outcome State Fault Refusal :=
  .next (s.onG (fun g => g.stagedWrite .rul R.RUL_SEG_CTRL.addr (2 ^ 10 + g.reg R.RUL_SEG_CTRL)))

/-- GEAR_ARM (R68): RUL_GEAR_ARM.ARM arms a ratio change at APOS, or rejects a zero ratio. -/
def execGearArm (s : State) : Host.Outcome State Fault Refusal :=
  .next (s.onG (fun g => g.stagedWrite .rul R.RUL_GEAR_ARM.addr 1))

/-- GEAR_CANCEL (R71): RUL_GEAR_ARM.CANCEL disarms a pending ratio change. -/
def execGearCancel (s : State) : Host.Outcome State Fault Refusal :=
  .next (s.onG (fun g => g.stagedWrite .rul R.RUL_GEAR_ARM.addr 2))

/-- ENCODER_COUNT (R62): A filtered encoder input edge updates raw count and applied position. -/
def execEncoderCount (n : Fin 2) (a b : Bool) (held : Nat) (s : State) : Host.Outcome State Fault Refusal :=
  .next (s.onG (fun g => g.encoderCount n a b held))

/-- ENCODER_INDEX (R63): A Z edge latches the raw count and performs a pending zeroing. -/
def execEncoderIndex (n : Fin 2) (z : Bool) (held : Nat) (s : State) : Host.Outcome State Fault Refusal :=
  .next (s.onG (fun g => g.encoderIndex n z held))

/-- IDX_ZERO (R63): RUL_ENCn_CFG.IDX_ZERO arms a zeroing at the next Z edge. -/
def execIdxZero (n : Fin 2) (s : State) : Host.Outcome State Fault Refusal :=
  .next (s.onG (fun g => g.stagedWrite .rul (R.RUL_ENC_CFG.at n) (2 ^ 8 + g.reg R.RUL_ENC_CFG n % 2 ^ 8 + g.reg R.RUL_ENC_CFG n / 2 ^ 9 * 2 ^ 9)))

/-- ENCODER_MODE_WRITE (R60): A change of encoder MODE clears the counter, hysteresis and interpolation history. -/
def execEncoderModeWrite (n : Fin 2) (mode : Fin 4) (s : State) : Host.Outcome State Fault Refusal :=
  .next (s.onG (fun g => g.stagedWrite .rul (R.RUL_ENC_CFG.at n) (g.reg R.RUL_ENC_CFG n / 4 * 4 % 2 ^ 8 + mode + g.reg R.RUL_ENC_CFG n / 2 ^ 9 * 2 ^ 9)))

end Sys2Proof.Machine
end

