-- ==== Sys2Proof/Machine/RunSecurity.lean ====
section
/-!
DEFINITION. The meanings of the commands of security and identity: one definition for each.
-/

namespace Sys2Proof.Machine

/-- ATTEST_CHALLENGE (R428): A verifier's challenge reaches a device, which checks it and returns signed evidence. -/
def execAttestChallenge (p : Part) (link : Fin 2) (certOk : Bool) (s : State) : Host.Outcome State Fault Refusal :=
  .next (s.onPart p (·.attestChallenge certOk) (fun _ h => h.attestChallenge link certOk) (fun _ c => c.attestChallenge link certOk))

/-- ATTEST_EVIDENCE (R428): The verifier receives evidence, checks it and derives the link master key. -/
def execAttestEvidence (hub : Bool) (pos : Fin 8192) (plane : Fin 2) (ev : Evidence) (other : Bool) (s : State) : Host.Outcome State Fault Refusal :=
  .next (if hub then s.onH (fun h => if h.populated (pos % 256) then h.attestEvidence (pos % 256) ev other else h) else s.onG (·.attestEvidence pos plane ev))

/-- ATTEST_RETRY (R428): 100 ms after a failed exchange the attestation is repeated. -/
def execAttestRetry (hub : Bool) (pos : Fin 8192) (s : State) : Host.Outcome State Fault Refusal :=
  .next (if hub then s.onH (fun h => if h.populated (pos % 256) then h.attestRetry (pos % 256) else h) else s.onG (·.attestRetry pos))

/-- EVIDENCE_RECORD (R429): Attestation evidence from the partner arrives and is checked. -/
def execEvidenceRecord (pos : Fin 8192) (plane : Fin 2) (ev : Evidence) (verdict : Fin 4) (sentAt : Nat) (s : State) : Host.Outcome State Fault Refusal :=
  .next (s.onG (fun g => g.linked 64 (·.evidenceRecord pos plane ev verdict sentAt)))

/-- BUNDLE_LOAD (R427): SEC_LDCTL.GO loads an object into a bundle slot and verifies it. -/
def execBundleLoad (slot : Fin 4) (ecdsa mldsa digest : Bool) (hash : Nat) (body : Payload) (s : State) : Host.Outcome State Fault Refusal :=
  .next (s.onG (fun g => g.bundleLoad slot ecdsa mldsa digest hash body))

/-- LOAD_COMPLETE (R427): A bundle load finishes and the slot is marked VALID or empty. -/
def execLoadComplete (s : State) : Host.Outcome State Fault Refusal :=
  .next (s.onG (fun g => g.loadComplete))

/-- PROVISIONING_WRITE (R422): A write of SEC_PROV provisions slot 0 in LCS BLANK. -/
def execProvisioningWrite (p : Part) (usage : Fin 256) (s : State) : Host.Outcome State Fault Refusal :=
  .next (s.onPart p (·.provision usage) (fun _ h => h.provision usage) (fun _ c => c.provision usage))

/-- EPOCH_TIMER (R434): SEC_ROT.HOURS expire and the key holder names a switch stroke. -/
def execEpochTimer (hub : Bool) (s : State) : Host.Outcome State Fault Refusal :=
  .next (if hub then s.onH (·.epochTimer) else s.onG (·.epochTimer))

/-- DEBUG_TOKEN (R438): A debug token is accepted and a session opens. -/
def execDebugToken (p : Part) (e : Envelope) (nonce perm : Nat) (s : State) : Host.Outcome State Fault Refusal :=
  .next (s.onPart p (·.debugToken e nonce perm) (fun T h => h.deliver T e (.token nonce perm)) (fun T c => c.deliver T e (.token nonce perm)))

/-- DEBUG_CLOSE (R438): SEC_DBGCTL.CLOSE closes the debug session. -/
def execDebugClose (p : Part) (s : State) : Host.Outcome State Fault Refusal :=
  .next (s.onPart p (·.debugClose) (fun _ h => h.debugClose) (fun _ c => c.debugClose))

/-- DEBUG_EXPIRY (R438): The token's EXPIRY passes and the session closes. -/
def execDebugExpiry (p : Part) (s : State) : Host.Outcome State Fault Refusal :=
  .next (s.onPart p (·.debugExpiry) (fun _ h => h.debugClose) (fun _ c => c.debugClose))

/-- DBGCHAL_READ (R439): A read of SEC_DBGCHAL0 generates a new nonce and latches it. -/
def execDbgchalRead (p : Part) (who : Fin 17) (s : State) : Host.Outcome State Fault Refusal :=
  .next (s.onPart p (·.dbgchalRead who) (fun _ h => h.newNonce) (fun _ c => c.newNonce))

/-- POSDATA_READ (R439): A read of SEC_POSDATA0 latches the position data. -/
def execPosdataRead (who : Fin 17) (s : State) : Host.Outcome State Fault Refusal :=
  .next (s.onG (fun g => g.posdataRead who))

/-- ENTROPY_FAILURE (R420): An entropy health test fails and key generation stops. -/
def execEntropyFailure (p : Part) (s : State) : Host.Outcome State Fault Refusal :=
  .next (s.onPart p (·.entropyFailure) (fun _ h => h.entropyFailure) (fun _ c => c.entropyFailure))

end Sys2Proof.Machine
end

