-- ==== Sys2Proof/Machine/RunStroke.lean ====
section
/-!
DEFINITION. The meanings of the commands of stroke dispatch and hub forwarding: one definition for each.
-/

namespace Sys2Proof.Machine

/-- WORD_FRAME_START (R166): The active twin starts the word frames of stroke k + L on every populated hub lane. -/
def execWordFrameStart (k : Nat) (s : State) : Host.Outcome State Fault Refusal :=
  .next (s.onG (fun g => g.wordFrameStart k))

/-- DIGEST (R335): The partner's DIGEST frame arrives and both digests are compared. -/
def execDigest (k : Nat) (d : Digest) (s : State) : Host.Outcome State Fault Refusal :=
  .next (s.onG (fun g => g.linked 64 (·.digest k d)))

/-- CELL_REPORT (R178): A hub receives a cell report, verifies its tag and fills its slot or counts it late. -/
def execCellReport (c : Fin 192) (r : BitVec 192) (m : LinkMsg) (late : Bool) (s : State) : Host.Outcome State Fault Refusal :=
  .next (s.onH (fun h => h.linked (2 + c) (·.cellReport s.tagLimit c r.toNat m late)))

/-- REPORT_FRAME_SEND (R178): At SB(k) + W the hub sends the REPORT frame of stroke k on both uplinks. -/
def execReportFrameSend (k : Nat) (s : State) : Host.Outcome State Fault Refusal :=
  .next (s.onH (fun h => h.reportFrameSend k))

/-- ECHO (R176): A twin receives a hub's ECHO of accepted claim and word frame arrival. -/
def execEcho (lane : Fin 64) (k : Nat) (twin : Fin 2) (claim : Fin 65536) (e : Echo) (s : State) : Host.Outcome State Fault Refusal :=
  .next (s.onG (fun g => g.linked lane (fun g => (g.frameSeen lane).echo lane k twin claim e)))

/-- WORD_FRAME (R179): A hub receives a WORD frame, verifies it and drops invalid frames or words. -/
def execWordFrame (u : Fin 2) (t : Nat) (claim : Fin 65536) (twin : Fin 2) (gcmOk : Bool) (ws : List (BitVec 96)) (s : State) : Host.Outcome State Fault Refusal :=
  .next (s.onH (fun h => h.linked u (·.wordFrame u t claim twin gcmOk ws)))

/-- STROKE_WORD (R182): An Ihloon receives a stroke word and checks target, tag, address, state and claim. -/
def execStrokeWord (plane : Fin 2) (w : BitVec 96) (m : LinkMsg) (late : Bool) (s : State) : Host.Outcome State Fault Refusal :=
  .next (s.onC (fun _ c => c.strokeWord s.tagLimit plane w.toNat m late))

/-- ARMING_DEADLINE (R182): At SB(t) − 50 ns the cell chooses among valid words and forms its edge list. -/
def execArmingDeadline (s : State) : Host.Outcome State Fault Refusal :=
  .next (s.onC (fun T c => c.armingDeadline T))

/-- SAFE_ACTION (R185): HOLD strokes of hold-over expire and the cell takes its island's safe action. -/
def execSafeAction (s : State) : Host.Outcome State Fault Refusal :=
  .next (s.onC (fun T c => c.island (·.safeAction T)))

/-- CELL_REPORT_SEND (R173): At SB(k) + 70 ns the Ihloon sends its report on both links. -/
def execCellReportSend (s : State) : Host.Outcome State Fault Refusal :=
  .next (s.onC (fun _ c => c.reportSend))

end Sys2Proof.Machine
end

