-- ==== Sys2Proof/Machine/RunTime.lean ====
section
/-!
DEFINITION. The meanings of the commands of station time and the PTP servo: one definition for each.
-/

namespace Sys2Proof.Machine

/-- STROKE_BOUNDARY (R28): Baseline time (or cell time) reaches SB(k): a new stroke begins and per-stroke work is
released. -/
def execStrokeBoundary (p : Part) (s : State) : Host.Outcome State Fault Refusal :=
  .next (s.strokeBoundary p)

/-- FABRIC_CLOCK (R47): Each fabric clock advances Baseline time and adds the velocity to the Ruling accumulator. -/
def execFabricClock (s : State) : Host.Outcome State Fault Refusal :=
  .next (s.onG (fun g => g.fabricClock))

/-- SYNC (R36): An accepted Sync on the SLAVE port runs the servo once. -/
def execSync (port : Fin 4) (twoStep : Bool) (seq : Nat) (stamp origin corr : Int) (negLog : Fin 5) (s : State) : Host.Outcome State Fault Refusal :=
  .next (s.onG (fun g => (g.ptpIn port).sync port twoStep seq stamp origin corr negLog))

/-- FOLLOW_UP (R30): A received Follow_Up completes a two-step Sync measurement. -/
def execFollowUp (port : Fin 4) (seq : Nat) (origin corr : Int) (s : State) : Host.Outcome State Fault Refusal :=
  .next (s.onG (fun g => (g.ptpIn port).followUp port seq origin corr))

/-- ANNOUNCE (R39): A received Announce feeds the BMCA, clockClass check and UTC data. -/
def execAnnounce (port : Fin 4) (a : Announce) (utc : Nat) (s : State) : Host.Outcome State Fault Refusal :=
  .next (s.onG (fun g => (g.ptpIn port).announce port a utc))

/-- PDELAY_REQ (R30): A received Pdelay_Req is answered one-step with Pdelay_Resp. -/
def execPdelayReq (port : Fin 4) (seq : Nat) (rx tx : Int) (s : State) : Host.Outcome State Fault Refusal :=
  .next (s.onG (fun g => (g.ptpIn port).pdelayReq port seq rx tx))

/-- PDELAY_RESP (R30): A received Pdelay_Resp or its Follow_Up updates the peer link delay. -/
def execPdelayResp (port : Fin 4) (seq : Nat) (kind : Fin 3) (rx turn : Int) (s : State) : Host.Outcome State Fault Refusal :=
  .next (s.onG (fun g => (g.ptpIn port).pdelayResp port seq kind rx turn))

/-- PTP_DISCARD (R31): A Delay_Req, Delay_Resp, management or foreign-domain PTP frame is discarded or ignored and
counted. -/
def execPtpDiscard (kind : Fin 6) (s : State) : Host.Outcome State Fault Refusal :=
  .next (s.onG (fun g => g.ptpDiscard kind))

/-- TRANSPARENT_FORWARD (R34): A PTP event frame on an HSR pair is forwarded with its residence time added to
correctionField. -/
def execTransparentForward (port : Fin 4) (isSync : Bool) (rx tx corr : Int) (s : State) : Host.Outcome State Fault Refusal :=
  .next (s.onG (fun g => g.transparentForward port isSync rx tx corr))

/-- SYNC_TIMEOUT (R38): HOLD_TO Sync intervals pass without a valid Sync on the SLAVE port. -/
def execSyncTimeout (s : State) : Host.Outcome State Fault Refusal :=
  .next (s.onG (fun g => g.syncTimeout))

/-- HOLDSPEC_EXPIRY (R38): PTP_HOLDSPEC seconds in HOLDOVER pass and HOLDSPEC_EXC is set. -/
def execHoldspecExpiry (s : State) : Host.Outcome State Fault Refusal :=
  .next (s.onG (fun g => g.holdspecExpiry))

/-- MASTER_SYNC_TRANSMIT (R33): A master port's Sync interval expires and it sends Sync from Baseline time. -/
def execMasterSyncTransmit (port : Fin 4) (s : State) : Host.Outcome State Fault Refusal :=
  .next (s.onG (fun g => g.masterSync port))

/-- ANNOUNCE_TRANSMIT (R35): A master port's Announce interval expires and it sends Announce with the clockClass of
its state. -/
def execAnnounceTransmit (port : Fin 4) (s : State) : Host.Outcome State Fault Refusal :=
  .next (s.onG (fun g => g.announceTransmit port))

/-- STEP_REQ (R36): PTP_CTRL.STEP_REQ requests a step, executed only while the stroke cycle is stopped. -/
def execStepReq (s : State) : Host.Outcome State Fault Refusal :=
  .next (s.onG (fun g => g.stepReq))

/-- PTP_PERIOD_WRITE (R29): A write of PTP_PERIOD sets T only while stopped and with a legal value, otherwise counts
REJ. -/
def execPtpPeriodWrite (v : Word) (s : State) : Host.Outcome State Fault Refusal :=
  .next (s.onG (fun g => g.periodWrite v.toNat))

/-- PTP_RATE_WRITE (R36): A host write of PTP_RATE takes effect at the next stroke boundary, or is ignored while
SERVO_EN = 1. -/
def execPtpRateWrite (v : Word) (s : State) : Host.Outcome State Fault Refusal :=
  .next (s.onG (fun g => g.rateWrite v.toNat))

/-- PTP_TIME0_READ (R45): A read of PTP_TIME0 latches PTP_TIME1 to PTP_TIME3. -/
def execPtpTime0Read (who : Fin 17) (s : State) : Host.Outcome State Fault Refusal :=
  .next (s.onG (fun g => g.time0Read who))

/-- PTP_STROKE0_READ (R45): A read of PTP_STROKE0 latches PTP_STROKE1. -/
def execPtpStroke0Read (who : Fin 17) (s : State) : Host.Outcome State Fault Refusal :=
  .next (s.onG (fun g => g.stroke0Read who))

/-- TWIN_TIME_EXCHANGE (R40): Every 8 strokes the following twin runs a two-way time exchange with the leader on TL0. -/
def execTwinTimeExchange (t1 t2 t3 t4 freq : Int) (s : State) : Host.Outcome State Fault Refusal :=
  .next (s.onG (fun g => g.linked 64 (·.twinTimeExchange t1 t2 t3 t4 freq)))

/-- TIME_MARKER (R41): The exchange interval of a hub or cell follower expires and the upstream side sends a time
marker. -/
def execTimeMarker (p : Part) (link : Fin 192) (t1 : Int) (s : State) : Host.Outcome State Fault Refusal :=
  .next (s.timeMarker p link t1)

/-- TIME_FRAME_RECEIVED (R41): A TIME ink frame (marker or reply) arrives on a hub lane or TL0. -/
def execTimeFrameReceived (p : Part) (lane : Fin 65) (twin : Fin 2) (claim : Fin 65536) (reply : Bool) (seq : Fin 256) (t1 t2 t3 t4 : Int) (s : State) : Host.Outcome State Fault Refusal :=
  .next (s.timeFrame p lane twin claim reply seq t1 t2 t3 t4)

/-- TIME_MESSAGE (R171): A time-exchange message arrives on a cell link and is verified. -/
def execTimeMessage (p : Part) (link : Fin 192) (m : LinkMsg) (reply : Bool) (seq : Fin 256) (t1 t2 t3 t4 : Int) (hubLocked : Bool) (s : State) : Host.Outcome State Fault Refusal :=
  .next (s.timeMessage p link m reply seq t1 t2 t3 t4 hubLocked)

/-- PDELAY_REQ_TRANSMIT (R30): A port with PDELAY_EN sends its periodic Pdelay_Req at its logMinPdelayReqInterval. -/
def execPdelayReqTransmit (port : Fin 4) (tx : Int) (s : State) : Host.Outcome State Fault Refusal :=
  .next (s.onG (fun g => g.pdelayReqTransmit port tx))

end Sys2Proof.Machine
end

