-- ==== Sys2Proof/Machine/RunTwin.lean ====
section
/-!
DEFINITION. The meanings of the commands of twin operation: one definition for each.
-/

namespace Sys2Proof.Machine

/-- HEARTBEAT_SEND (R337): At SB(j) + 100 ns a twin sends its heartbeat on H1 and H2. -/
def execHeartbeatSend (s : State) : Host.Outcome State Fault Refusal :=
  .next (s.onG (fun g => g.heartbeatSend))

/-- HEART (R337): A partner heartbeat arrives and is counted on its path. -/
def execHeart (path : Fin 2) (lane : Fin 64) (hubTwin : Fin 2) (hubClaim : Fin 65536) (tagOk : Bool) (b : Heart) (s : State) : Host.Outcome State Fault Refusal :=
  .next (s.onG (fun g => g.linked (if path = 1 then lane else 64) (fun g => (if path = 1 then g.frameSeen lane else g).heart path lane hubTwin hubClaim tagOk b)))

/-- HUB_HEART_RELAY (R337): A hub relays a HEART frame from one uplink to the other. -/
def execHubHeartRelay (u : Fin 2) (b : Heart) (s : State) : Host.Outcome State Fault Refusal :=
  .next (s.onH (fun h => h.linked u (·.heartRelay u b)))

/-- HANDOVER_CMD (R344): TWN_CTRL.HANDOVER stages a handover. -/
def execHandoverCmd (s : State) : Host.Outcome State Fault Refusal :=
  .next (s.onG (fun g => g.stagedWrite .twn R.TWN_CTRL.addr 1))

/-- HANDOVER_DEADLINE (R345): The overlap ends without success and the outgoing twin raises its claim. -/
def execHandoverDeadline (k : Nat) (s : State) : Host.Outcome State Fault Refusal :=
  .next (s.onG (fun g => g.hoDeadline k))

/-- DRILL (R347): The drill interval expires and the active twin starts a handover. -/
def execDrill (s : State) : Host.Outcome State Fault Refusal :=
  .next (s.onG (fun g => g.drill))

/-- REVERT (R348): A preferred standby in step for REVN strokes starts a takeback handover. -/
def execRevert (s : State) : Host.Outcome State Fault Refusal :=
  .next (s.onG (fun g => g.revert))

/-- JOIN_REQUEST (R349): TWN_CTRL.JOIN requests a join, started when preconditions hold. -/
def execJoinRequest (view : PeerView) (s : State) : Host.Outcome State Fault Refusal :=
  .next (s.onG (fun g => g.joinRequest view))

/-- STATE_FRAME (R351): A STATE frame or marker from the source is applied by the joiner. -/
def execStateFrame (o : StateObj) (s : State) : Host.Outcome State Fault Refusal :=
  .next (s.onG (fun g => g.linked 64 (·.stateFrame o)))

/-- JOIN_TIMEOUT (R352): JTO ms or three retries pass and the join fails. -/
def execJoinTimeout (s : State) : Host.Outcome State Fault Refusal :=
  .next (s.onG (fun g => g.joinTimeout))

/-- BUNDLE_COMMIT (R353): TWN_CTRL.BUNDLE stages activation of a loaded bundle slot. -/
def execBundleCommit (slot : Fin 4) (lo : Word) (s : State) : Host.Outcome State Fault Refusal :=
  .next (s.onG (fun g => g.bundleCommit slot lo.toNat))

end Sys2Proof.Machine
end

