-- ==== Sys2Proof/Machine/Dispatch.lean ====
section
/-!
DEFINITION. Which meaning each command has.
-/

namespace Sys2Proof.Machine

open Sys2Proof

/-- The effect of a command on everything but the queue. -/
def exec (i : Instr) (s : State) : Host.Outcome State Fault Refusal :=
  match i with
  | .strokeBoundary p => Sys2Proof.Machine.execStrokeBoundary p s
  | .fabricClock => Sys2Proof.Machine.execFabricClock s
  | .sync port twoStep seq stamp origin corr negLog => Sys2Proof.Machine.execSync port twoStep seq stamp origin corr negLog s
  | .followUp port seq origin corr => Sys2Proof.Machine.execFollowUp port seq origin corr s
  | .announce port a utc => Sys2Proof.Machine.execAnnounce port a utc s
  | .pdelayReq port seq rx tx => Sys2Proof.Machine.execPdelayReq port seq rx tx s
  | .pdelayResp port seq kind rx turn => Sys2Proof.Machine.execPdelayResp port seq kind rx turn s
  | .ptpDiscard kind => Sys2Proof.Machine.execPtpDiscard kind s
  | .transparentForward port isSync rx tx corr => Sys2Proof.Machine.execTransparentForward port isSync rx tx corr s
  | .syncTimeout => Sys2Proof.Machine.execSyncTimeout s
  | .holdspecExpiry => Sys2Proof.Machine.execHoldspecExpiry s
  | .masterSyncTransmit port => Sys2Proof.Machine.execMasterSyncTransmit port s
  | .announceTransmit port => Sys2Proof.Machine.execAnnounceTransmit port s
  | .stepReq => Sys2Proof.Machine.execStepReq s
  | .ptpPeriodWrite v => Sys2Proof.Machine.execPtpPeriodWrite v s
  | .ptpRateWrite v => Sys2Proof.Machine.execPtpRateWrite v s
  | .ptpTime0Read who => Sys2Proof.Machine.execPtpTime0Read who s
  | .ptpStroke0Read who => Sys2Proof.Machine.execPtpStroke0Read who s
  | .twinTimeExchange t1 t2 t3 t4 freq => Sys2Proof.Machine.execTwinTimeExchange t1 t2 t3 t4 freq s
  | .timeMarker p link t1 => Sys2Proof.Machine.execTimeMarker p link t1 s
  | .timeFrameReceived p lane twin claim reply seq t1 t2 t3 t4 => Sys2Proof.Machine.execTimeFrameReceived p lane twin claim reply seq t1 t2 t3 t4 s
  | .timeMessage p link m reply seq t1 t2 t3 t4 hubLocked => Sys2Proof.Machine.execTimeMessage p link m reply seq t1 t2 t3 t4 hubLocked s
  | .rulAngleWrite v => Sys2Proof.Machine.execRulAngleWrite v s
  | .rulAngleRead who => Sys2Proof.Machine.execRulAngleRead who s
  | .rulEncPosRead who n => Sys2Proof.Machine.execRulEncPosRead who n s
  | .recordCommit b lo => Sys2Proof.Machine.execRecordCommit b lo s
  | .recordCancel b => Sys2Proof.Machine.execRecordCancel b s
  | .recordReceived b target writes verdict => Sys2Proof.Machine.execRecordReceived b target writes verdict s
  | .segmentArm => Sys2Proof.Machine.execSegmentArm s
  | .segmentAbort => Sys2Proof.Machine.execSegmentAbort s
  | .gearArm => Sys2Proof.Machine.execGearArm s
  | .gearCancel => Sys2Proof.Machine.execGearCancel s
  | .encoderCount n a b held => Sys2Proof.Machine.execEncoderCount n a b held s
  | .encoderIndex n z held => Sys2Proof.Machine.execEncoderIndex n z held s
  | .idxZero n => Sys2Proof.Machine.execIdxZero n s
  | .encoderModeWrite n mode => Sys2Proof.Machine.execEncoderModeWrite n mode s
  | .svFrame port f => Sys2Proof.Machine.execSvFrame port f s
  | .gooseFrame port m => Sys2Proof.Machine.execGooseFrame port m s
  | .pbOtherFrame port kind srcMac tag own fcsBad => Sys2Proof.Machine.execPbOtherFrame port kind srcMac tag own fcsBad s
  | .supervisionFrameSend pair => Sys2Proof.Machine.execSupervisionFrameSend pair s
  | .duplicateForget pair => Sys2Proof.Machine.execDuplicateForget pair s
  | .portLinkDown port => Sys2Proof.Machine.execPortLinkDown port s
  | .xfeed item sim rx arrival => Sys2Proof.Machine.execXfeed item sim rx arrival s
  | .reportFrame lane k twin claim keyOk remOk overrun keys rems => Sys2Proof.Machine.execReportFrame lane k twin claim keyOk remOk overrun keys rems s
  | .keysumSend k => Sys2Proof.Machine.execKeysumSend k s
  | .keysum k b => Sys2Proof.Machine.execKeysum k b s
  | .keyAgreement k ce ue => Sys2Proof.Machine.execKeyAgreement k ce ue s
  | .svCutoff k => Sys2Proof.Machine.execSvCutoff k s
  | .svFreeze k => Sys2Proof.Machine.execSvFreeze k s
  | .svsum k b => Sys2Proof.Machine.execSvsum k b s
  | .insumSend k => Sys2Proof.Machine.execInsumSend k s
  | .insum k b => Sys2Proof.Machine.execInsum k b s
  | .crcsum k crcs => Sys2Proof.Machine.execCrcsum k crcs s
  | .inputAgreement k ce ue flrCe pts => Sys2Proof.Machine.execInputAgreement k ce ue flrCe pts s
  | .gooseStale n => Sys2Proof.Machine.execGooseStale n s
  | .gooseTrig n => Sys2Proof.Machine.execGooseTrig n s
  | .gooseRepeat n => Sys2Proof.Machine.execGooseRepeat n s
  | .loopTierBarrier => Sys2Proof.Machine.execLoopTierBarrier s
  | .loopWriteback k => Sys2Proof.Machine.execLoopWriteback k s
  | .loopNop lane => Sys2Proof.Machine.execLoopNop lane s
  | .loopMov lane => Sys2Proof.Machine.execLoopMov lane s
  | .loopAdd lane => Sys2Proof.Machine.execLoopAdd lane s
  | .loopSub lane => Sys2Proof.Machine.execLoopSub lane s
  | .loopMulc lane => Sys2Proof.Machine.execLoopMulc lane s
  | .loopMulv lane => Sys2Proof.Machine.execLoopMulv lane s
  | .loopMac0 lane => Sys2Proof.Machine.execLoopMac0 lane s
  | .loopMac lane => Sys2Proof.Machine.execLoopMac lane s
  | .loopInt lane => Sys2Proof.Machine.execLoopInt lane s
  | .loopMax lane => Sys2Proof.Machine.execLoopMax lane s
  | .loopMin lane => Sys2Proof.Machine.execLoopMin lane s
  | .loopLim lane => Sys2Proof.Machine.execLoopLim lane s
  | .loopAbs lane => Sys2Proof.Machine.execLoopAbs lane s
  | .loopNeg lane => Sys2Proof.Machine.execLoopNeg lane s
  | .loopAsh lane => Sys2Proof.Machine.execLoopAsh lane s
  | .loopTrig lane => Sys2Proof.Machine.execLoopTrig lane s
  | .loopLdc lane => Sys2Proof.Machine.execLoopLdc lane s
  | .loopSkp lane => Sys2Proof.Machine.execLoopSkp lane s
  | .loopOut lane => Sys2Proof.Machine.execLoopOut lane s
  | .loopWr lane => Sys2Proof.Machine.execLoopWr lane s
  | .frd lane => Sys2Proof.Machine.execFrd lane s
  | .frdi lane => Sys2Proof.Machine.execFrdi lane s
  | .fst lane => Sys2Proof.Machine.execFst lane s
  | .trc lane => Sys2Proof.Machine.execTrc lane s
  | .loopOpen slot => Sys2Proof.Machine.execLoopOpen slot s
  | .loopClose slot => Sys2Proof.Machine.execLoopClose slot s
  | .coefWrite v => Sys2Proof.Machine.execCoefWrite v s
  | .paramWrite p v => Sys2Proof.Machine.execParamWrite p v s
  | .lpeXdataWrite v => Sys2Proof.Machine.execLpeXdataWrite v s
  | .lpeXdata0Read who => Sys2Proof.Machine.execLpeXdata0Read who s
  | .flourishClr t => Sys2Proof.Machine.execFlourishClr t s
  | .tapStart t => Sys2Proof.Machine.execTapStart t s
  | .tapTrig t => Sys2Proof.Machine.execTapTrig t s
  | .tapEnable t v => Sys2Proof.Machine.execTapEnable t v s
  | .traceEntryDeadline t => Sys2Proof.Machine.execTraceEntryDeadline t s
  | .rankComplete a => Sys2Proof.Machine.execRankComplete a s
  | .holdOut x => Sys2Proof.Machine.execHoldOut x s
  | .cellReturn x => Sys2Proof.Machine.execCellReturn x s
  | .rnkCxdata0Read who => Sys2Proof.Machine.execRnkCxdata0Read who s
  | .rnkCxdata0Write v => Sys2Proof.Machine.execRnkCxdata0Write v s
  | .wordFrameStart k => Sys2Proof.Machine.execWordFrameStart k s
  | .digest k d => Sys2Proof.Machine.execDigest k d s
  | .cellReport c r m late => Sys2Proof.Machine.execCellReport c r m late s
  | .reportFrameSend k => Sys2Proof.Machine.execReportFrameSend k s
  | .echo lane k twin claim e => Sys2Proof.Machine.execEcho lane k twin claim e s
  | .wordFrame u t claim twin gcmOk ws => Sys2Proof.Machine.execWordFrame u t claim twin gcmOk ws s
  | .strokeWord plane w m late => Sys2Proof.Machine.execStrokeWord plane w m late s
  | .armingDeadline => Sys2Proof.Machine.execArmingDeadline s
  | .safeAction => Sys2Proof.Machine.execSafeAction s
  | .cellReportSend => Sys2Proof.Machine.execCellReportSend s
  | .mgmtReadRequest p m tid addr cnt => Sys2Proof.Machine.execMgmtReadRequest p m tid addr cnt s
  | .mgmtWriteRequest p m tick tid addr ws obj => Sys2Proof.Machine.execMgmtWriteRequest p m tick tid addr ws obj s
  | .mgmtReadResponse engine port tid m ws => Sys2Proof.Machine.execMgmtReadResponse engine port tid m ws s
  | .mgmtWriteAck port tid m => Sys2Proof.Machine.execMgmtWriteAck port tid m s
  | .mgmtError engine port tid m code block => Sys2Proof.Machine.execMgmtError engine port tid m code block s
  | .imageBlock p m tid idx cnt data => Sys2Proof.Machine.execImageBlock p m tid idx cnt data s
  | .hubMgmtRequest u op tid count target port addr ws map => Sys2Proof.Machine.execHubMgmtRequest u op tid count target port addr ws map s
  | .cellMgmtTimeout port => Sys2Proof.Machine.execCellMgmtTimeout port s
  | .clrSafe => Sys2Proof.Machine.execClrSafe s
  | .stkStart => Sys2Proof.Machine.execStkStart s
  | .stkStop => Sys2Proof.Machine.execStkStop s
  | .nibDisable tick => Sys2Proof.Machine.execNibDisable tick s
  | .nibEnable => Sys2Proof.Machine.execNibEnable s
  | .nibEdge => Sys2Proof.Machine.execNibEdge s
  | .trip n tick => Sys2Proof.Machine.execTrip n tick s
  | .blankingEnd ch tick => Sys2Proof.Machine.execBlankingEnd ch tick s
  | .latchClear b => Sys2Proof.Machine.execLatchClear b s
  | .ilockClear => Sys2Proof.Machine.execIlockClear s
  | .overvoltage tick => Sys2Proof.Machine.execOvervoltage tick s
  | .ovpRelease => Sys2Proof.Machine.execOvpRelease s
  | .linkSilence tick => Sys2Proof.Machine.execLinkSilence tick s
  | .freeze tick clockStop => Sys2Proof.Machine.execFreeze tick clockStop s
  | .freezeResume => Sys2Proof.Machine.execFreezeResume s
  | .interlock tick => Sys2Proof.Machine.execInterlock tick s
  | .bypassPulseEnd => Sys2Proof.Machine.execBypassPulseEnd s
  | .rearm => Sys2Proof.Machine.execRearm s
  | .signedSettingsApply => Sys2Proof.Machine.execSignedSettingsApply s
  | .coreReset tick => Sys2Proof.Machine.execCoreReset tick s
  | .timerPulseEnd ch => Sys2Proof.Machine.execTimerPulseEnd ch s
  | .oscCheck good => Sys2Proof.Machine.execOscCheck good s
  | .aqSlot cell ins => Sys2Proof.Machine.execAqSlot cell ins s
  | .aqResult cell => Sys2Proof.Machine.execAqResult cell s
  | .urgentRequest cell input tick => Sys2Proof.Machine.execUrgentRequest cell input tick s
  | .urgentResult cell => Sys2Proof.Machine.execUrgentResult cell s
  | .aqEnable cell en => Sys2Proof.Machine.execAqEnable cell en s
  | .sliceCalibrated cell beyond => Sys2Proof.Machine.execSliceCalibrated cell beyond s
  | .driftClear cell hard => Sys2Proof.Machine.execDriftClear cell hard s
  | .refSelect cell => Sys2Proof.Machine.execRefSelect cell s
  | .xoff cell => Sys2Proof.Machine.execXoff cell s
  | .aqRes0Read cell who => Sys2Proof.Machine.execAqRes0Read cell who s
  | .aqUres0Read cell who => Sys2Proof.Machine.execAqUres0Read cell who s
  | .arbiterStart x d => Sys2Proof.Machine.execArbiterStart x d s
  | .arbiterTimeout a => Sys2Proof.Machine.execArbiterTimeout a s
  | .arbiterHoldOut a => Sys2Proof.Machine.execArbiterHoldOut a s
  | .holdupConversion code tick => Sys2Proof.Machine.execHoldupConversion code tick s
  | .ledgerPlan tick => Sys2Proof.Machine.execLedgerPlan tick s
  | .brownOut tick supply => Sys2Proof.Machine.execBrownOut tick supply s
  | .vddIoLoss => Sys2Proof.Machine.execVddIoLoss s
  | .islandResetRelease => Sys2Proof.Machine.execIslandResetRelease s
  | .mainResetRelease lost => Sys2Proof.Machine.execMainResetRelease lost s
  | .lfrClear => Sys2Proof.Machine.execLfrClear s
  | .lfrf0Read who first => Sys2Proof.Machine.execLfrf0Read who first s
  | .fwErase => Sys2Proof.Machine.execFwErase s
  | .eraseComplete => Sys2Proof.Machine.execEraseComplete s
  | .fwVerify => Sys2Proof.Machine.execFwVerify s
  | .fwActivate tick => Sys2Proof.Machine.execFwActivate tick s
  | .fwConfirm => Sys2Proof.Machine.execFwConfirm s
  | .trialTimeout tick => Sys2Proof.Machine.execTrialTimeout tick s
  | .qAdd u rd ra rb fe => Sys2Proof.Machine.execQAdd u rd ra rb fe s
  | .qSub u rd ra rb fe => Sys2Proof.Machine.execQSub u rd ra rb fe s
  | .qAddc u rd ra rb fe => Sys2Proof.Machine.execQAddc u rd ra rb fe s
  | .qSubc u rd ra rb fe => Sys2Proof.Machine.execQSubc u rd ra rb fe s
  | .qAnd u rd ra rb fe => Sys2Proof.Machine.execQAnd u rd ra rb fe s
  | .qOr u rd ra rb fe => Sys2Proof.Machine.execQOr u rd ra rb fe s
  | .qXor u rd ra rb fe => Sys2Proof.Machine.execQXor u rd ra rb fe s
  | .qShl u rd ra rb fe => Sys2Proof.Machine.execQShl u rd ra rb fe s
  | .qShr u rd ra rb fe => Sys2Proof.Machine.execQShr u rd ra rb fe s
  | .qSha u rd ra rb fe => Sys2Proof.Machine.execQSha u rd ra rb fe s
  | .qShli u rd ra sh fe => Sys2Proof.Machine.execQShli u rd ra sh fe s
  | .qShri u rd ra sh fe => Sys2Proof.Machine.execQShri u rd ra sh fe s
  | .qShai u rd ra sh fe => Sys2Proof.Machine.execQShai u rd ra sh fe s
  | .qSlt u rd ra rb fe => Sys2Proof.Machine.execQSlt u rd ra rb fe s
  | .qSltu u rd ra rb fe => Sys2Proof.Machine.execQSltu u rd ra rb fe s
  | .qMin u rd ra rb fe => Sys2Proof.Machine.execQMin u rd ra rb fe s
  | .qMax u rd ra rb fe => Sys2Proof.Machine.execQMax u rd ra rb fe s
  | .qMul u rd ra rb fe => Sys2Proof.Machine.execQMul u rd ra rb fe s
  | .qMulh u rd ra rb fe => Sys2Proof.Machine.execQMulh u rd ra rb fe s
  | .qMulhu u rd ra rb fe => Sys2Proof.Machine.execQMulhu u rd ra rb fe s
  | .qDiv u rd ra rb fe => Sys2Proof.Machine.execQDiv u rd ra rb fe s
  | .qDivu u rd ra rb fe => Sys2Proof.Machine.execQDivu u rd ra rb fe s
  | .qRem u rd ra rb fe => Sys2Proof.Machine.execQRem u rd ra rb fe s
  | .qRemu u rd ra rb fe => Sys2Proof.Machine.execQRemu u rd ra rb fe s
  | .qAdds u rd ra rb fe => Sys2Proof.Machine.execQAdds u rd ra rb fe s
  | .qSubs u rd ra rb fe => Sys2Proof.Machine.execQSubs u rd ra rb fe s
  | .qAbss u rd ra fe => Sys2Proof.Machine.execQAbss u rd ra fe s
  | .qNegs u rd ra fe => Sys2Proof.Machine.execQNegs u rd ra fe s
  | .qAdds14 u rd ra rb fe => Sys2Proof.Machine.execQAdds14 u rd ra rb fe s
  | .qSubs14 u rd ra rb fe => Sys2Proof.Machine.execQSubs14 u rd ra rb fe s
  | .qMuls14 u rd ra rb fe => Sys2Proof.Machine.execQMuls14 u rd ra rb fe s
  | .qSat14 u rd ra fe => Sys2Proof.Machine.execQSat14 u rd ra fe s
  | .qSats u rd ra rb fe => Sys2Proof.Machine.execQSats u rd ra rb fe s
  | .qClz u rd ra fe => Sys2Proof.Machine.execQClz u rd ra fe s
  | .qAddi u rd ra imm fe => Sys2Proof.Machine.execQAddi u rd ra imm fe s
  | .qAndi u rd ra imm fe => Sys2Proof.Machine.execQAndi u rd ra imm fe s
  | .qOri u rd ra imm fe => Sys2Proof.Machine.execQOri u rd ra imm fe s
  | .qXori u rd ra imm fe => Sys2Proof.Machine.execQXori u rd ra imm fe s
  | .qLui u rd imm fe => Sys2Proof.Machine.execQLui u rd imm fe s
  | .qSlti u rd ra imm fe => Sys2Proof.Machine.execQSlti u rd ra imm fe s
  | .qLdw u rd ra imm fe de => Sys2Proof.Machine.execQLdw u rd ra imm fe de s
  | .qLdh u rd ra imm fe de => Sys2Proof.Machine.execQLdh u rd ra imm fe de s
  | .qLdhu u rd ra imm fe de => Sys2Proof.Machine.execQLdhu u rd ra imm fe de s
  | .qLdb u rd ra imm fe de => Sys2Proof.Machine.execQLdb u rd ra imm fe de s
  | .qLdbu u rd ra imm fe de => Sys2Proof.Machine.execQLdbu u rd ra imm fe de s
  | .qStw u rd ra imm fe tick => Sys2Proof.Machine.execQStw u rd ra imm fe tick s
  | .qSth u rd ra imm fe tick => Sys2Proof.Machine.execQSth u rd ra imm fe tick s
  | .qStb u rd ra imm fe tick => Sys2Proof.Machine.execQStb u rd ra imm fe tick s
  | .qBeq u ra rb ofs fe => Sys2Proof.Machine.execQBeq u ra rb ofs fe s
  | .qBne u ra rb ofs fe => Sys2Proof.Machine.execQBne u ra rb ofs fe s
  | .qBlt u ra rb ofs fe => Sys2Proof.Machine.execQBlt u ra rb ofs fe s
  | .qBge u ra rb ofs fe => Sys2Proof.Machine.execQBge u ra rb ofs fe s
  | .qBltu u ra rb ofs fe => Sys2Proof.Machine.execQBltu u ra rb ofs fe s
  | .qBgeu u ra rb ofs fe => Sys2Proof.Machine.execQBgeu u ra rb ofs fe s
  | .qBfl u cond ofs fe => Sys2Proof.Machine.execQBfl u cond ofs fe s
  | .qJal u rd ofs fe => Sys2Proof.Machine.execQJal u rd ofs fe s
  | .qJalr u rd ra imm fe => Sys2Proof.Machine.execQJalr u rd ra imm fe s
  | .qMacz u acc ra rb fe => Sys2Proof.Machine.execQMacz u acc ra rb fe s
  | .qMac u acc ra rb fe => Sys2Proof.Machine.execQMac u acc ra rb fe s
  | .qMsu u acc ra rb fe => Sys2Proof.Machine.execQMsu u acc ra rb fe s
  | .qMacv u acc ra rb fe => Sys2Proof.Machine.execQMacv u acc ra rb fe s
  | .qAccw u acc ra rb fe => Sys2Proof.Machine.execQAccw u acc ra rb fe s
  | .qAccadd u acc ra sh fe => Sys2Proof.Machine.execQAccadd u acc ra sh fe s
  | .qAccrr u rd acc sh fe => Sys2Proof.Machine.execQAccrr u rd acc sh fe s
  | .qAccrd u rd acc sh fe => Sys2Proof.Machine.execQAccrd u rd acc sh fe s
  | .qAccr14 u rd acc sh fe => Sys2Proof.Machine.execQAccr14 u rd acc sh fe s
  | .qAcclo u rd acc fe => Sys2Proof.Machine.execQAcclo u rd acc fe s
  | .qAcchi u rd acc fe => Sys2Proof.Machine.execQAcchi u rd acc fe s
  | .qVadd u rd ra rb fe => Sys2Proof.Machine.execQVadd u rd ra rb fe s
  | .qVsub u rd ra rb fe => Sys2Proof.Machine.execQVsub u rd ra rb fe s
  | .qVmul u rd ra rb fe => Sys2Proof.Machine.execQVmul u rd ra rb fe s
  | .qVmin u rd ra rb fe => Sys2Proof.Machine.execQVmin u rd ra rb fe s
  | .qVmax u rd ra rb fe => Sys2Proof.Machine.execQVmax u rd ra rb fe s
  | .qVabs u rd ra fe => Sys2Proof.Machine.execQVabs u rd ra fe s
  | .qVneg u rd ra fe => Sys2Proof.Machine.execQVneg u rd ra fe s
  | .qVpack u rd ra rb fe => Sys2Proof.Machine.execQVpack u rd ra rb fe s
  | .qVsum u rd ra fe => Sys2Proof.Machine.execQVsum u rd ra fe s
  | .qVdot u rd ra rb fe => Sys2Proof.Machine.execQVdot u rd ra rb fe s
  | .qCsrr u rd csr fe => Sys2Proof.Machine.execQCsrr u rd csr fe s
  | .qCsrw u ra csr fe => Sys2Proof.Machine.execQCsrw u ra csr fe s
  | .qCsrs u rd ra csr fe => Sys2Proof.Machine.execQCsrs u rd ra csr fe s
  | .qCsrc u rd ra csr fe => Sys2Proof.Machine.execQCsrc u rd ra csr fe s
  | .qWaits u rd ra imm fe ce => Sys2Proof.Machine.execQWaits u rd ra imm fe ce s
  | .qWaita u rd ra imm fe ce => Sys2Proof.Machine.execQWaita u rd ra imm fe ce s
  | .qPost u rd ra fe => Sys2Proof.Machine.execQPost u rd ra fe s
  | .qLock u rd ra fe ce => Sys2Proof.Machine.execQLock u rd ra fe ce s
  | .qTrylk u rd ra fe => Sys2Proof.Machine.execQTrylk u rd ra fe s
  | .qUnlock u ra fe => Sys2Proof.Machine.execQUnlock u ra fe s
  | .qYield u fe ce => Sys2Proof.Machine.execQYield u fe ce s
  | .qExit u fe => Sys2Proof.Machine.execQExit u fe s
  | .qFence u fe => Sys2Proof.Machine.execQFence u fe s
  | .qTrap u imm fe => Sys2Proof.Machine.execQTrap u imm fe s
  | .qBrk u fe => Sys2Proof.Machine.execQBrk u fe s
  | .qXret u fe => Sys2Proof.Machine.execQXret u fe s
  | .qMvin u rd ra rb tag fe => Sys2Proof.Machine.execQMvin u rd ra rb tag fe s
  | .qMvout u rd ra rb tag fe => Sys2Proof.Machine.execQMvout u rd ra rb tag fe s
  | .qMvwait u rd tag fe => Sys2Proof.Machine.execQMvwait u rd tag fe s
  | .qInklw u rd ra fe de => Sys2Proof.Machine.execQInklw u rd ra fe de s
  | .qInksw u rd ra fe => Sys2Proof.Machine.execQInksw u rd ra fe s
  | .moveComplete q mv status done => Sys2Proof.Machine.execMoveComplete q mv status done s
  | .quillSInterrupt n => Sys2Proof.Machine.execQuillSInterrupt n s
  | .lockstepMismatch q => Sys2Proof.Machine.execLockstepMismatch q s
  | .debugHalt u tick => Sys2Proof.Machine.execDebugHalt u tick s
  | .debugResume u => Sys2Proof.Machine.execDebugResume u s
  | .debugStep u tick => Sys2Proof.Machine.execDebugStep u tick s
  | .qdbgAccRead q n => Sys2Proof.Machine.execQdbgAccRead q n s
  | .taskPostCmd t => Sys2Proof.Machine.execTaskPostCmd t s
  | .taskKill t => Sys2Proof.Machine.execTaskKill t s
  | .taskDisable t => Sys2Proof.Machine.execTaskDisable t s
  | .taskEnable t => Sys2Proof.Machine.execTaskEnable t s
  | .preemption q ce => Sys2Proof.Machine.execPreemption q ce s
  | .budgetExceeded t => Sys2Proof.Machine.execBudgetExceeded t s
  | .lockWaitTimeout t => Sys2Proof.Machine.execLockWaitTimeout t s
  | .coreEnableWrite v => Sys2Proof.Machine.execCoreEnableWrite v s
  | .coreReturn v => Sys2Proof.Machine.execCoreReturn v s
  | .selfTestComplete q good => Sys2Proof.Machine.execSelfTestComplete q good s
  | .scrubStep singles doubles => Sys2Proof.Machine.execScrubStep singles doubles s
  | .spareReq rbank => Sys2Proof.Machine.execSpareReq rbank s
  | .spareCopyComplete => Sys2Proof.Machine.execSpareCopyComplete s
  | .layoutLock => Sys2Proof.Machine.execLayoutLock s
  | .resizeQueue part size => Sys2Proof.Machine.execResizeQueue part size s
  | .rinv all rgn => Sys2Proof.Machine.execRinv all rgn s
  | .heartbeatSend => Sys2Proof.Machine.execHeartbeatSend s
  | .heart path lane hubTwin hubClaim tagOk b => Sys2Proof.Machine.execHeart path lane hubTwin hubClaim tagOk b s
  | .hubHeartRelay u b => Sys2Proof.Machine.execHubHeartRelay u b s
  | .handoverCmd => Sys2Proof.Machine.execHandoverCmd s
  | .handoverDeadline k => Sys2Proof.Machine.execHandoverDeadline k s
  | .drill => Sys2Proof.Machine.execDrill s
  | .revert => Sys2Proof.Machine.execRevert s
  | .joinRequest view => Sys2Proof.Machine.execJoinRequest view s
  | .stateFrame o => Sys2Proof.Machine.execStateFrame o s
  | .joinTimeout => Sys2Proof.Machine.execJoinTimeout s
  | .bundleCommit slot lo => Sys2Proof.Machine.execBundleCommit slot lo s
  | .causeRise p n who => Sys2Proof.Machine.execCauseRise p n who s
  | .causeFall p n who => Sys2Proof.Machine.execCauseFall p n who s
  | .eventCauseExpiry p n => Sys2Proof.Machine.execEventCauseExpiry p n s
  | .persistenceMet n => Sys2Proof.Machine.execPersistenceMet n s
  | .actionNotice a => Sys2Proof.Machine.execActionNotice a s
  | .alertPulseEnd n => Sys2Proof.Machine.execAlertPulseEnd n s
  | .alertRel n => Sys2Proof.Machine.execAlertRel n s
  | .alertPinFault n => Sys2Proof.Machine.execAlertPinFault n s
  | .bltRelWrite arms trip => Sys2Proof.Machine.execBltRelWrite arms trip s
  | .bltCrel x => Sys2Proof.Machine.execBltCrel x s
  | .sourceClear p n => Sys2Proof.Machine.execSourceClear p n s
  | .sourceForce p n x => Sys2Proof.Machine.execSourceForce p n x s
  | .hubBlotterRead cell rs => Sys2Proof.Machine.execHubBlotterRead cell rs s
  | .blotterReadRetry c => Sys2Proof.Machine.execBlotterReadRetry c s
  | .blotterBlock rs => Sys2Proof.Machine.execBlotterBlock rs s
  | .changedBitmapRead cell w => Sys2Proof.Machine.execChangedBitmapRead cell w s
  | .logPop => Sys2Proof.Machine.execLogPop s
  | .log0Read who => Sys2Proof.Machine.execLog0Read who s
  | .sourceFirstRead who n last => Sys2Proof.Machine.execSourceFirstRead who n last s
  | .cbdataRead who => Sys2Proof.Machine.execCbdataRead who s
  | .incidentClear => Sys2Proof.Machine.execIncidentClear s
  | .folioArm n => Sys2Proof.Machine.execFolioArm n s
  | .folioTrig n => Sys2Proof.Machine.execFolioTrig n s
  | .folioFree n => Sys2Proof.Machine.execFolioFree n s
  | .folioAbort n => Sys2Proof.Machine.execFolioAbort n s
  | .triginEdge p rise tenths => Sys2Proof.Machine.execTriginEdge p rise tenths s
  | .finalisationComplete n => Sys2Proof.Machine.execFinalisationComplete n s
  | .streamUnit => Sys2Proof.Machine.execStreamUnit s
  | .srrptrWrite v => Sys2Proof.Machine.execSrrptrWrite v s
  | .folTts0Read who p => Sys2Proof.Machine.execFolTts0Read who p s
  | .txSettleDone e => Sys2Proof.Machine.execTxSettleDone e s
  | .trainEnd e => Sys2Proof.Machine.execTrainEnd e s
  | .signalDetect e => Sys2Proof.Machine.execSignalDetect e s
  | .cdrLock e => Sys2Proof.Machine.execCdrLock e s
  | .pilotLock e seen => Sys2Proof.Machine.execPilotLock e seen s
  | .laneUp e devid step => Sys2Proof.Machine.execLaneUp e devid step s
  | .codeword e line tags => Sys2Proof.Machine.execCodeword e line tags s
  | .lossOfSignal e => Sys2Proof.Machine.execLossOfSignal e s
  | .signalReturn e => Sys2Proof.Machine.execSignalReturn e s
  | .holdTimeout e => Sys2Proof.Machine.execHoldTimeout e s
  | .fomRefresh e mu sd => Sys2Proof.Machine.execFomRefresh e mu sd s
  | .calRequest n => Sys2Proof.Machine.execCalRequest n s
  | .calWindowStart e => Sys2Proof.Machine.execCalWindowStart e s
  | .calWindowEnd e => Sys2Proof.Machine.execCalWindowEnd e s
  | .hubCalPoll lane gneed uneed => Sys2Proof.Machine.execHubCalPoll lane gneed uneed s
  | .hubCalGrant port => Sys2Proof.Machine.execHubCalGrant port s
  | .ucwSecond n => Sys2Proof.Machine.execUcwSecond n s
  | .cellLinkUp e fom => Sys2Proof.Machine.execCellLinkUp e fom s
  | .cellLinkDown e viol disp disc silent => Sys2Proof.Machine.execCellLinkDown e viol disp disc silent s
  | .ihloonTxWindow => Sys2Proof.Machine.execIhloonTxWindow s
  | .ihloonTxWindowEnd => Sys2Proof.Machine.execIhloonTxWindowEnd s
  | .attestChallenge p link certOk => Sys2Proof.Machine.execAttestChallenge p link certOk s
  | .attestEvidence hub pos plane ev other => Sys2Proof.Machine.execAttestEvidence hub pos plane ev other s
  | .attestRetry hub pos => Sys2Proof.Machine.execAttestRetry hub pos s
  | .evidenceRecord pos plane ev verdict sentAt => Sys2Proof.Machine.execEvidenceRecord pos plane ev verdict sentAt s
  | .bundleLoad slot ecdsa mldsa digest hash body => Sys2Proof.Machine.execBundleLoad slot ecdsa mldsa digest hash body s
  | .loadComplete => Sys2Proof.Machine.execLoadComplete s
  | .provisioningWrite p usage => Sys2Proof.Machine.execProvisioningWrite p usage s
  | .epochTimer hub => Sys2Proof.Machine.execEpochTimer hub s
  | .debugToken p e nonce perm => Sys2Proof.Machine.execDebugToken p e nonce perm s
  | .debugClose p => Sys2Proof.Machine.execDebugClose p s
  | .debugExpiry p => Sys2Proof.Machine.execDebugExpiry p s
  | .dbgchalRead p who => Sys2Proof.Machine.execDbgchalRead p who s
  | .posdataRead who => Sys2Proof.Machine.execPosdataRead who s
  | .entropyFailure p => Sys2Proof.Machine.execEntropyFailure p s
  | .endpointReset perst => Sys2Proof.Machine.execEndpointReset perst s
  | .pcieLinkDown => Sys2Proof.Machine.execPcieLinkDown s
  | .registerWrite a v be hit => Sys2Proof.Machine.execRegisterWrite a v be hit s
  | .hubWindowRead n ofs count shapeOk => Sys2Proof.Machine.execHubWindowRead n ofs count shapeOk s
  | .hubWindowWrite n ofs ws shapeOk => Sys2Proof.Machine.execHubWindowWrite n ofs ws shapeOk s
  | .hubWindowResponse n twin claim tid code ws => Sys2Proof.Machine.execHubWindowResponse n twin claim tid code ws s
  | .hubWindowTimeout n => Sys2Proof.Machine.execHubWindowTimeout n s
  | .herrClear => Sys2Proof.Machine.execHerrClear s
  | .dataPortWrite x ws => Sys2Proof.Machine.execDataPortWrite x ws s
  | .dataPortRead x n find => Sys2Proof.Machine.execDataPortRead x n find s
  | .dataPortAdv => Sys2Proof.Machine.execDataPortAdv s
  | .dataPortTimeout isRead x n => Sys2Proof.Machine.execDataPortTimeout isRead x n s
  | .dpstatRead who => Sys2Proof.Machine.execDpstatRead who s
  | .doorbell v => Sys2Proof.Machine.execDoorbell v s
  | .msixUnmask v => Sys2Proof.Machine.execMsixUnmask v s
  | .partReset cause => Sys2Proof.Machine.execPartReset cause s
  | .reboot => Sys2Proof.Machine.execReboot s
  | .bootRelease => Sys2Proof.Machine.execBootRelease s
  | .imageVerified e entry sections => Sys2Proof.Machine.execImageVerified e entry sections s
  | .railFault hub bad => Sys2Proof.Machine.execRailFault hub bad s
  | .refclkFault => Sys2Proof.Machine.execRefclkFault s
  | .plannerTick power floor energy => Sys2Proof.Machine.execPlannerTick power floor energy s
  | .shedStep thermal => Sys2Proof.Machine.execShedStep thermal s
  | .thermalSample hub tj sensor => Sys2Proof.Machine.execThermalSample hub tj sensor s
  | .thermalTrip => Sys2Proof.Machine.execThermalTrip s
  | .qgateWrite v => Sys2Proof.Machine.execQgateWrite v s
  | .dxdataRead who => Sys2Proof.Machine.execDxdataRead who s
  | .flashCommand port op mode len => Sys2Proof.Machine.execFlashCommand port op mode len s
  | .flashCommandDone data => Sys2Proof.Machine.execFlashCommandDone data s
  | .hubReset => Sys2Proof.Machine.execHubReset s
  | .imageFrame u cell port ofs data last => Sys2Proof.Machine.execImageFrame u cell port ofs data last s
  | .hubImageVerify e => Sys2Proof.Machine.execHubImageVerify e s
  | .hubFailWait => Sys2Proof.Machine.execHubFailWait s
  | .cellLoadQueue x => Sys2Proof.Machine.execCellLoadQueue x s
  | .hubRestart => Sys2Proof.Machine.execHubRestart s
  | .pdelayReqTransmit port tx => Sys2Proof.Machine.execPdelayReqTransmit port tx s
  | .tripInputRelease n => Sys2Proof.Machine.execTripInputRelease n s
  | .pcieLinkUp width speed => Sys2Proof.Machine.execPcieLinkUp width speed s
  | .portLinkUp port speed => Sys2Proof.Machine.execPortLinkUp port speed s
  | .secureBootDone ok => Sys2Proof.Machine.execSecureBootDone ok s
  | .fwVerifyDone e => Sys2Proof.Machine.execFwVerifyDone e s
  | .registerReadClear who a hit => Sys2Proof.Machine.execRegisterReadClear who a hit s
  | .synthesiserDrift e => Sys2Proof.Machine.execSynthesiserDrift e s

end Sys2Proof.Machine
end

