-- ==== Sys2Proof/WellFormed.lean ====
section
/-!
DEFINITION. Well-formed commands: stroke numbers of 48 bits (R28), and operand lists of the length and range that a frame, a
register or a converter can carry.
-/

namespace Sys2Proof

open Sys2Proof.Machine

/-- A stroke number. -/
def strokeOk (k : Nat) : Bool := decide (k < 2 ^ 48)

/-- Every number of a list fits in `w` bits. -/
def allFit (w : Nat) (l : List Nat) : Bool := l.all (fun x => decide (x < 2 ^ w))

/-- Register offsets and words of a staged record (R53). -/
def writesOk (l : List (Nat × Nat)) : Bool := l.all (fun e => decide (e.1 < 2 ^ 24) && decide (e.2 < 2 ^ 32))

/-- A command that the outside can send. -/
def Instr.wf : Instr → Bool
  | .strokeBoundary _ => true
  | .fabricClock => true
  | .sync _ _ seq _ _ _ _ => allFit 16 [seq]
  | .followUp _ seq _ _ => allFit 16 [seq]
  | .announce _ _ utc => allFit 32 [utc]
  | .pdelayReq _ seq _ _ => allFit 16 [seq]
  | .pdelayResp _ seq _ _ _ => allFit 16 [seq]
  | .ptpDiscard _ => true
  | .transparentForward _ _ _ _ _ => true
  | .syncTimeout => true
  | .holdspecExpiry => true
  | .masterSyncTransmit _ => true
  | .announceTransmit _ => true
  | .stepReq => true
  | .ptpPeriodWrite _ => true
  | .ptpRateWrite _ => true
  | .ptpTime0Read _ => true
  | .ptpStroke0Read _ => true
  | .twinTimeExchange _ _ _ _ _ => true
  | .timeMarker _ _ _ => true
  | .timeFrameReceived _ _ _ _ _ _ _ _ _ _ => true
  | .timeMessage _ _ _ _ _ _ _ _ _ _ => true
  | .rulAngleWrite _ => true
  | .rulAngleRead _ => true
  | .rulEncPosRead _ _ => true
  | .recordCommit _ _ => true
  | .recordCancel _ => true
  | .recordReceived _ target writes _ => strokeOk target && writesOk writes
  | .segmentArm => true
  | .segmentAbort => true
  | .gearArm => true
  | .gearCancel => true
  | .encoderCount _ _ _ _ => true
  | .encoderIndex _ _ _ => true
  | .idxZero _ => true
  | .encoderModeWrite _ _ => true
  | .svFrame _ _ => true
  | .gooseFrame _ _ => true
  | .pbOtherFrame _ _ _ _ _ _ => true
  | .supervisionFrameSend _ => true
  | .duplicateForget _ => true
  | .portLinkDown _ => true
  | .xfeed _ _ _ _ => true
  | .reportFrame _ k _ _ _ _ _ keys rems => strokeOk k && decide (keys.length = rems.length) && decide (keys.length ≤ 192) && allFit 32 keys && allFit 160 rems
  | .keysumSend k => strokeOk k
  | .keysum k _ => strokeOk k
  | .keyAgreement k _ ue => strokeOk k && allFit 13 ue
  | .svCutoff k => strokeOk k
  | .svFreeze k => strokeOk k
  | .svsum k _ => strokeOk k
  | .insumSend k => strokeOk k
  | .insum k _ => strokeOk k
  | .crcsum k _ => strokeOk k
  | .inputAgreement k _ ue _ pts => strokeOk k && allFit 6 ue && pts.all (fun p => decide (p.1 < 64))
  | .gooseStale _ => true
  | .gooseTrig _ => true
  | .gooseRepeat _ => true
  | .loopTierBarrier => true
  | .loopWriteback k => strokeOk k
  | .loopNop _ => true
  | .loopMov _ => true
  | .loopAdd _ => true
  | .loopSub _ => true
  | .loopMulc _ => true
  | .loopMulv _ => true
  | .loopMac0 _ => true
  | .loopMac _ => true
  | .loopInt _ => true
  | .loopMax _ => true
  | .loopMin _ => true
  | .loopLim _ => true
  | .loopAbs _ => true
  | .loopNeg _ => true
  | .loopAsh _ => true
  | .loopTrig _ => true
  | .loopLdc _ => true
  | .loopSkp _ => true
  | .loopOut _ => true
  | .loopWr _ => true
  | .frd _ => true
  | .frdi _ => true
  | .fst _ => true
  | .trc _ => true
  | .loopOpen _ => true
  | .loopClose _ => true
  | .coefWrite _ => true
  | .paramWrite _ _ => true
  | .lpeXdataWrite _ => true
  | .lpeXdata0Read _ => true
  | .flourishClr _ => true
  | .tapStart _ => true
  | .tapTrig _ => true
  | .tapEnable _ _ => true
  | .traceEntryDeadline _ => true
  | .rankComplete _ => true
  | .holdOut _ => true
  | .cellReturn _ => true
  | .rnkCxdata0Read _ => true
  | .rnkCxdata0Write _ => true
  | .wordFrameStart k => strokeOk k
  | .digest k _ => strokeOk k
  | .cellReport _ _ _ _ => true
  | .reportFrameSend k => strokeOk k
  | .echo _ k _ _ _ => strokeOk k
  | .wordFrame _ t _ _ _ ws => strokeOk t && decide (ws.length ≤ 192)
  | .strokeWord _ _ _ _ => true
  | .armingDeadline => true
  | .safeAction => true
  | .cellReportSend => true
  | .mgmtReadRequest _ _ _ _ _ => true
  | .mgmtWriteRequest _ _ _ _ _ ws _ => decide (1 ≤ ws.length ∧ ws.length ≤ 8)
  | .mgmtReadResponse _ _ _ _ ws => decide (1 ≤ ws.length ∧ ws.length ≤ 8)
  | .mgmtWriteAck _ _ _ => true
  | .mgmtError _ _ _ _ _ _ => true
  | .imageBlock _ _ _ _ _ _ => true
  | .hubMgmtRequest _ _ _ _ _ _ _ ws _ => decide (ws.length ≤ 256)
  | .cellMgmtTimeout _ => true
  | .clrSafe => true
  | .stkStart => true
  | .stkStop => true
  | .nibDisable _ => true
  | .nibEnable => true
  | .nibEdge => true
  | .trip _ _ => true
  | .blankingEnd _ _ => true
  | .latchClear _ => true
  | .ilockClear => true
  | .overvoltage _ => true
  | .ovpRelease => true
  | .linkSilence _ => true
  | .freeze _ _ => true
  | .freezeResume => true
  | .interlock _ => true
  | .bypassPulseEnd => true
  | .rearm => true
  | .signedSettingsApply => true
  | .coreReset _ => true
  | .timerPulseEnd _ => true
  | .oscCheck _ => true
  | .aqSlot _ _ => true
  | .aqResult _ => true
  | .urgentRequest _ _ _ => true
  | .urgentResult _ => true
  | .aqEnable _ _ => true
  | .sliceCalibrated _ _ => true
  | .driftClear _ _ => true
  | .refSelect _ => true
  | .xoff _ => true
  | .aqRes0Read _ _ => true
  | .aqUres0Read _ _ => true
  | .arbiterStart _ _ => true
  | .arbiterTimeout _ => true
  | .arbiterHoldOut _ => true
  | .holdupConversion _ _ => true
  | .ledgerPlan _ => true
  | .brownOut _ _ => true
  | .vddIoLoss => true
  | .islandResetRelease => true
  | .mainResetRelease _ => true
  | .lfrClear => true
  | .lfrf0Read _ _ => true
  | .fwErase => true
  | .eraseComplete => true
  | .fwVerify => true
  | .fwActivate _ => true
  | .fwConfirm => true
  | .trialTimeout _ => true
  | .qAdd _ _ _ _ _ => true
  | .qSub _ _ _ _ _ => true
  | .qAddc _ _ _ _ _ => true
  | .qSubc _ _ _ _ _ => true
  | .qAnd _ _ _ _ _ => true
  | .qOr _ _ _ _ _ => true
  | .qXor _ _ _ _ _ => true
  | .qShl _ _ _ _ _ => true
  | .qShr _ _ _ _ _ => true
  | .qSha _ _ _ _ _ => true
  | .qShli _ _ _ _ _ => true
  | .qShri _ _ _ _ _ => true
  | .qShai _ _ _ _ _ => true
  | .qSlt _ _ _ _ _ => true
  | .qSltu _ _ _ _ _ => true
  | .qMin _ _ _ _ _ => true
  | .qMax _ _ _ _ _ => true
  | .qMul _ _ _ _ _ => true
  | .qMulh _ _ _ _ _ => true
  | .qMulhu _ _ _ _ _ => true
  | .qDiv _ _ _ _ _ => true
  | .qDivu _ _ _ _ _ => true
  | .qRem _ _ _ _ _ => true
  | .qRemu _ _ _ _ _ => true
  | .qAdds _ _ _ _ _ => true
  | .qSubs _ _ _ _ _ => true
  | .qAbss _ _ _ _ => true
  | .qNegs _ _ _ _ => true
  | .qAdds14 _ _ _ _ _ => true
  | .qSubs14 _ _ _ _ _ => true
  | .qMuls14 _ _ _ _ _ => true
  | .qSat14 _ _ _ _ => true
  | .qSats _ _ _ _ _ => true
  | .qClz _ _ _ _ => true
  | .qAddi _ _ _ _ _ => true
  | .qAndi _ _ _ _ _ => true
  | .qOri _ _ _ _ _ => true
  | .qXori _ _ _ _ _ => true
  | .qLui _ _ _ _ => true
  | .qSlti _ _ _ _ _ => true
  | .qLdw _ _ _ _ _ _ => true
  | .qLdh _ _ _ _ _ _ => true
  | .qLdhu _ _ _ _ _ _ => true
  | .qLdb _ _ _ _ _ _ => true
  | .qLdbu _ _ _ _ _ _ => true
  | .qStw _ _ _ _ _ _ => true
  | .qSth _ _ _ _ _ _ => true
  | .qStb _ _ _ _ _ _ => true
  | .qBeq _ _ _ _ _ => true
  | .qBne _ _ _ _ _ => true
  | .qBlt _ _ _ _ _ => true
  | .qBge _ _ _ _ _ => true
  | .qBltu _ _ _ _ _ => true
  | .qBgeu _ _ _ _ _ => true
  | .qBfl _ _ _ _ => true
  | .qJal _ _ _ _ => true
  | .qJalr _ _ _ _ _ => true
  | .qMacz _ _ _ _ _ => true
  | .qMac _ _ _ _ _ => true
  | .qMsu _ _ _ _ _ => true
  | .qMacv _ _ _ _ _ => true
  | .qAccw _ _ _ _ _ => true
  | .qAccadd _ _ _ _ _ => true
  | .qAccrr _ _ _ _ _ => true
  | .qAccrd _ _ _ _ _ => true
  | .qAccr14 _ _ _ _ _ => true
  | .qAcclo _ _ _ _ => true
  | .qAcchi _ _ _ _ => true
  | .qVadd _ _ _ _ _ => true
  | .qVsub _ _ _ _ _ => true
  | .qVmul _ _ _ _ _ => true
  | .qVmin _ _ _ _ _ => true
  | .qVmax _ _ _ _ _ => true
  | .qVabs _ _ _ _ => true
  | .qVneg _ _ _ _ => true
  | .qVpack _ _ _ _ _ => true
  | .qVsum _ _ _ _ => true
  | .qVdot _ _ _ _ _ => true
  | .qCsrr _ _ _ _ => true
  | .qCsrw _ _ _ _ => true
  | .qCsrs _ _ _ _ _ => true
  | .qCsrc _ _ _ _ _ => true
  | .qWaits _ _ _ _ _ _ => true
  | .qWaita _ _ _ _ _ _ => true
  | .qPost _ _ _ _ => true
  | .qLock _ _ _ _ _ => true
  | .qTrylk _ _ _ _ => true
  | .qUnlock _ _ _ => true
  | .qYield _ _ _ => true
  | .qExit _ _ => true
  | .qFence _ _ => true
  | .qTrap _ _ _ => true
  | .qBrk _ _ => true
  | .qXret _ _ => true
  | .qMvin _ _ _ _ _ _ => true
  | .qMvout _ _ _ _ _ _ => true
  | .qMvwait _ _ _ _ => true
  | .qInklw _ _ _ _ _ => true
  | .qInksw _ _ _ _ => true
  | .moveComplete _ _ _ _ => true
  | .quillSInterrupt _ => true
  | .lockstepMismatch _ => true
  | .debugHalt _ _ => true
  | .debugResume _ => true
  | .debugStep _ _ => true
  | .qdbgAccRead _ _ => true
  | .taskPostCmd _ => true
  | .taskKill _ => true
  | .taskDisable _ => true
  | .taskEnable _ => true
  | .preemption _ _ => true
  | .budgetExceeded _ => true
  | .lockWaitTimeout _ => true
  | .coreEnableWrite _ => true
  | .coreReturn _ => true
  | .selfTestComplete _ _ => true
  | .scrubStep _ _ => true
  | .spareReq _ => true
  | .spareCopyComplete => true
  | .layoutLock => true
  | .resizeQueue _ _ => true
  | .rinv _ _ => true
  | .heartbeatSend => true
  | .heart _ _ _ _ _ _ => true
  | .hubHeartRelay _ _ => true
  | .handoverCmd => true
  | .handoverDeadline k => strokeOk k
  | .drill => true
  | .revert => true
  | .joinRequest _ => true
  | .stateFrame _ => true
  | .joinTimeout => true
  | .bundleCommit _ _ => true
  | .causeRise _ _ _ => true
  | .causeFall _ _ _ => true
  | .eventCauseExpiry _ _ => true
  | .persistenceMet _ => true
  | .actionNotice _ => true
  | .alertPulseEnd _ => true
  | .alertRel _ => true
  | .alertPinFault _ => true
  | .bltRelWrite _ _ => true
  | .bltCrel _ => true
  | .sourceClear _ _ => true
  | .sourceForce _ _ _ => true
  | .hubBlotterRead _ _ => true
  | .blotterReadRetry _ => true
  | .blotterBlock rs => decide (rs.length ≤ 255)
  | .changedBitmapRead _ _ => true
  | .logPop => true
  | .log0Read _ => true
  | .sourceFirstRead _ _ _ => true
  | .cbdataRead _ => true
  | .incidentClear => true
  | .folioArm _ => true
  | .folioTrig _ => true
  | .folioFree _ => true
  | .folioAbort _ => true
  | .triginEdge _ _ _ => true
  | .finalisationComplete _ => true
  | .streamUnit => true
  | .srrptrWrite _ => true
  | .folTts0Read _ _ => true
  | .txSettleDone _ => true
  | .trainEnd _ => true
  | .signalDetect _ => true
  | .cdrLock _ => true
  | .pilotLock _ _ => true
  | .laneUp _ _ _ => true
  | .codeword _ line _ => decide (line.length = 2800)
  | .lossOfSignal _ => true
  | .signalReturn _ => true
  | .holdTimeout _ => true
  | .fomRefresh _ mu sd => decide (mu.length = 4 ∧ sd.length = 4) && mu.all (fun x => decide (-512 ≤ x ∧ x < 512)) && allFit 10 sd
  | .calRequest _ => true
  | .calWindowStart _ => true
  | .calWindowEnd _ => true
  | .hubCalPoll _ _ _ => true
  | .hubCalGrant _ => true
  | .ucwSecond _ => true
  | .cellLinkUp _ _ => true
  | .cellLinkDown _ _ _ _ _ => true
  | .ihloonTxWindow => true
  | .ihloonTxWindowEnd => true
  | .attestChallenge _ _ _ => true
  | .attestEvidence _ _ _ _ _ => true
  | .attestRetry _ _ => true
  | .evidenceRecord _ _ _ _ _ => true
  | .bundleLoad _ _ _ _ hash _ => allFit 64 [hash]
  | .loadComplete => true
  | .provisioningWrite _ _ => true
  | .epochTimer _ => true
  | .debugToken _ _ nonce perm => allFit 256 [nonce] && allFit 8 [perm]
  | .debugClose _ => true
  | .debugExpiry _ => true
  | .dbgchalRead _ _ => true
  | .posdataRead _ => true
  | .entropyFailure _ => true
  | .endpointReset _ => true
  | .pcieLinkDown => true
  | .registerWrite _ _ _ _ => true
  | .hubWindowRead _ _ _ _ => true
  | .hubWindowWrite _ _ ws _ => decide (ws.length ≤ 1024)
  | .hubWindowResponse _ _ _ _ _ ws => decide (ws.length ≤ 8)
  | .hubWindowTimeout _ => true
  | .herrClear => true
  | .dataPortWrite _ ws => decide (ws.length ≤ 1024)
  | .dataPortRead _ _ _ => true
  | .dataPortAdv => true
  | .dataPortTimeout _ _ _ => true
  | .dpstatRead _ => true
  | .doorbell _ => true
  | .msixUnmask _ => true
  | .partReset _ => true
  | .reboot => true
  | .bootRelease => true
  | .imageVerified _ _ _ => true
  | .railFault _ _ => true
  | .refclkFault => true
  | .plannerTick _ _ energy => allFit 32 (energy.map (·.2))
  | .shedStep _ => true
  | .thermalSample _ tj _ => decide (-1024 ≤ tj ∧ tj < 1024)
  | .thermalTrip => true
  | .qgateWrite _ => true
  | .dxdataRead _ => true
  | .flashCommand _ _ _ _ => true
  | .flashCommandDone data => decide (data.length ≤ 64)
  | .hubReset => true
  | .imageFrame _ _ _ _ data _ => allFit 8 data
  | .hubImageVerify _ => true
  | .hubFailWait => true
  | .cellLoadQueue _ => true
  | .hubRestart => true
  | .pdelayReqTransmit _ _ => true
  | .tripInputRelease _ => true
  | .pcieLinkUp _ _ => true
  | .portLinkUp _ _ => true
  | .secureBootDone _ => true
  | .fwVerifyDone _ => true
  | .registerReadClear _ _ _ => true
  | .synthesiserDrift _ => true

end Sys2Proof
end

