-- ==== Sys2Proof/Safety.lean ====
section
/-!
DEFINITION. What counts as a safe run, and the terms that claims use: the parts that a command may change, the commands that
wait for the reset of their blocks, the invariants, and what a step leaves.
-/

namespace Sys2Proof

open Sys2Proof.Machine

/-- The part at a lane end. -/
def Machine.LaneEnd.part : LaneEnd → List Part
  | .gl _ => [.gloesk]
  | .up _ => [.stanak]
  | .port _ => [.stanak]
  | .lk _ => [.ihloon]

/-- The part that holds a core. -/
def Machine.CoreId.part : CoreId → List Part
  | .q _ => [.gloesk]
  | .s => [.ihloon]

/-- The parts that a command may change. -/
def Instr.site : Instr → List Part
  | .strokeBoundary p => [p]
  | .fabricClock => [.gloesk]
  | .sync _ _ _ _ _ _ _ => [.gloesk]
  | .followUp _ _ _ _ => [.gloesk]
  | .announce _ _ _ => [.gloesk]
  | .pdelayReq _ _ _ _ => [.gloesk]
  | .pdelayResp _ _ _ _ _ => [.gloesk]
  | .ptpDiscard _ => [.gloesk]
  | .transparentForward _ _ _ _ _ => [.gloesk]
  | .syncTimeout => [.gloesk]
  | .holdspecExpiry => [.gloesk]
  | .masterSyncTransmit _ => [.gloesk]
  | .announceTransmit _ => [.gloesk]
  | .stepReq => [.gloesk]
  | .ptpPeriodWrite _ => [.gloesk]
  | .ptpRateWrite _ => [.gloesk]
  | .ptpTime0Read _ => [.gloesk]
  | .ptpStroke0Read _ => [.gloesk]
  | .twinTimeExchange _ _ _ _ _ => [.gloesk]
  | .timeMarker p _ _ => [p]
  | .timeFrameReceived p _ _ _ _ _ _ _ _ _ => [p]
  | .timeMessage p _ _ _ _ _ _ _ _ _ => [p]
  | .pdelayReqTransmit _ _ => [.gloesk]
  | .rulAngleWrite _ => [.gloesk]
  | .rulAngleRead _ => [.gloesk]
  | .rulEncPosRead _ _ => [.gloesk]
  | .recordCommit _ _ => [.gloesk]
  | .recordCancel _ => [.gloesk]
  | .recordReceived _ _ _ _ => [.gloesk]
  | .segmentArm => [.gloesk]
  | .segmentAbort => [.gloesk]
  | .gearArm => [.gloesk]
  | .gearCancel => [.gloesk]
  | .encoderCount _ _ _ _ => [.gloesk]
  | .encoderIndex _ _ _ => [.gloesk]
  | .idxZero _ => [.gloesk]
  | .encoderModeWrite _ _ => [.gloesk]
  | .svFrame _ _ => [.gloesk]
  | .gooseFrame _ _ => [.gloesk]
  | .pbOtherFrame _ _ _ _ _ _ => [.gloesk]
  | .supervisionFrameSend _ => [.gloesk]
  | .duplicateForget _ => [.gloesk]
  | .portLinkDown _ => [.gloesk]
  | .portLinkUp _ _ => [.gloesk]
  | .xfeed _ _ _ _ => [.gloesk]
  | .reportFrame _ _ _ _ _ _ _ _ _ => [.gloesk]
  | .keysumSend _ => [.gloesk]
  | .keysum _ _ => [.gloesk]
  | .keyAgreement _ _ _ => [.gloesk]
  | .svCutoff _ => [.gloesk]
  | .svFreeze _ => [.gloesk]
  | .svsum _ _ => [.gloesk]
  | .insumSend _ => [.gloesk]
  | .insum _ _ => [.gloesk]
  | .crcsum _ _ => [.gloesk]
  | .inputAgreement _ _ _ _ _ => [.gloesk]
  | .gooseStale _ => [.gloesk]
  | .gooseTrig _ => [.gloesk]
  | .gooseRepeat _ => [.gloesk]
  | .loopTierBarrier => [.gloesk]
  | .loopWriteback _ => [.gloesk]
  | .loopNop _ => [.gloesk]
  | .loopMov _ => [.gloesk]
  | .loopAdd _ => [.gloesk]
  | .loopSub _ => [.gloesk]
  | .loopMulc _ => [.gloesk]
  | .loopMulv _ => [.gloesk]
  | .loopMac0 _ => [.gloesk]
  | .loopMac _ => [.gloesk]
  | .loopInt _ => [.gloesk]
  | .loopMax _ => [.gloesk]
  | .loopMin _ => [.gloesk]
  | .loopLim _ => [.gloesk]
  | .loopAbs _ => [.gloesk]
  | .loopNeg _ => [.gloesk]
  | .loopAsh _ => [.gloesk]
  | .loopTrig _ => [.gloesk]
  | .loopLdc _ => [.gloesk]
  | .loopSkp _ => [.gloesk]
  | .loopOut _ => [.gloesk]
  | .loopWr _ => [.gloesk]
  | .frd _ => [.gloesk]
  | .frdi _ => [.gloesk]
  | .fst _ => [.gloesk]
  | .trc _ => [.gloesk]
  | .loopOpen _ => [.gloesk]
  | .loopClose _ => [.gloesk]
  | .coefWrite _ => [.gloesk]
  | .paramWrite _ _ => [.gloesk]
  | .lpeXdataWrite _ => [.gloesk]
  | .lpeXdata0Read _ => [.gloesk]
  | .flourishClr _ => [.gloesk]
  | .tapStart _ => [.gloesk]
  | .tapTrig _ => [.gloesk]
  | .tapEnable _ _ => [.gloesk]
  | .traceEntryDeadline _ => [.gloesk]
  | .rankComplete _ => [.gloesk]
  | .holdOut _ => [.gloesk]
  | .cellReturn _ => [.gloesk]
  | .rnkCxdata0Read _ => [.gloesk]
  | .rnkCxdata0Write _ => [.gloesk]
  | .wordFrameStart _ => [.gloesk]
  | .digest _ _ => [.gloesk]
  | .cellReport _ _ _ _ => [.stanak]
  | .reportFrameSend _ => [.stanak]
  | .echo _ _ _ _ _ => [.gloesk]
  | .wordFrame _ _ _ _ _ _ => [.stanak]
  | .strokeWord _ _ _ _ => [.ihloon]
  | .armingDeadline => [.ihloon]
  | .safeAction => [.ihloon]
  | .cellReportSend => [.ihloon]
  | .mgmtReadRequest _ _ _ _ _ => [.ihloon]
  | .mgmtWriteRequest _ _ _ _ _ _ _ => [.gloesk, .ihloon]
  | .mgmtReadResponse engine _ _ _ _ => [if engine.isSome then .gloesk else .stanak]
  | .mgmtWriteAck _ _ _ => [.stanak]
  | .mgmtError engine _ _ _ _ _ => [if engine.isSome then .gloesk else .stanak]
  | .imageBlock _ _ _ _ _ _ => [.ihloon]
  | .hubMgmtRequest _ _ _ _ _ _ _ _ _ => [.stanak]
  | .cellMgmtTimeout _ => [.stanak]
  | .clrSafe => [.ihloon]
  | .stkStart => [.gloesk]
  | .stkStop => [.gloesk]
  | .nibDisable _ => [.ihloon]
  | .nibEnable => [.ihloon]
  | .nibEdge => [.ihloon]
  | .trip _ _ => [.ihloon]
  | .blankingEnd _ _ => [.ihloon]
  | .latchClear _ => [.ihloon]
  | .ilockClear => [.ihloon]
  | .overvoltage _ => [.ihloon]
  | .ovpRelease => [.ihloon]
  | .linkSilence _ => [.ihloon]
  | .freeze _ _ => [.ihloon]
  | .freezeResume => [.ihloon]
  | .interlock _ => [.ihloon]
  | .bypassPulseEnd => [.ihloon]
  | .rearm => [.ihloon]
  | .signedSettingsApply => [.ihloon]
  | .coreReset _ => [.ihloon]
  | .timerPulseEnd _ => [.ihloon]
  | .oscCheck _ => [.ihloon]
  | .tripInputRelease _ => [.ihloon]
  | .aqSlot cell _ => [if cell then .ihloon else .gloesk]
  | .aqResult cell => [if cell then .ihloon else .gloesk]
  | .urgentRequest cell _ _ => [if cell then .ihloon else .gloesk]
  | .urgentResult cell => [if cell then .ihloon else .gloesk]
  | .aqEnable cell _ => [if cell then .ihloon else .gloesk]
  | .sliceCalibrated cell _ => [if cell then .ihloon else .gloesk]
  | .driftClear cell _ => [if cell then .ihloon else .gloesk]
  | .refSelect cell => [if cell then .ihloon else .gloesk]
  | .xoff cell => [if cell then .ihloon else .gloesk]
  | .aqRes0Read cell _ => [if cell then .ihloon else .gloesk]
  | .aqUres0Read cell _ => [if cell then .ihloon else .gloesk]
  | .arbiterStart _ _ => [.gloesk]
  | .arbiterTimeout _ => [.gloesk]
  | .arbiterHoldOut _ => [.gloesk]
  | .holdupConversion _ _ => [.ihloon]
  | .ledgerPlan _ => [.ihloon]
  | .brownOut _ _ => [.ihloon]
  | .vddIoLoss => [.ihloon]
  | .islandResetRelease => [.ihloon]
  | .mainResetRelease _ => [.ihloon]
  | .lfrClear => [.ihloon]
  | .lfrf0Read _ _ => [.ihloon]
  | .fwErase => [.ihloon]
  | .eraseComplete => [.ihloon]
  | .fwVerify => [.ihloon]
  | .fwActivate _ => [.ihloon]
  | .fwConfirm => [.ihloon]
  | .trialTimeout _ => [.ihloon]
  | .secureBootDone _ => [.ihloon]
  | .fwVerifyDone _ => [.ihloon]
  | .qAdd u _ _ _ _ => u.part
  | .qSub u _ _ _ _ => u.part
  | .qAddc u _ _ _ _ => u.part
  | .qSubc u _ _ _ _ => u.part
  | .qAnd u _ _ _ _ => u.part
  | .qOr u _ _ _ _ => u.part
  | .qXor u _ _ _ _ => u.part
  | .qShl u _ _ _ _ => u.part
  | .qShr u _ _ _ _ => u.part
  | .qSha u _ _ _ _ => u.part
  | .qShli u _ _ _ _ => u.part
  | .qShri u _ _ _ _ => u.part
  | .qShai u _ _ _ _ => u.part
  | .qSlt u _ _ _ _ => u.part
  | .qSltu u _ _ _ _ => u.part
  | .qMin u _ _ _ _ => u.part
  | .qMax u _ _ _ _ => u.part
  | .qMul u _ _ _ _ => u.part
  | .qMulh u _ _ _ _ => u.part
  | .qMulhu u _ _ _ _ => u.part
  | .qDiv u _ _ _ _ => u.part
  | .qDivu u _ _ _ _ => u.part
  | .qRem u _ _ _ _ => u.part
  | .qRemu u _ _ _ _ => u.part
  | .qAdds u _ _ _ _ => u.part
  | .qSubs u _ _ _ _ => u.part
  | .qAbss u _ _ _ => u.part
  | .qNegs u _ _ _ => u.part
  | .qAdds14 u _ _ _ _ => u.part
  | .qSubs14 u _ _ _ _ => u.part
  | .qMuls14 u _ _ _ _ => u.part
  | .qSat14 u _ _ _ => u.part
  | .qSats u _ _ _ _ => u.part
  | .qClz u _ _ _ => u.part
  | .qAddi u _ _ _ _ => u.part
  | .qAndi u _ _ _ _ => u.part
  | .qOri u _ _ _ _ => u.part
  | .qXori u _ _ _ _ => u.part
  | .qLui u _ _ _ => u.part
  | .qSlti u _ _ _ _ => u.part
  | .qLdw u _ _ _ _ _ => u.part
  | .qLdh u _ _ _ _ _ => u.part
  | .qLdhu u _ _ _ _ _ => u.part
  | .qLdb u _ _ _ _ _ => u.part
  | .qLdbu u _ _ _ _ _ => u.part
  | .qStw u _ _ _ _ _ => u.part
  | .qSth u _ _ _ _ _ => u.part
  | .qStb u _ _ _ _ _ => u.part
  | .qBeq u _ _ _ _ => u.part
  | .qBne u _ _ _ _ => u.part
  | .qBlt u _ _ _ _ => u.part
  | .qBge u _ _ _ _ => u.part
  | .qBltu u _ _ _ _ => u.part
  | .qBgeu u _ _ _ _ => u.part
  | .qBfl u _ _ _ => u.part
  | .qJal u _ _ _ => u.part
  | .qJalr u _ _ _ _ => u.part
  | .qMacz u _ _ _ _ => u.part
  | .qMac u _ _ _ _ => u.part
  | .qMsu u _ _ _ _ => u.part
  | .qMacv u _ _ _ _ => u.part
  | .qAccw u _ _ _ _ => u.part
  | .qAccadd u _ _ _ _ => u.part
  | .qAccrr u _ _ _ _ => u.part
  | .qAccrd u _ _ _ _ => u.part
  | .qAccr14 u _ _ _ _ => u.part
  | .qAcclo u _ _ _ => u.part
  | .qAcchi u _ _ _ => u.part
  | .qVadd u _ _ _ _ => u.part
  | .qVsub u _ _ _ _ => u.part
  | .qVmul u _ _ _ _ => u.part
  | .qVmin u _ _ _ _ => u.part
  | .qVmax u _ _ _ _ => u.part
  | .qVabs u _ _ _ => u.part
  | .qVneg u _ _ _ => u.part
  | .qVpack u _ _ _ _ => u.part
  | .qVsum u _ _ _ => u.part
  | .qVdot u _ _ _ _ => u.part
  | .qCsrr u _ _ _ => u.part
  | .qCsrw u _ _ _ => u.part
  | .qCsrs u _ _ _ _ => u.part
  | .qCsrc u _ _ _ _ => u.part
  | .qWaits u _ _ _ _ _ => u.part
  | .qWaita u _ _ _ _ _ => u.part
  | .qPost u _ _ _ => u.part
  | .qLock u _ _ _ _ => u.part
  | .qTrylk u _ _ _ => u.part
  | .qUnlock u _ _ => u.part
  | .qYield u _ _ => u.part
  | .qExit u _ => u.part
  | .qFence u _ => u.part
  | .qTrap u _ _ => u.part
  | .qBrk u _ => u.part
  | .qXret u _ => u.part
  | .qMvin u _ _ _ _ _ => u.part
  | .qMvout u _ _ _ _ _ => u.part
  | .qMvwait u _ _ _ => u.part
  | .qInklw u _ _ _ _ => u.part
  | .qInksw u _ _ _ => u.part
  | .moveComplete _ _ _ _ => [.gloesk]
  | .quillSInterrupt _ => [.ihloon]
  | .lockstepMismatch _ => [.gloesk]
  | .debugHalt u _ => u.part
  | .debugResume u => u.part
  | .debugStep u _ => u.part
  | .qdbgAccRead _ _ => [.gloesk]
  | .taskPostCmd _ => [.gloesk]
  | .taskKill _ => [.gloesk]
  | .taskDisable _ => [.gloesk]
  | .taskEnable _ => [.gloesk]
  | .preemption _ _ => [.gloesk]
  | .budgetExceeded _ => [.gloesk]
  | .lockWaitTimeout _ => [.gloesk]
  | .coreEnableWrite _ => [.gloesk]
  | .coreReturn _ => [.gloesk]
  | .selfTestComplete _ _ => [.gloesk]
  | .scrubStep _ _ => [.gloesk]
  | .spareReq _ => [.gloesk]
  | .spareCopyComplete => [.gloesk]
  | .layoutLock => [.gloesk]
  | .resizeQueue _ _ => [.gloesk]
  | .rinv _ _ => [.gloesk]
  | .heartbeatSend => [.gloesk]
  | .heart _ _ _ _ _ _ => [.gloesk]
  | .hubHeartRelay _ _ => [.stanak]
  | .handoverCmd => [.gloesk]
  | .handoverDeadline _ => [.gloesk]
  | .drill => [.gloesk]
  | .revert => [.gloesk]
  | .joinRequest _ => [.gloesk]
  | .stateFrame _ => [.gloesk]
  | .joinTimeout => [.gloesk]
  | .bundleCommit _ _ => [.gloesk]
  | .causeRise p _ _ => [p]
  | .causeFall p _ _ => [p]
  | .eventCauseExpiry p _ => [p]
  | .persistenceMet _ => [.gloesk]
  | .actionNotice _ => [.gloesk]
  | .alertPulseEnd _ => [.gloesk]
  | .alertRel _ => [.gloesk]
  | .alertPinFault _ => [.gloesk]
  | .bltRelWrite _ _ => [.gloesk]
  | .bltCrel _ => [.gloesk]
  | .sourceClear p _ => [p]
  | .sourceForce p _ _ => [p]
  | .hubBlotterRead _ _ => [.stanak]
  | .blotterReadRetry _ => [.stanak]
  | .blotterBlock _ => [.gloesk]
  | .changedBitmapRead cell _ => [if cell then .ihloon else .stanak]
  | .logPop => [.gloesk]
  | .log0Read _ => [.gloesk]
  | .sourceFirstRead _ _ _ => [.gloesk]
  | .cbdataRead _ => [.gloesk]
  | .incidentClear => [.gloesk]
  | .folioArm _ => [.gloesk]
  | .folioTrig _ => [.gloesk]
  | .folioFree _ => [.gloesk]
  | .folioAbort _ => [.gloesk]
  | .triginEdge _ _ _ => [.gloesk]
  | .finalisationComplete _ => [.gloesk]
  | .streamUnit => [.gloesk]
  | .srrptrWrite _ => [.gloesk]
  | .folTts0Read _ _ => [.gloesk]
  | .txSettleDone e => e.part
  | .trainEnd e => e.part
  | .signalDetect e => e.part
  | .cdrLock e => e.part
  | .pilotLock e _ => e.part
  | .laneUp e _ _ => e.part
  | .codeword e _ _ => e.part
  | .lossOfSignal e => e.part
  | .signalReturn e => e.part
  | .holdTimeout e => e.part
  | .fomRefresh e _ _ => e.part
  | .calRequest _ => [.gloesk]
  | .calWindowStart e => e.part
  | .calWindowEnd e => e.part
  | .hubCalPoll _ _ _ => [.gloesk]
  | .hubCalGrant _ => [.stanak]
  | .ucwSecond _ => [.gloesk]
  | .cellLinkUp e _ => e.part
  | .cellLinkDown e _ _ _ _ => e.part
  | .ihloonTxWindow => [.ihloon]
  | .ihloonTxWindowEnd => [.ihloon]
  | .synthesiserDrift e => e.part
  | .attestChallenge p _ _ => [p]
  | .attestEvidence hub _ _ _ _ => [if hub then .stanak else .gloesk]
  | .attestRetry hub _ => [if hub then .stanak else .gloesk]
  | .evidenceRecord _ _ _ _ _ => [.gloesk]
  | .bundleLoad _ _ _ _ _ _ => [.gloesk]
  | .loadComplete => [.gloesk]
  | .provisioningWrite p _ => [p]
  | .epochTimer hub => [if hub then .stanak else .gloesk]
  | .debugToken p _ _ _ => [p]
  | .debugClose p => [p]
  | .debugExpiry p => [p]
  | .dbgchalRead p _ => [p]
  | .posdataRead _ => [.gloesk]
  | .entropyFailure p => [p]
  | .endpointReset _ => [.gloesk]
  | .pcieLinkDown => [.gloesk]
  | .registerWrite _ _ _ _ => [.gloesk]
  | .hubWindowRead _ _ _ _ => [.gloesk]
  | .hubWindowWrite _ _ _ _ => [.gloesk]
  | .hubWindowResponse _ _ _ _ _ _ => [.gloesk]
  | .hubWindowTimeout _ => [.gloesk]
  | .herrClear => [.gloesk]
  | .dataPortWrite _ _ => [.gloesk]
  | .dataPortRead _ _ _ => [.gloesk]
  | .dataPortAdv => [.gloesk]
  | .dataPortTimeout _ _ _ => [.gloesk]
  | .dpstatRead _ => [.gloesk]
  | .doorbell _ => [.gloesk]
  | .msixUnmask _ => [.gloesk]
  | .pcieLinkUp _ _ => [.gloesk]
  | .registerReadClear _ _ _ => [.gloesk]
  | .partReset _ => [.gloesk]
  | .reboot => [.gloesk]
  | .bootRelease => [.gloesk]
  | .imageVerified _ _ _ => [.gloesk]
  | .railFault hub _ => [if hub then .stanak else .gloesk]
  | .refclkFault => [.gloesk]
  | .plannerTick _ _ _ => [.gloesk]
  | .shedStep _ => [.gloesk]
  | .thermalSample hub _ _ => [if hub then .stanak else .gloesk]
  | .thermalTrip => [.gloesk]
  | .qgateWrite _ => [.gloesk]
  | .dxdataRead _ => [.gloesk]
  | .flashCommand _ _ _ _ => [.gloesk]
  | .flashCommandDone _ => [.gloesk]
  | .hubReset => [.stanak]
  | .imageFrame _ _ _ _ _ _ => [.stanak]
  | .hubImageVerify _ => [.stanak]
  | .hubFailWait => [.stanak]
  | .cellLoadQueue _ => [.gloesk]
  | .hubRestart => [.stanak]

/-- Commands to the Gloesk that do nothing while its blocks are held in reset: all but those of HST, PWR and the boot
(R456, R465, R468). -/
def Instr.waitsForBlocks : Instr → Bool
  | .strokeBoundary _ => true
  | .fabricClock => true
  | .sync _ _ _ _ _ _ _ => true
  | .followUp _ _ _ _ => true
  | .announce _ _ _ => true
  | .pdelayReq _ _ _ _ => true
  | .pdelayResp _ _ _ _ _ => true
  | .ptpDiscard _ => true
  | .transparentForward _ _ _ _ _ => true
  | .syncTimeout => true
  | .holdspecExpiry => true
  | .masterSyncTransmit _ => true
  | .announceTransmit _ => true
  | .stepReq => true
  | .ptpPeriodWrite _ => true
  | .ptpRateWrite _ => true
  | .ptpTime0Read _ => true
  | .ptpStroke0Read _ => true
  | .twinTimeExchange _ _ _ _ _ => true
  | .timeMarker _ _ _ => true
  | .timeFrameReceived _ _ _ _ _ _ _ _ _ _ => true
  | .timeMessage _ _ _ _ _ _ _ _ _ _ => true
  | .pdelayReqTransmit _ _ => true
  | .rulAngleWrite _ => true
  | .rulAngleRead _ => true
  | .rulEncPosRead _ _ => true
  | .recordCommit _ _ => true
  | .recordCancel _ => true
  | .recordReceived _ _ _ _ => true
  | .segmentArm => true
  | .segmentAbort => true
  | .gearArm => true
  | .gearCancel => true
  | .encoderCount _ _ _ _ => true
  | .encoderIndex _ _ _ => true
  | .idxZero _ => true
  | .encoderModeWrite _ _ => true
  | .svFrame _ _ => true
  | .gooseFrame _ _ => true
  | .pbOtherFrame _ _ _ _ _ _ => true
  | .supervisionFrameSend _ => true
  | .duplicateForget _ => true
  | .portLinkDown _ => true
  | .portLinkUp _ _ => true
  | .xfeed _ _ _ _ => true
  | .reportFrame _ _ _ _ _ _ _ _ _ => true
  | .keysumSend _ => true
  | .keysum _ _ => true
  | .keyAgreement _ _ _ => true
  | .svCutoff _ => true
  | .svFreeze _ => true
  | .svsum _ _ => true
  | .insumSend _ => true
  | .insum _ _ => true
  | .crcsum _ _ => true
  | .inputAgreement _ _ _ _ _ => true
  | .gooseStale _ => true
  | .gooseTrig _ => true
  | .gooseRepeat _ => true
  | .loopTierBarrier => true
  | .loopWriteback _ => true
  | .loopNop _ => true
  | .loopMov _ => true
  | .loopAdd _ => true
  | .loopSub _ => true
  | .loopMulc _ => true
  | .loopMulv _ => true
  | .loopMac0 _ => true
  | .loopMac _ => true
  | .loopInt _ => true
  | .loopMax _ => true
  | .loopMin _ => true
  | .loopLim _ => true
  | .loopAbs _ => true
  | .loopNeg _ => true
  | .loopAsh _ => true
  | .loopTrig _ => true
  | .loopLdc _ => true
  | .loopSkp _ => true
  | .loopOut _ => true
  | .loopWr _ => true
  | .frd _ => true
  | .frdi _ => true
  | .fst _ => true
  | .trc _ => true
  | .loopOpen _ => true
  | .loopClose _ => true
  | .coefWrite _ => true
  | .paramWrite _ _ => true
  | .lpeXdataWrite _ => true
  | .lpeXdata0Read _ => true
  | .flourishClr _ => true
  | .tapStart _ => true
  | .tapTrig _ => true
  | .tapEnable _ _ => true
  | .traceEntryDeadline _ => true
  | .rankComplete _ => true
  | .holdOut _ => true
  | .cellReturn _ => true
  | .rnkCxdata0Read _ => true
  | .rnkCxdata0Write _ => true
  | .wordFrameStart _ => true
  | .digest _ _ => true
  | .cellReport _ _ _ _ => true
  | .reportFrameSend _ => true
  | .echo _ _ _ _ _ => true
  | .wordFrame _ _ _ _ _ _ => true
  | .strokeWord _ _ _ _ => true
  | .armingDeadline => true
  | .safeAction => true
  | .cellReportSend => true
  | .mgmtReadRequest _ _ _ _ _ => true
  | .mgmtWriteRequest _ _ _ _ _ _ _ => true
  | .mgmtReadResponse _ _ _ _ _ => true
  | .mgmtWriteAck _ _ _ => true
  | .mgmtError _ _ _ _ _ _ => true
  | .imageBlock _ _ _ _ _ _ => true
  | .hubMgmtRequest _ _ _ _ _ _ _ _ _ => true
  | .cellMgmtTimeout _ => true
  | .clrSafe => true
  | .stkStart => true
  | .stkStop => true
  | .nibDisable _ => true
  | .nibEnable => true
  | .nibEdge => true
  | .trip _ _ => true
  | .blankingEnd _ _ => true
  | .latchClear _ => true
  | .ilockClear => true
  | .overvoltage _ => true
  | .ovpRelease => true
  | .linkSilence _ => true
  | .freeze _ _ => true
  | .freezeResume => true
  | .interlock _ => true
  | .bypassPulseEnd => true
  | .rearm => true
  | .signedSettingsApply => true
  | .coreReset _ => true
  | .timerPulseEnd _ => true
  | .oscCheck _ => true
  | .tripInputRelease _ => true
  | .aqSlot _ _ => true
  | .aqResult _ => true
  | .urgentRequest _ _ _ => true
  | .urgentResult _ => true
  | .aqEnable _ _ => true
  | .sliceCalibrated _ _ => true
  | .driftClear _ _ => true
  | .refSelect _ => true
  | .xoff _ => true
  | .aqRes0Read _ _ => true
  | .aqUres0Read _ _ => true
  | .arbiterStart _ _ => true
  | .arbiterTimeout _ => true
  | .arbiterHoldOut _ => true
  | .holdupConversion _ _ => true
  | .ledgerPlan _ => true
  | .brownOut _ _ => true
  | .vddIoLoss => true
  | .islandResetRelease => true
  | .mainResetRelease _ => true
  | .lfrClear => true
  | .lfrf0Read _ _ => true
  | .fwErase => true
  | .eraseComplete => true
  | .fwVerify => true
  | .fwActivate _ => true
  | .fwConfirm => true
  | .trialTimeout _ => true
  | .secureBootDone _ => true
  | .fwVerifyDone _ => true
  | .qAdd _ _ _ _ _ => true
  | .qSub _ _ _ _ _ => true
  | .qAddc _ _ _ _ _ => true
  | .qSubc _ _ _ _ _ => true
  | .qAnd _ _ _ _ _ => true
  | .qOr _ _ _ _ _ => true
  | .qXor _ _ _ _ _ => true
  | .qShl _ _ _ _ _ => true
  | .qShr _ _ _ _ _ => true
  | .qSha _ _ _ _ _ => true
  | .qShli _ _ _ _ _ => true
  | .qShri _ _ _ _ _ => true
  | .qShai _ _ _ _ _ => true
  | .qSlt _ _ _ _ _ => true
  | .qSltu _ _ _ _ _ => true
  | .qMin _ _ _ _ _ => true
  | .qMax _ _ _ _ _ => true
  | .qMul _ _ _ _ _ => true
  | .qMulh _ _ _ _ _ => true
  | .qMulhu _ _ _ _ _ => true
  | .qDiv _ _ _ _ _ => true
  | .qDivu _ _ _ _ _ => true
  | .qRem _ _ _ _ _ => true
  | .qRemu _ _ _ _ _ => true
  | .qAdds _ _ _ _ _ => true
  | .qSubs _ _ _ _ _ => true
  | .qAbss _ _ _ _ => true
  | .qNegs _ _ _ _ => true
  | .qAdds14 _ _ _ _ _ => true
  | .qSubs14 _ _ _ _ _ => true
  | .qMuls14 _ _ _ _ _ => true
  | .qSat14 _ _ _ _ => true
  | .qSats _ _ _ _ _ => true
  | .qClz _ _ _ _ => true
  | .qAddi _ _ _ _ _ => true
  | .qAndi _ _ _ _ _ => true
  | .qOri _ _ _ _ _ => true
  | .qXori _ _ _ _ _ => true
  | .qLui _ _ _ _ => true
  | .qSlti _ _ _ _ _ => true
  | .qLdw _ _ _ _ _ _ => true
  | .qLdh _ _ _ _ _ _ => true
  | .qLdhu _ _ _ _ _ _ => true
  | .qLdb _ _ _ _ _ _ => true
  | .qLdbu _ _ _ _ _ _ => true
  | .qStw _ _ _ _ _ _ => true
  | .qSth _ _ _ _ _ _ => true
  | .qStb _ _ _ _ _ _ => true
  | .qBeq _ _ _ _ _ => true
  | .qBne _ _ _ _ _ => true
  | .qBlt _ _ _ _ _ => true
  | .qBge _ _ _ _ _ => true
  | .qBltu _ _ _ _ _ => true
  | .qBgeu _ _ _ _ _ => true
  | .qBfl _ _ _ _ => true
  | .qJal _ _ _ _ => true
  | .qJalr _ _ _ _ _ => true
  | .qMacz _ _ _ _ _ => true
  | .qMac _ _ _ _ _ => true
  | .qMsu _ _ _ _ _ => true
  | .qMacv _ _ _ _ _ => true
  | .qAccw _ _ _ _ _ => true
  | .qAccadd _ _ _ _ _ => true
  | .qAccrr _ _ _ _ _ => true
  | .qAccrd _ _ _ _ _ => true
  | .qAccr14 _ _ _ _ _ => true
  | .qAcclo _ _ _ _ => true
  | .qAcchi _ _ _ _ => true
  | .qVadd _ _ _ _ _ => true
  | .qVsub _ _ _ _ _ => true
  | .qVmul _ _ _ _ _ => true
  | .qVmin _ _ _ _ _ => true
  | .qVmax _ _ _ _ _ => true
  | .qVabs _ _ _ _ => true
  | .qVneg _ _ _ _ => true
  | .qVpack _ _ _ _ _ => true
  | .qVsum _ _ _ _ => true
  | .qVdot _ _ _ _ _ => true
  | .qCsrr _ _ _ _ => true
  | .qCsrw _ _ _ _ => true
  | .qCsrs _ _ _ _ _ => true
  | .qCsrc _ _ _ _ _ => true
  | .qWaits _ _ _ _ _ _ => true
  | .qWaita _ _ _ _ _ _ => true
  | .qPost _ _ _ _ => true
  | .qLock _ _ _ _ _ => true
  | .qTrylk _ _ _ _ => true
  | .qUnlock _ _ _ => true
  | .qYield _ _ _ => true
  | .qExit _ _ => true
  | .qFence _ _ => true
  | .qTrap _ _ _ => true
  | .qBrk _ _ => true
  | .qXret _ _ => true
  | .qMvin _ _ _ _ _ _ => true
  | .qMvout _ _ _ _ _ _ => true
  | .qMvwait _ _ _ _ => true
  | .qInklw _ _ _ _ _ => true
  | .qInksw _ _ _ _ => true
  | .moveComplete _ _ _ _ => true
  | .quillSInterrupt _ => true
  | .lockstepMismatch _ => true
  | .debugHalt _ _ => true
  | .debugResume _ => true
  | .debugStep _ _ => true
  | .qdbgAccRead _ _ => true
  | .taskPostCmd _ => true
  | .taskKill _ => true
  | .taskDisable _ => true
  | .taskEnable _ => true
  | .preemption _ _ => true
  | .budgetExceeded _ => true
  | .lockWaitTimeout _ => true
  | .coreEnableWrite _ => true
  | .coreReturn _ => true
  | .selfTestComplete _ _ => true
  | .scrubStep _ _ => true
  | .spareReq _ => true
  | .spareCopyComplete => true
  | .layoutLock => true
  | .resizeQueue _ _ => true
  | .rinv _ _ => true
  | .heartbeatSend => true
  | .heart _ _ _ _ _ _ => true
  | .hubHeartRelay _ _ => true
  | .handoverCmd => true
  | .handoverDeadline _ => true
  | .drill => true
  | .revert => true
  | .joinRequest _ => true
  | .stateFrame _ => true
  | .joinTimeout => true
  | .bundleCommit _ _ => true
  | .causeRise _ _ _ => true
  | .causeFall _ _ _ => true
  | .eventCauseExpiry _ _ => true
  | .persistenceMet _ => true
  | .actionNotice _ => true
  | .alertPulseEnd _ => true
  | .alertRel _ => true
  | .alertPinFault _ => true
  | .bltRelWrite _ _ => true
  | .bltCrel _ => true
  | .sourceClear _ _ => true
  | .sourceForce _ _ _ => true
  | .hubBlotterRead _ _ => true
  | .blotterReadRetry _ => true
  | .blotterBlock _ => true
  | .changedBitmapRead _ _ => true
  | .logPop => true
  | .log0Read _ => true
  | .sourceFirstRead _ _ _ => true
  | .cbdataRead _ => true
  | .incidentClear => true
  | .folioArm _ => true
  | .folioTrig _ => true
  | .folioFree _ => true
  | .folioAbort _ => true
  | .triginEdge _ _ _ => true
  | .finalisationComplete _ => true
  | .streamUnit => true
  | .srrptrWrite _ => true
  | .folTts0Read _ _ => true
  | .txSettleDone _ => true
  | .trainEnd _ => true
  | .signalDetect _ => true
  | .cdrLock _ => true
  | .pilotLock _ _ => true
  | .laneUp _ _ _ => true
  | .codeword _ _ _ => true
  | .lossOfSignal _ => true
  | .signalReturn _ => true
  | .holdTimeout _ => true
  | .fomRefresh _ _ _ => true
  | .calRequest _ => true
  | .calWindowStart _ => true
  | .calWindowEnd _ => true
  | .hubCalPoll _ _ _ => true
  | .hubCalGrant _ => true
  | .ucwSecond _ => true
  | .cellLinkUp _ _ => true
  | .cellLinkDown _ _ _ _ _ => true
  | .ihloonTxWindow => true
  | .ihloonTxWindowEnd => true
  | .synthesiserDrift _ => true
  | .attestChallenge _ _ _ => true
  | .attestEvidence _ _ _ _ _ => true
  | .attestRetry _ _ => true
  | .evidenceRecord _ _ _ _ _ => true
  | .bundleLoad _ _ _ _ _ _ => true
  | .loadComplete => true
  | .provisioningWrite _ _ => true
  | .epochTimer _ => true
  | .debugToken _ _ _ _ => true
  | .debugClose _ => true
  | .debugExpiry _ => true
  | .dbgchalRead _ _ => true
  | .posdataRead _ => true
  | .entropyFailure _ => true
  | .endpointReset _ => false
  | .pcieLinkDown => false
  | .registerWrite a _ _ _ => !(State.heldBlock a.toNat)
  | .hubWindowRead _ _ _ _ => true
  | .hubWindowWrite _ _ _ _ => true
  | .hubWindowResponse _ _ _ _ _ _ => true
  | .hubWindowTimeout _ => true
  | .herrClear => false
  | .dataPortWrite _ _ => true
  | .dataPortRead _ _ _ => true
  | .dataPortAdv => false
  | .dataPortTimeout _ _ _ => false
  | .dpstatRead _ => false
  | .doorbell _ => false
  | .msixUnmask _ => false
  | .pcieLinkUp _ _ => false
  | .registerReadClear _ _ _ => false
  | .partReset _ => false
  | .reboot => false
  | .bootRelease => false
  | .imageVerified _ _ _ => false
  | .railFault _ _ => false
  | .refclkFault => false
  | .plannerTick _ _ _ => false
  | .shedStep _ => false
  | .thermalSample _ _ _ => false
  | .thermalTrip => false
  | .qgateWrite _ => false
  | .dxdataRead _ => false
  | .flashCommand _ _ _ _ => false
  | .flashCommandDone _ => false
  | .hubReset => true
  | .imageFrame _ _ _ _ _ _ => true
  | .hubImageVerify _ => true
  | .hubFailWait => true
  | .cellLoadQueue _ => true
  | .hubRestart => true

end Sys2Proof

namespace Sys2Proof.Machine

/-- The outcome goes on: neither a fault nor a refusal. -/
def goesOn (o : Host.Outcome State Fault Refusal) : Prop := ∃ t, o = .next t

/-- No reported edge of a fault source and no compare hit of the Gloesk waits for another step (R290, R358). -/
def State.settled (s : State) : Prop := s.gk.edges = [] ∧ s.gk.hits = []

/-- Every command that waits is well-formed. -/
def State.queueOk (s : State) : Prop := ∀ c ∈ s.pending, c.wf = true

/-- The invariant of the queue and of what the Gloesk's steps leave behind. -/
def State.Inv (s : State) : Prop := s.settled ∧ s.queueOk

/-- `n` steps; a run ends at the first stop. -/
def run : Nat → State → Host.Outcome State Fault Refusal
  | 0, s => .next s
  | n + 1, s =>
    match step s with
    | .next t => run n t
    | o => o

/-- The state once a step of the Gloesk has made it `g`. -/
def State.gkNext (s : State) (g : Gloesk) : State := { s with gk := g.finish }

/-- The state once a step of the hub has made it `h`. -/
def State.skNext (s : State) (h : Stanak) : State := { s with sk := h }

/-- The state once a step of the cell has made it `c`. -/
def State.ihNext (s : State) (c : Ihloon) : State := { s with ih := c }

/-- Pair `q` runs, and the word at its pc is the legal instruction `w` (R265, R284). -/
def Gloesk.coreAt (g : Gloesk) (q w : Nat) : Prop :=
  g.quillRuns q = true ∧ (g.core q).pc + 4 ≤ 0x10000 ∧ (g.core q).fetchWord (g.core q).pc = w ∧ Enc.legal true w = true

/-- The Quill-S runs, and the word at its pc is the legal instruction `w` (R262, R265, R284). -/
def Ihloon.coreAt (c : Ihloon) (w : Nat) : Prop :=
  c.coreRuns = true ∧ c.fetched c.cell.core.pc = some w ∧ Enc.legal false w = true

/-- Where the word `w` is at the pc of a running core, the command acts on that core by `f`. -/
def RunsOnCore (s : State) (mk : CoreId → Instr) (w : Nat) (f : Core → Core) : Prop :=
  (s.gk.blocksRun = true → ∀ q : Fin 16, s.gk.coreAt q w →
    exec (mk (.q q)) s = .next (s.gkNext ((s.gk.onPair q f).onPair q (fun k => { k with stepping := false })))) ∧
  (s.ih.coreAt w → exec (mk .s) s = .next (s.ihNext ((s.ih.onCore f).onCore (fun k => { k with stepping := false }))))

/-- Loop lane `lane` is at a word with opcode `op` of slot `n` in the open window (R99, R102). -/
def Gloesk.laneAt (g : Gloesk) (lane : Nat) (win : LoopWindow) (ln : LaneState) (n op : Nat) : Prop :=
  g.lpe.window = some win ∧ nth LaneState.idle win.lanes lane = ln ∧ ln.slot = some n ∧
    bits (g.loopWordAt (g.rd F.LPE_SLOT_CFG0_START n + ln.pc)) 58 6 = op

end Sys2Proof.Machine
end

