-- ==== Sys2Proof/Certificates/Slice0/Obligations.lean ====
section
/-!
DEFINITION. The statements for the provers: the whole machine first, then registers and memory, then chapter by chapter what
its commands leave.
-/

open Sys2Proof Sys2Proof.Machine

/-! ## The whole machine -/

/-- A step runs the command at the front of the queue on the state with the rest of it. -/
def Obligations.StepRunsFront : Prop :=
  ∀ (c : Instr) (s : State), step { s with pending := c :: s.pending } = exec c s

/-- On an empty queue the block idles. The model's choice (log entry 17). -/
def Obligations.EmptyQueueIdles : Prop := ∀ s : State, s.pending = [] → step s = .next s

/-- Right after reset every register reads its reset value (R4), no command waits and nothing waits for another step; the
station map is empty and every cell unassigned (R13), and no reservation of sent things is left. -/
def Obligations.ResetLeavesResetValues : Prop :=
  State.reset.Inv ∧ State.reset.pending = [] ∧
  (∀ r i, State.reset.gk.reg r i = (r.reset i).toNat) ∧
  (∀ r i, State.reset.sk.reg r i = (r.reset i).toNat) ∧
  (∀ r i, State.reset.ih.reg r i = (r.reset i).toNat) ∧
  (∀ x, State.reset.gk.assigned x = false) ∧
  (∀ a, Memory.byte State.reset.gk.ink.mem a = Memory.blank) ∧
  State.reset.gk.sent = [] ∧ State.reset.sk.sent = [] ∧ State.reset.ih.sent = []

/-- Every step from every state keeps the invariant: the commands that wait stay well-formed, and a step of the Gloesk leaves
no reported edge and no compare hit behind. -/
def Obligations.StepKeepsInv : Prop := ∀ s t : State, s.Inv → step s = .next t → t.Inv

/-- Every queue drains: as many steps as commands wait, none of them a stop, leave it empty. -/
def Obligations.EveryQueueDrains : Prop := ∀ s : State, ∃ t, run s.pending.length s = .next t ∧ t.pending = []

/-- A command leaves the queue alone, and every part that is not named by its site. -/
def Obligations.CommandsStayOnTheirParts : Prop :=
  ∀ (c : Instr) (s : State), ∃ t, exec c s = .next t ∧ t.pending = s.pending ∧
    (Part.gloesk ∉ c.site → t.gk = s.gk) ∧ (Part.stanak ∉ c.site → t.sk = s.sk) ∧ (Part.ihloon ∉ c.site → t.ih = s.ih)

/-- A run changes no part that none of its commands names: from every state, however long the queue. -/
def Obligations.RunsStayOnTheirParts : Prop :=
  ∀ (n : Nat) (s t : State), run n s = .next t →
    ((∀ c ∈ s.pending, Part.gloesk ∉ c.site) → t.gk = s.gk) ∧
    ((∀ c ∈ s.pending, Part.stanak ∉ c.site) → t.sk = s.sk) ∧
    ((∀ c ∈ s.pending, Part.ihloon ∉ c.site) → t.ih = s.ih)

/-- What a command makes of the hub depends on the hub and, outside it, on the stroke period, the limits of failed tags and
sections and the asymmetry of its lane alone: two states that agree on these agree on the hub afterwards. -/
def Obligations.HubSeesOnlyItsOwn : Prop :=
  ∀ (c : Instr) (s s' t t' : State), s.sk = s'.sk → s.period = s'.period → s.tagLimit = s'.tagLimit →
    s.gk.rd F.SEC_LIM_GCMF = s'.gk.rd F.SEC_LIM_GCMF → s.gk.laneAsym s.sk.lane = s'.gk.laneAsym s.sk.lane →
    exec c s = .next t → exec c s' = .next t' → t.sk = t'.sk

/-- While its blocks are held in reset, the Gloesk takes no command that waits for them (R456, R465, R468). -/
def Obligations.HeldBlocksDoNothing : Prop :=
  ∀ (c : Instr) (s : State), c.waitsForBlocks = true → s.gk.blocksRun = false → ∃ t, exec c s = .next t ∧ t.gk = s.gk

/-- What follows every step of the Gloesk (the Blotter takes the edges, Ductus dispatches, the shed level shows) leaves the
part number, latches, station map, time, Ruling, measured values, staged records, dispatch, Loop Engine, Flourish, Rank
Engine, acquisition, arbiters, keys and power alone, of the lanes all but the frames that a hand-over's record sends, and no
edge and no hit behind. -/
def Obligations.FinishLeavesTheEngines : Prop :=
  ∀ g : Gloesk, g.finish.variant = g.variant ∧ g.finish.latches = g.latches ∧ g.finish.map = g.map ∧
    g.finish.time = g.time ∧ g.finish.rul = g.rul ∧ g.finish.svi = g.svi ∧ g.finish.staged = g.staged ∧
    g.finish.disp = g.disp ∧ g.finish.lpe = g.lpe ∧ g.finish.flr = g.flr ∧ g.finish.rank = g.rank ∧
    { g.finish.lan with fseq := g.lan.fseq, turn := g.lan.turn, waiting := g.lan.waiting } = g.lan ∧ g.finish.aq = g.aq ∧ g.finish.arb = g.arb ∧ g.finish.trust = g.trust ∧
    g.finish.pos = g.pos ∧ g.finish.pwr = g.pwr ∧ g.finish.edges = [] ∧ g.finish.hits = []

/-! ## Registers and memory -/

/-- A field reads back the low bits of the value written; fields of other registers, and fields of the same register at other
bits, keep theirs; a counter that saturates holds its maximum. Every field of the three register maps lies in its word. -/
def Obligations.FieldsReadBack : Prop :=
  (∀ (rf : RegFile) (f : Fld) (v i : Nat), f.lo + f.wid ≤ 32 →
    (rf.setFld f v i).fld f i = v % 2 ^ f.wid ∧
    (rf.addSat f v i).fld f i = min (rf.fld f i + v) (2 ^ f.wid - 1) ∧
    (∀ (e : Fld) (j : Nat), e.reg.at j ≠ f.reg.at i → (rf.setFld f v i).fld e j = rf.fld e j) ∧
    (∀ e : Fld, e.reg = f.reg → e.lo + e.wid ≤ 32 → (e.lo + e.wid ≤ f.lo ∨ f.lo + f.wid ≤ e.lo) →
      (rf.setFld f v i).fld e i = rf.fld e i)) ∧
  (∀ f ∈ FieldList.gloesk ++ FieldList.stanak ++ FieldList.ihloon, f.lo + f.wid ≤ 32)

/-- Memory reads back what is written, little-endian (R259), keeps every other byte, and keeps its canonical form under every
operation. -/
def Obligations.MemoryReadsBack : Prop :=
  ∀ (m : Tab Byte) (a n v : Nat),
    Memory.read (Memory.write m a n v) a n = v % 256 ^ n ∧
    (∀ i, i < n → Memory.byte (Memory.write m a n v) (a + i) = BitVec.ofNat 8 (v / 256 ^ i)) ∧
    (∀ c, c < a ∨ a + n ≤ c → Memory.byte (Memory.write m a n v) c = Memory.byte m c) ∧
    (Memory.wf m = true → Memory.wf (Memory.write m a n v) = true) ∧
    (∀ src b, Memory.wf m = true → Memory.wf (Memory.copy src b m a n) = true)

/-! ## The commands of each chapter complete -/

/-- Station time and the PTP servo (R26-R46): each command completes, by its own operation on the part it names. -/
def Obligations.TimeCommandsComplete : Prop :=
  ∀ s : State,
    (s.gk.blocksRun = true →
      (exec (.strokeBoundary .gloesk) s = .next (s.gkNext s.gk.strokeBoundary)) ∧
      (exec .fabricClock s = .next (s.gkNext (s.gk.fabricClock))) ∧
      (∀ port twoStep seq stamp origin corr negLog, exec (.sync port twoStep seq stamp origin corr negLog) s = .next
        (s.gkNext ((s.gk.ptpIn port).sync port twoStep seq stamp origin corr negLog))) ∧
      (∀ port seq origin corr, exec (.followUp port seq origin corr) s = .next (s.gkNext ((s.gk.ptpIn port).followUp port seq
        origin corr))) ∧
      (∀ port a utc, exec (.announce port a utc) s = .next (s.gkNext ((s.gk.ptpIn port).announce port a utc))) ∧
      (∀ port seq rx tx, exec (.pdelayReq port seq rx tx) s = .next (s.gkNext ((s.gk.ptpIn port).pdelayReq port seq rx tx))) ∧
      (∀ port seq kind rx turn, exec (.pdelayResp port seq kind rx turn) s = .next (s.gkNext ((s.gk.ptpIn port).pdelayResp
        port seq kind rx turn))) ∧
      (∀ kind, exec (.ptpDiscard kind) s = .next (s.gkNext (s.gk.ptpDiscard kind))) ∧
      (∀ port isSync rx tx corr, exec (.transparentForward port isSync rx tx corr) s = .next (s.gkNext
        (s.gk.transparentForward port isSync rx tx corr))) ∧
      (exec .syncTimeout s = .next (s.gkNext (s.gk.syncTimeout))) ∧
      (exec .holdspecExpiry s = .next (s.gkNext (s.gk.holdspecExpiry))) ∧
      (∀ port, exec (.masterSyncTransmit port) s = .next (s.gkNext (s.gk.masterSync port))) ∧
      (∀ port, exec (.announceTransmit port) s = .next (s.gkNext (s.gk.announceTransmit port))) ∧
      (exec .stepReq s = .next (s.gkNext (s.gk.stepReq))) ∧
      (∀ v, exec (.ptpPeriodWrite v) s = .next (s.gkNext (s.gk.periodWrite v.toNat))) ∧
      (∀ v, exec (.ptpRateWrite v) s = .next (s.gkNext (s.gk.rateWrite v.toNat))) ∧
      (∀ who, exec (.ptpTime0Read who) s = .next (s.gkNext (s.gk.time0Read who))) ∧
      (∀ who, exec (.ptpStroke0Read who) s = .next (s.gkNext (s.gk.stroke0Read who))) ∧
      (∀ (t1 t2 t3 t4 freq : Int), (s.gk.linkOpen 64 = true → exec (.twinTimeExchange t1 t2 t3 t4 freq) s = .next (s.gkNext
        (s.gk.twinTimeExchange t1 t2 t3 t4 freq))) ∧ (s.gk.linkOpen 64 = false → exec (.twinTimeExchange t1 t2 t3 t4 freq) s
        = .next (s.gkNext s.gk))) ∧
      (∀ link t1, exec (.timeMarker .gloesk link t1) s = .next (s.gkNext (s.gk.timeMarker link))) ∧
      (∀ (lane : Fin 65) (twin : Fin 2) (claim : Fin 65536) (reply : Bool) (seq : Fin 256) (t1 t2 t3 t4 : Int),
        (s.gk.linkOpen lane = true → exec (.timeFrameReceived .gloesk lane twin claim reply seq t1 t2 t3 t4) s = .next
        (s.gkNext (s.gk.timeFrame lane twin claim reply seq t2 t3))) ∧ (s.gk.linkOpen lane = false → exec (.timeFrameReceived
        .gloesk lane twin claim reply seq t1 t2 t3 t4) s = .next (s.gkNext s.gk))) ∧
      (∀ port tx, exec (.pdelayReqTransmit port tx) s = .next (s.gkNext (s.gk.pdelayReqTransmit port tx)))) ∧
    (exec (.strokeBoundary .stanak) s = .next (s.skNext (s.sk.strokeBoundary s.period))) ∧
    (exec (.strokeBoundary .ihloon) s = .next (s.ihNext (s.ih.strokeBoundary s.period))) ∧
    (∀ link t1, exec (.timeMarker .stanak link t1) s = .next (s.skNext (s.sk.timeMarker link t1))) ∧
    (∀ (lane : Fin 65) (twin : Fin 2) (claim : Fin 65536) (reply : Bool) (seq : Fin 256) (t1 t2 t3 t4 : Int), lane.val < 2 →
      (s.sk.linkOpen lane = true → exec (.timeFrameReceived .stanak lane twin claim reply seq t1 t2 t3 t4) s = .next
      (s.skNext (s.sk.timeFrame lane reply seq t1 t2 t3 t4 (s.gk.laneAsym s.sk.lane)))) ∧ (s.sk.linkOpen lane = false → exec
      (.timeFrameReceived .stanak lane twin claim reply seq t1 t2 t3 t4) s = .next s)) ∧
    (∀ (link : Fin 192) (m : LinkMsg) reply seq t1 t2 t3 t4 hubLocked, s.sk.populated link = true → s.sk.linkOpen (2 + link)
      = true → (m.recent s.sk.stroke = true → exec (.timeMessage .stanak link m reply seq t1 t2 t3 t4 hubLocked) s = .next s)
      ∧ (m.recent s.sk.stroke = false → exec (.timeMessage .stanak link m reply seq t1 t2 t3 t4 hubLocked) s = .next
      (s.skNext (s.sk.inc F.HLNK_LK_CNT1_MDISC link)))) ∧
    (∀ (link : Fin 192) m reply seq t1 t2 t3 t4 hubLocked, link.val < 2 → exec (.timeMessage .ihloon link m reply seq t1 t2
      t3 t4 hubLocked) s = .next (s.ihNext (s.ih.timeMessage link m reply seq t1 t2 t3 t4 (s.gk.portAsym (Gloesk.laneOf
      (s.ih.addr / 256) link) (s.ih.addr % 256)) hubLocked)))

/-- The Ruling, its records and the shaft encoders (R47-R71): each command completes, by its own operation on the Gloesk. -/
def Obligations.RulingCommandsComplete : Prop :=
  ∀ s : State, s.gk.blocksRun = true →
    (∀ v, exec (.rulAngleWrite v) s = .next (s.gkNext (s.gk.angleWrite v.toNat))) ∧
    (∀ who, exec (.rulAngleRead who) s = .next (s.gkNext (s.gk.angleRead who))) ∧
    (∀ who n, exec (.rulEncPosRead who n) s = .next (s.gkNext (s.gk.encPosRead who n))) ∧
    (∀ b lo, exec (.recordCommit b lo) s = .next (s.gkNext (s.gk.recordCommit b lo.toNat))) ∧
    (∀ b, exec (.recordCancel b) s = .next (s.gkNext (s.gk.recordCancel b))) ∧
    (∀ (b : Blk) (target : Nat) (writes : List (Nat × Nat)) (verdict : Bool), (s.gk.linkOpen 64 = true → exec
      (.recordReceived b target writes verdict) s = .next (s.gkNext (s.gk.recordReceived b target writes verdict))) ∧
      (s.gk.linkOpen 64 = false → exec (.recordReceived b target writes verdict) s = .next (s.gkNext s.gk))) ∧
    (exec .segmentArm s = .next (s.gkNext (s.gk.stagedWrite .rul R.RUL_SEG_CTRL.addr (2 ^ 9 + s.gk.reg R.RUL_SEG_CTRL)))) ∧
    (exec .segmentAbort s = .next (s.gkNext (s.gk.stagedWrite .rul R.RUL_SEG_CTRL.addr (2 ^ 10 + s.gk.reg R.RUL_SEG_CTRL)))) ∧
    (exec .gearArm s = .next (s.gkNext (s.gk.stagedWrite .rul R.RUL_GEAR_ARM.addr 1))) ∧
    (exec .gearCancel s = .next (s.gkNext (s.gk.stagedWrite .rul R.RUL_GEAR_ARM.addr 2))) ∧
    (∀ n a b held, exec (.encoderCount n a b held) s = .next (s.gkNext (s.gk.encoderCount n a b held))) ∧
    (∀ n z held, exec (.encoderIndex n z held) s = .next (s.gkNext (s.gk.encoderIndex n z held))) ∧
    (∀ n, exec (.idxZero n) s = .next (s.gkNext (s.gk.stagedWrite .rul (R.RUL_ENC_CFG.at n) (2 ^ 8 + s.gk.reg R.RUL_ENC_CFG n
      % 2 ^ 8 + s.gk.reg R.RUL_ENC_CFG n / 2 ^ 9 * 2 ^ 9)))) ∧
    (∀ n mode, exec (.encoderModeWrite n mode) s = .next (s.gkNext (s.gk.stagedWrite .rul (R.RUL_ENC_CFG.at n) (s.gk.reg
      R.RUL_ENC_CFG n / 4 * 4 % 2 ^ 8 + mode + s.gk.reg R.RUL_ENC_CFG n / 2 ^ 9 * 2 ^ 9))))

/-- Measured values and their agreement (R72-R97): each command completes, by its own operation on the Gloesk. -/
def Obligations.InputCommandsComplete : Prop :=
  ∀ s : State, s.gk.blocksRun = true →
    (∀ port f, exec (.svFrame port f) s = .next (s.gkNext (s.gk.svFrame port f))) ∧
    (∀ port m, exec (.gooseFrame port m) s = .next (s.gkNext (s.gk.gooseFrame port m))) ∧
    (∀ port kind srcMac tag own fcsBad, exec (.pbOtherFrame port kind srcMac tag own fcsBad) s = .next (s.gkNext
      (s.gk.pbOther port kind srcMac tag own fcsBad))) ∧
    (∀ pair, exec (.supervisionFrameSend pair) s = .next (s.gkNext (s.gk.supervision pair))) ∧
    (∀ pair, exec (.duplicateForget pair) s = .next (s.gkNext (s.gk.duplicateForget pair))) ∧
    (∀ port, exec (.portLinkDown port) s = .next (s.gkNext (s.gk.portLinkDown port))) ∧
    (∀ port speed, exec (.portLinkUp port speed) s = .next (s.gkNext (s.gk.portLinkUp port speed))) ∧
    (∀ (item : Feed) (sim : Bool) (rx : Int) (arrival : Nat), (s.gk.linkOpen 64 = true → exec (.xfeed item sim rx arrival) s
      = .next (s.gkNext (s.gk.xfeed item sim rx arrival))) ∧ (s.gk.linkOpen 64 = false → exec (.xfeed item sim rx arrival) s
      = .next (s.gkNext s.gk))) ∧
    (∀ (lane : Fin 64) (k : Nat) (twin : Fin 2) (claim : Fin 65536) (keyOk remOk : Bool) (overrun : Fin 3) (keys rems : List
      Nat), (s.gk.linkOpen lane = true → exec (.reportFrame lane k twin claim keyOk remOk overrun keys rems) s = .next
      (s.gkNext (s.gk.reportFrame lane k twin claim keyOk remOk overrun keys rems))) ∧ (s.gk.linkOpen lane = false → exec
      (.reportFrame lane k twin claim keyOk remOk overrun keys rems) s = .next (s.gkNext s.gk))) ∧
    (∀ k, exec (.keysumSend k) s = .next (s.gkNext (s.gk.keysumSend k))) ∧
    (∀ (k : Nat) (b : KeySummary), (s.gk.linkOpen 64 = true → exec (.keysum k b) s = .next (s.gkNext (s.gk.keysum k b))) ∧
      (s.gk.linkOpen 64 = false → exec (.keysum k b) s = .next (s.gkNext s.gk))) ∧
    (∀ k ce ue, exec (.keyAgreement k ce ue) s = .next (s.gkNext (s.gk.keyAgreementStep k ce ue))) ∧
    (∀ k, exec (.svCutoff k) s = .next (s.gkNext (s.gk.svCutoff k))) ∧
    (∀ k, exec (.svFreeze k) s = .next (s.gkNext (s.gk.svFreeze k))) ∧
    (∀ (k : Nat) (b : SvSummary), (s.gk.linkOpen 64 = true → exec (.svsum k b) s = .next (s.gkNext (s.gk.svsum k b))) ∧
      (s.gk.linkOpen 64 = false → exec (.svsum k b) s = .next (s.gkNext s.gk))) ∧
    (∀ k, exec (.insumSend k) s = .next (s.gkNext (s.gk.insumSend k))) ∧
    (∀ (k : Nat) (b : InSummary), (s.gk.linkOpen 64 = true → exec (.insum k b) s = .next (s.gkNext (s.gk.insum k b))) ∧
      (s.gk.linkOpen 64 = false → exec (.insum k b) s = .next (s.gkNext s.gk))) ∧
    (∀ (k : Nat) (crcs : List (Nat × Nat)), (s.gk.linkOpen 64 = true → exec (.crcsum k crcs) s = .next (s.gkNext (s.gk.crcsum
      k crcs))) ∧ (s.gk.linkOpen 64 = false → exec (.crcsum k crcs) s = .next (s.gkNext s.gk))) ∧
    (∀ k ce ue flrCe pts, exec (.inputAgreement k ce ue flrCe pts) s = .next (s.gkNext (s.gk.inputAgreementStep k ce ue flrCe
      pts))) ∧
    (∀ n, exec (.gooseStale n) s = .next (s.gkNext (s.gk.gooseStale n))) ∧
    (∀ n, exec (.gooseTrig n) s = .next (s.gkNext (s.gk.gooseTrig n))) ∧
    (∀ n, exec (.gooseRepeat n) s = .next (s.gkNext (s.gk.pubRepeat n)))

/-- The Loop Engine, Flourish and taps (R98-R140): each command completes; a loop word executes as the next word of its lane. -/
def Obligations.LoopCommandsComplete : Prop :=
  ∀ s : State, s.gk.blocksRun = true →
    (exec .loopTierBarrier s = .next (s.gkNext (s.gk.tierBarrier))) ∧
    (∀ k, exec (.loopWriteback k) s = .next (s.gkNext (s.gk.writebackStep k))) ∧
    (∀ (lane : Fin 8) win ln n, s.gk.laneAt lane win ln n 0x00 → exec (.loopNop lane) s = .next (s.gkNext (s.gk.laneStep win
      lane ln n))) ∧
    (∀ (lane : Fin 8) win ln n, s.gk.laneAt lane win ln n 0x01 → exec (.loopMov lane) s = .next (s.gkNext (s.gk.laneStep win
      lane ln n))) ∧
    (∀ (lane : Fin 8) win ln n, s.gk.laneAt lane win ln n 0x02 → exec (.loopAdd lane) s = .next (s.gkNext (s.gk.laneStep win
      lane ln n))) ∧
    (∀ (lane : Fin 8) win ln n, s.gk.laneAt lane win ln n 0x03 → exec (.loopSub lane) s = .next (s.gkNext (s.gk.laneStep win
      lane ln n))) ∧
    (∀ (lane : Fin 8) win ln n, s.gk.laneAt lane win ln n 0x04 → exec (.loopMulc lane) s = .next (s.gkNext (s.gk.laneStep win
      lane ln n))) ∧
    (∀ (lane : Fin 8) win ln n, s.gk.laneAt lane win ln n 0x05 → exec (.loopMulv lane) s = .next (s.gkNext (s.gk.laneStep win
      lane ln n))) ∧
    (∀ (lane : Fin 8) win ln n, s.gk.laneAt lane win ln n 0x06 → exec (.loopMac0 lane) s = .next (s.gkNext (s.gk.laneStep win
      lane ln n))) ∧
    (∀ (lane : Fin 8) win ln n, s.gk.laneAt lane win ln n 0x07 → exec (.loopMac lane) s = .next (s.gkNext (s.gk.laneStep win
      lane ln n))) ∧
    (∀ (lane : Fin 8) win ln n, s.gk.laneAt lane win ln n 0x08 → exec (.loopInt lane) s = .next (s.gkNext (s.gk.laneStep win
      lane ln n))) ∧
    (∀ (lane : Fin 8) win ln n, s.gk.laneAt lane win ln n 0x09 → exec (.loopMax lane) s = .next (s.gkNext (s.gk.laneStep win
      lane ln n))) ∧
    (∀ (lane : Fin 8) win ln n, s.gk.laneAt lane win ln n 0x0A → exec (.loopMin lane) s = .next (s.gkNext (s.gk.laneStep win
      lane ln n))) ∧
    (∀ (lane : Fin 8) win ln n, s.gk.laneAt lane win ln n 0x0B → exec (.loopLim lane) s = .next (s.gkNext (s.gk.laneStep win
      lane ln n))) ∧
    (∀ (lane : Fin 8) win ln n, s.gk.laneAt lane win ln n 0x0C → exec (.loopAbs lane) s = .next (s.gkNext (s.gk.laneStep win
      lane ln n))) ∧
    (∀ (lane : Fin 8) win ln n, s.gk.laneAt lane win ln n 0x0D → exec (.loopNeg lane) s = .next (s.gkNext (s.gk.laneStep win
      lane ln n))) ∧
    (∀ (lane : Fin 8) win ln n, s.gk.laneAt lane win ln n 0x0E → exec (.loopAsh lane) s = .next (s.gkNext (s.gk.laneStep win
      lane ln n))) ∧
    (∀ (lane : Fin 8) win ln n, s.gk.laneAt lane win ln n 0x0F → exec (.loopTrig lane) s = .next (s.gkNext (s.gk.laneStep win
      lane ln n))) ∧
    (∀ (lane : Fin 8) win ln n, s.gk.laneAt lane win ln n 0x10 → exec (.loopLdc lane) s = .next (s.gkNext (s.gk.laneStep win
      lane ln n))) ∧
    (∀ (lane : Fin 8) win ln n, s.gk.laneAt lane win ln n 0x11 → exec (.loopSkp lane) s = .next (s.gkNext (s.gk.laneStep win
      lane ln n))) ∧
    (∀ (lane : Fin 8) win ln n, s.gk.laneAt lane win ln n 0x12 → exec (.loopOut lane) s = .next (s.gkNext (s.gk.laneStep win
      lane ln n))) ∧
    (∀ (lane : Fin 8) win ln n, s.gk.laneAt lane win ln n 0x13 → exec (.loopWr lane) s = .next (s.gkNext (s.gk.laneStep win
      lane ln n))) ∧
    (∀ (lane : Fin 8) win ln n, s.gk.laneAt lane win ln n 0x30 → exec (.frd lane) s = .next (s.gkNext (s.gk.laneStep win lane
      ln n))) ∧
    (∀ (lane : Fin 8) win ln n, s.gk.laneAt lane win ln n 0x31 → exec (.frdi lane) s = .next (s.gkNext (s.gk.laneStep win
      lane ln n))) ∧
    (∀ (lane : Fin 8) win ln n, s.gk.laneAt lane win ln n 0x32 → exec (.fst lane) s = .next (s.gkNext (s.gk.laneStep win lane
      ln n))) ∧
    (∀ (lane : Fin 8) win ln n, s.gk.laneAt lane win ln n 0x38 → exec (.trc lane) s = .next (s.gkNext (s.gk.laneStep win lane
      ln n))) ∧
    (∀ slot, exec (.loopOpen slot) s = .next (s.gkNext (s.gk.stagedWrite .lpe R.LPE_OPCMD.addr (256 + slot)))) ∧
    (∀ slot, exec (.loopClose slot) s = .next (s.gkNext (s.gk.stagedWrite .lpe R.LPE_OPCMD.addr (512 + slot)))) ∧
    (∀ v, exec (.coefWrite v) s = .next (s.gkNext (s.gk.stagedWrite .lpe R.LPE_CWVAL.addr (s.gk.rd F.LPE_CWIDX_IDX * 2 ^ 18 +
      v.toNat)))) ∧
    (∀ p v, exec (.paramWrite p v) s = .next (s.gkNext (s.gk.stagedWrite .lpe (R.LPE_PARAM.at p) v.toNat))) ∧
    (∀ v, exec (.lpeXdataWrite v) s = .next (s.gkNext (s.gk.lpeXdataWrite v.toNat))) ∧
    (∀ who, exec (.lpeXdata0Read who) s = .next (s.gkNext (s.gk.lpeXdataRead who))) ∧
    (∀ t, exec (.flourishClr t) s = .next (s.gkNext (s.gk.stagedWrite .lpe (R.FLR_T_CFG.at t) (2 ^ 10 + s.gk.reg R.FLR_T_CFG
      t)))) ∧
    (∀ t, exec (.tapStart t) s = .next (s.gkNext (s.gk.tapStart t))) ∧
    (∀ t, exec (.tapTrig t) s = .next (s.gkNext (s.gk.tapTrigger t))) ∧
    (∀ t v, exec (.tapEnable t v) s = .next (s.gkNext (s.gk.tapCfgWrite t v.toNat))) ∧
    (∀ t, exec (.traceEntryDeadline t) s = .next (s.gkNext (s.gk.tapDrop t)))

/-- The Rank Engine (R141-R165): each command completes, by its own operation on the Gloesk. -/
def Obligations.RankCommandsComplete : Prop :=
  ∀ s : State, s.gk.blocksRun = true →
    (∀ a, exec (.rankComplete a) s = .next (s.gkNext (s.gk.rankComplete a))) ∧
    (∀ x, exec (.holdOut x) s = .next (s.gkNext (s.gk.stagedWrite .rnk R.RNK_HOCMD.addr (x + 2 ^ 16)))) ∧
    (∀ x, exec (.cellReturn x) s = .next (s.gkNext (s.gk.stagedWrite .rnk R.RNK_HOCMD.addr (x + 2 ^ 17)))) ∧
    (∀ who, exec (.rnkCxdata0Read who) s = .next (s.gkNext (s.gk.cxRead who))) ∧
    (∀ v, exec (.rnkCxdata0Write v) s = .next (s.gkNext (s.gk.cxWrite v.toNat)))

/-- Stroke dispatch and hub forwarding (R166-R185): each command completes, by its own operation on the part that it reaches. -/
def Obligations.DispatchCommandsComplete : Prop :=
  ∀ s : State,
    (s.gk.blocksRun = true →
      (∀ k, exec (.wordFrameStart k) s = .next (s.gkNext (s.gk.wordFrameStart k))) ∧
      (∀ (k : Nat) (d : Digest), (s.gk.linkOpen 64 = true → exec (.digest k d) s = .next (s.gkNext (s.gk.digest k d))) ∧
        (s.gk.linkOpen 64 = false → exec (.digest k d) s = .next (s.gkNext s.gk))) ∧
      (∀ (lane : Fin 64) (k : Nat) (twin : Fin 2) (claim : Fin 65536) (e : Echo), (s.gk.linkOpen lane = true → exec (.echo
        lane k twin claim e) s = .next (s.gkNext ((s.gk.frameSeen lane).echo lane k twin claim e))) ∧ (s.gk.linkOpen lane =
        false → exec (.echo lane k twin claim e) s = .next (s.gkNext s.gk)))) ∧
    (∀ (c : Fin 192) (r : BitVec 192) (m : LinkMsg) (late : Bool), (s.sk.linkOpen (2 + c) = true → exec (.cellReport c r m
      late) s = .next (s.skNext (s.sk.cellReport s.tagLimit c r.toNat m late))) ∧ (s.sk.linkOpen (2 + c) = false → exec
      (.cellReport c r m late) s = .next (s.skNext s.sk))) ∧
    (∀ k, exec (.reportFrameSend k) s = .next (s.skNext (s.sk.reportFrameSend k))) ∧
    (∀ (u : Fin 2) (t : Nat) (claim : Fin 65536) (twin : Fin 2) (gcmOk : Bool) (ws : List (BitVec 96)), (s.sk.linkOpen u =
      true → exec (.wordFrame u t claim twin gcmOk ws) s = .next (s.skNext (s.sk.wordFrame u t claim twin gcmOk ws))) ∧
      (s.sk.linkOpen u = false → exec (.wordFrame u t claim twin gcmOk ws) s = .next (s.skNext s.sk))) ∧
    (∀ plane w m late, exec (.strokeWord plane w m late) s = .next (s.ihNext (s.ih.strokeWord s.tagLimit plane w.toNat m
      late))) ∧
    (exec .armingDeadline s = .next (s.ihNext (s.ih.armingDeadline s.period))) ∧
    (exec .safeAction s = .next (s.ihNext (s.ih.island (·.safeAction s.period)))) ∧
    (exec .cellReportSend s = .next (s.ihNext (s.ih.reportSend)))

/-- The management channel and the stroke cycle (R172, R185-R191): each command completes, at the cell, the hub or the Gloesk. -/
def Obligations.ManagementCommandsComplete : Prop :=
  ∀ s : State,
    (s.gk.blocksRun = true →
      (∀ x port tid m ws, exec (.mgmtReadResponse (some x) port tid m ws) s = .next (s.gkNext (s.gk.loadNext x (nth 0 (natsOf
        ws) 0)))) ∧
      (∀ x port tid m code block, exec (.mgmtError (some x) port tid m code block) s = .next (s.gkNext (s.gk.loadError x))) ∧
      (exec .stkStart s = .next (s.gkNext (s.gk.stagedWrite .stk R.STK_CTRL.addr 1))) ∧
      (exec .stkStop s = .next (s.gkNext (s.gk.stagedWrite .stk R.STK_CTRL.addr 2)))) ∧
    (∀ p m tid addr cnt, exec (.mgmtReadRequest p m tid addr cnt) s = .next (s.ihNext (s.ih.mgmtRead p m tid addr.toNat cnt))) ∧
    (∀ p m tick tid addr ws, exec (.mgmtWriteRequest p m tick tid addr ws none) s = .next (s.ihNext (s.ih.mgmtWrite s.period
      tick p m tid addr.toNat (natsOf ws) none))) ∧
    (∀ p m tick tid addr ws obj, exec (.mgmtWriteRequest p m tick tid addr ws obj) s = .next (s.mgmtWrite p m tick tid
      addr.toNat (natsOf ws) obj)) ∧
    (∀ (port : Fin 192) tid (m : LinkMsg) ws, s.sk.rd F.HLNK_LK_STAT_RXST port = 3 → (m.recent s.sk.stroke = true → exec
      (.mgmtReadResponse none port tid m ws) s = .next (s.skNext (s.sk.readResponse port tid (natsOf ws)))) ∧ (m.recent
      s.sk.stroke = false → exec (.mgmtReadResponse none port tid m ws) s = .next (s.skNext (s.sk.inc F.HLNK_LK_CNT1_MDISC
      port)))) ∧
    (∀ (port : Fin 192) tid (m : LinkMsg), s.sk.rd F.HLNK_LK_STAT_RXST port = 3 → (m.recent s.sk.stroke = true → exec
      (.mgmtWriteAck port tid m) s = .next (s.skNext (s.sk.writeAck port tid))) ∧ (m.recent s.sk.stroke = false → exec
      (.mgmtWriteAck port tid m) s = .next (s.skNext (s.sk.inc F.HLNK_LK_CNT1_MDISC port)))) ∧
    (∀ (port : Fin 192) tid (m : LinkMsg) (code : Fin 256) (block : Option (Fin 65536)), s.sk.rd F.HLNK_LK_STAT_RXST port = 3
      → (m.recent s.sk.stroke = true → exec (.mgmtError none port tid m code block) s = .next (s.skNext (s.sk.mgmtError port
      tid code (block.map (·.val))))) ∧ (m.recent s.sk.stroke = false → exec (.mgmtError none port tid m code block) s =
      .next (s.skNext (s.sk.inc F.HLNK_LK_CNT1_MDISC port)))) ∧
    (∀ p m tid idx cnt data, exec (.imageBlock p m tid idx cnt data) s = .next (s.ihNext (s.ih.imageMessage p m tid idx.toNat
      cnt data.toNat))) ∧
    (∀ u op tid count target port addr ws map, exec (.hubMgmtRequest u op tid count target port addr ws map) s = .next
      (s.skNext (s.sk.mgmtRequest u op tid count target port addr.toNat (natsOf ws) map))) ∧
    (∀ port, exec (.cellMgmtTimeout port) s = .next (s.skNext (s.sk.mgmtTimeout port))) ∧
    (exec .clrSafe s = .next (s.ihNext (s.ih.clrSafe)))

/-- The nib outputs and the island (R192-R217): each command completes, by its own operation on the cell. -/
def Obligations.NibCommandsComplete : Prop :=
  ∀ s : State,
    (∀ tick, exec (.nibDisable tick) s = .next (s.ihNext (s.ih.nibDisable s.period tick))) ∧
    (exec .nibEnable s = .next (s.ihNext (s.ih.nibEnable))) ∧
    (exec .nibEdge s = .next (s.ihNext (s.ih.island (·.nibEdge s.period)))) ∧
    (∀ n tick, exec (.trip n tick) s = .next (s.ihNext (s.ih.island (·.trip s.period n tick)))) ∧
    (∀ ch tick, exec (.blankingEnd ch tick) s = .next (s.ihNext (s.ih.island (·.blankingEnd s.period ch tick)))) ∧
    (∀ b, exec (.latchClear b) s = .next (s.ihNext (s.ih.latchClear b))) ∧
    (exec .ilockClear s = .next (s.ihNext (s.ih.ilockClear))) ∧
    (∀ tick, exec (.overvoltage tick) s = .next (s.ihNext (s.ih.island (·.overvoltage s.period tick)))) ∧
    (exec .ovpRelease s = .next (s.ihNext (s.ih.ovpRelease))) ∧
    (∀ tick, exec (.linkSilence tick) s = .next (s.ihNext (s.ih.island (·.linkSilence s.period tick)))) ∧
    (∀ tick clockStop, exec (.freeze tick clockStop) s = .next (s.ihNext (s.ih.freeze s.period tick clockStop))) ∧
    (exec .freezeResume s = .next (s.ihNext (s.ih.freezeResume))) ∧
    (∀ tick, exec (.interlock tick) s = .next (s.ihNext (s.ih.island (·.interlock s.period tick)))) ∧
    (exec .bypassPulseEnd s = .next (s.ihNext (s.ih.bypassPulseEnd))) ∧
    (exec .rearm s = .next (s.ihNext (s.ih.rearm))) ∧
    (exec .signedSettingsApply s = .next (s.ihNext (s.ih.signedApply s.period))) ∧
    (∀ tick, exec (.coreReset tick) s = .next (s.ihNext (s.ih.coreReset s.period tick))) ∧
    (∀ ch, exec (.timerPulseEnd ch) s = .next (s.ihNext (s.ih.timerPulseEnd ch))) ∧
    (∀ good, exec (.oscCheck good) s = .next (s.ihNext (s.ih.oscCheck good))) ∧
    (∀ n, exec (.tripInputRelease n) s = .next (s.ihNext (s.ih.tripRelease n)))

/-- Acquisition and the reference arbiters (R218-R239): each command completes, at the cell or at the Gloesk. -/
def Obligations.AcquisitionCommandsComplete : Prop :=
  ∀ s : State,
    (s.gk.blocksRun = true →
      (∀ ins, exec (.aqSlot false ins) s = .next (s.gkNext (s.gk.aqSlot ins))) ∧
      (exec (.aqResult false) s = .next (s.gkNext (s.gk.aqResult))) ∧
      (∀ input tick, exec (.urgentRequest false input tick) s = .next (s.gkNext (s.gk.aqUrgentRequest input))) ∧
      (exec (.urgentResult false) s = .next (s.gkNext (s.gk.aqUrgentResult))) ∧
      (∀ en, exec (.aqEnable false en) s = .next (s.gkNext (s.gk.aqEnable en))) ∧
      (∀ beyond, exec (.sliceCalibrated false beyond) s = .next (s.gkNext (s.gk.sliceDone beyond))) ∧
      (∀ hard, exec (.driftClear false hard) s = .next (s.gkNext (s.gk.driftClear hard))) ∧
      (exec (.refSelect false) s = .next (s.gkNext (s.gk.up F.AQ_REFCTL_SEL))) ∧
      (exec (.xoff false) s = .next (s.gkNext (s.gk.up F.AQ_REFCTL_XOFF))) ∧
      (∀ who, exec (.aqRes0Read false who) s = .next (s.gkNext (s.gk.aqRes0Read who))) ∧
      (∀ who, exec (.aqUres0Read false who) s = .next (s.gkNext (s.gk.aqUres0Read who))) ∧
      (∀ x d, exec (.arbiterStart x d) s = .next (s.gkNext ((s.gk.stagedWrite .aq R.AQ_ARBD.addr d.toNat).stagedWrite .aq
        R.AQ_ARBCMD.addr (x + 2 ^ 16)))) ∧
      (∀ a, exec (.arbiterTimeout a) s = .next (s.gkNext (s.gk.arbTimeout a))) ∧
      (∀ a, exec (.arbiterHoldOut a) s = .next (s.gkNext (s.gk.arbHoldOut a)))) ∧
    (∀ ins, exec (.aqSlot true ins) s = .next (s.ihNext (s.ih.aqSlot s.period ins))) ∧
    (exec (.aqResult true) s = .next (s.ihNext (s.ih.aqResult))) ∧
    (∀ input tick, exec (.urgentRequest true input tick) s = .next (s.ihNext (s.ih.urgentRequest s.period tick input))) ∧
    (exec (.urgentResult true) s = .next (s.ihNext (s.ih.urgentResult))) ∧
    (∀ en, exec (.aqEnable true en) s = .next (s.ihNext (s.ih.aqEnable en))) ∧
    (∀ beyond, exec (.sliceCalibrated true beyond) s = .next (s.ihNext (s.ih.sliceDone beyond))) ∧
    (∀ hard, exec (.driftClear true hard) s = .next (s.ihNext (s.ih.driftClear hard))) ∧
    (exec (.refSelect true) s = .next (s.ihNext (s.ih.up F.CAQ_REFCTL_SEL))) ∧
    (exec (.xoff true) s = .next (s.ihNext (s.ih.up F.CAQ_REFCTL_XOFF))) ∧
    (∀ who, exec (.aqRes0Read true who) s = .next (s.ihNext (s.ih.aqRes0Read who))) ∧
    (∀ who, exec (.aqUres0Read true who) s = .next (s.ihNext (s.ih.aqUres0Read who)))

/-- The reservoir, the keeper and cell firmware (R240-R257): each command completes, by its own operation on the cell. -/
def Obligations.ReservoirCommandsComplete : Prop :=
  ∀ s : State,
    (∀ code tick, exec (.holdupConversion code tick) s = .next (s.ihNext (s.ih.island (·.holdup s.period code tick)))) ∧
    (∀ tick, exec (.ledgerPlan tick) s = .next (s.ihNext (s.ih.island (·.ledgerPlan s.period tick)))) ∧
    (∀ tick supply, exec (.brownOut tick supply) s = .next (s.ihNext (s.ih.brownOut s.period tick supply))) ∧
    (exec .vddIoLoss s = .next (s.ihNext (s.ih.vddIoLoss))) ∧
    (exec .islandResetRelease s = .next (s.ihNext (s.ih.islandRelease))) ∧
    (∀ lost, exec (.mainResetRelease lost) s = .next (s.ihNext (s.ih.mainRelease lost))) ∧
    (exec .lfrClear s = .next (s.ihNext (s.ih.lfrClear))) ∧
    (∀ who first, exec (.lfrf0Read who first) s = .next (s.ihNext (s.ih.lfrRead who first))) ∧
    (exec .fwErase s = .next (s.ihNext (s.ih.fwErase))) ∧
    (exec .eraseComplete s = .next (s.ihNext (s.ih.eraseComplete))) ∧
    (exec .fwVerify s = .next (s.ihNext (s.ih.fwVerify))) ∧
    (∀ tick, exec (.fwActivate tick) s = .next (s.ihNext (s.ih.fwActivate s.period tick))) ∧
    (exec .fwConfirm s = .next (s.ihNext (s.ih.fwConfirm))) ∧
    (∀ tick, exec (.trialTimeout tick) s = .next (s.ihNext (s.ih.trialTimeout s.period tick))) ∧
    (∀ ok, exec (.secureBootDone ok) s = .next (s.ihNext (s.ih.secureBootDone ok))) ∧
    (∀ e, exec (.fwVerifyDone e) s = .next (s.ihNext (s.ih.fwVerifyDone e)))

/-- The Quill instruction set (R258-R286): where the word at the pc of a running core is the instruction, it completes on that core. -/
def Obligations.QuillCommandsComplete : Prop :=
  ∀ s : State,
    (s.gk.blocksRun = true →
      (∀ (q : Fin 16) (rd : Fin 32) (ra : Fin 32) (imm : BitVec 16) (de : Fin 3), s.gk.coreAt q (Enc.i 0x08 rd ra imm.toNat)
        → exec (.qLdw (.q q) rd ra imm 0 de) s = .next (s.gkNext ((s.gk.load q rd ra imm.toNat 4 false de).onPair q (fun k =>
        { k with stepping := false })))) ∧
      (∀ (q : Fin 16) (rd : Fin 32) (ra : Fin 32) (imm : BitVec 16) (de : Fin 3), s.gk.coreAt q (Enc.i 0x09 rd ra imm.toNat)
        → exec (.qLdh (.q q) rd ra imm 0 de) s = .next (s.gkNext ((s.gk.load q rd ra imm.toNat 2 true de).onPair q (fun k =>
        { k with stepping := false })))) ∧
      (∀ (q : Fin 16) (rd : Fin 32) (ra : Fin 32) (imm : BitVec 16) (de : Fin 3), s.gk.coreAt q (Enc.i 0x0A rd ra imm.toNat)
        → exec (.qLdhu (.q q) rd ra imm 0 de) s = .next (s.gkNext ((s.gk.load q rd ra imm.toNat 2 false de).onPair q (fun k
        => { k with stepping := false })))) ∧
      (∀ (q : Fin 16) (rd : Fin 32) (ra : Fin 32) (imm : BitVec 16) (de : Fin 3), s.gk.coreAt q (Enc.i 0x0B rd ra imm.toNat)
        → exec (.qLdb (.q q) rd ra imm 0 de) s = .next (s.gkNext ((s.gk.load q rd ra imm.toNat 1 true de).onPair q (fun k =>
        { k with stepping := false })))) ∧
      (∀ (q : Fin 16) (rd : Fin 32) (ra : Fin 32) (imm : BitVec 16) (de : Fin 3), s.gk.coreAt q (Enc.i 0x0C rd ra imm.toNat)
        → exec (.qLdbu (.q q) rd ra imm 0 de) s = .next (s.gkNext ((s.gk.load q rd ra imm.toNat 1 false de).onPair q (fun k
        => { k with stepping := false })))) ∧
      (∀ (q : Fin 16) (rd : Fin 32) (ra : Fin 32) (imm : BitVec 16) (tick : Fin 16777216), s.gk.coreAt q (Enc.i 0x0D rd ra
        imm.toNat) → exec (.qStw (.q q) rd ra imm 0 tick) s = .next (s.gkNext ((s.gk.storeReg q rd ra imm.toNat 4).onPair q
        (fun k => { k with stepping := false })))) ∧
      (∀ (q : Fin 16) (rd : Fin 32) (ra : Fin 32) (imm : BitVec 16) (tick : Fin 16777216), s.gk.coreAt q (Enc.i 0x0E rd ra
        imm.toNat) → exec (.qSth (.q q) rd ra imm 0 tick) s = .next (s.gkNext ((s.gk.storeReg q rd ra imm.toNat 2).onPair q
        (fun k => { k with stepping := false })))) ∧
      (∀ (q : Fin 16) (rd : Fin 32) (ra : Fin 32) (imm : BitVec 16) (tick : Fin 16777216), s.gk.coreAt q (Enc.i 0x0F rd ra
        imm.toNat) → exec (.qStb (.q q) rd ra imm 0 tick) s = .next (s.gkNext ((s.gk.storeReg q rd ra imm.toNat 1).onPair q
        (fun k => { k with stepping := false })))) ∧
      (∀ (q : Fin 16) (rd : Fin 32) (csr : BitVec 12), s.gk.coreAt q (Enc.s 0x1E rd 0 csr.toNat 0x0) → exec (.qCsrr (.q q) rd
        csr 0) s = .next (s.gkNext ((s.gk.csrRw q rd csr.toNat none).onPair q (fun k => { k with stepping := false })))) ∧
      (∀ (q : Fin 16) (ra : Fin 32) (csr : BitVec 12), s.gk.coreAt q (Enc.s 0x1E 0 ra csr.toNat 0x1) → exec (.qCsrw (.q q) ra
        csr 0) s = .next (s.gkNext (((s.gk.csrWrite q csr.toNat (s.gk.qreg q ra)).qnext q).onPair q (fun k => { k with
        stepping := false })))) ∧
      (∀ (q : Fin 16) (rd : Fin 32) (ra : Fin 32) (csr : BitVec 12), s.gk.coreAt q (Enc.s 0x1E rd ra csr.toNat 0x2) → exec
        (.qCsrs (.q q) rd ra csr 0) s = .next (s.gkNext ((s.gk.csrRw q rd csr.toNat (some (fun v => v ||| s.gk.qreg q
        ra))).onPair q (fun k => { k with stepping := false })))) ∧
      (∀ (q : Fin 16) (rd : Fin 32) (ra : Fin 32) (csr : BitVec 12), s.gk.coreAt q (Enc.s 0x1E rd ra csr.toNat 0x3) → exec
        (.qCsrc (.q q) rd ra csr 0) s = .next (s.gkNext ((s.gk.csrRw q rd csr.toNat (some (fun v => clearBits v (s.gk.qreg q
        ra)))).onPair q (fun k => { k with stepping := false })))) ∧
      (∀ (q : Fin 16) (rd : Fin 32) (ra : Fin 32) (imm : BitVec 12) (ce : Fin 3) g', s.gk.coreAt q (Enc.s 0x1E rd ra
        imm.toNat 0x4) → s.gk.waits q rd ra imm.toNat ce = some g' → exec (.qWaits (.q q) rd ra imm 0 ce) s = .next (s.gkNext
        (g'.onPair q (fun k => { k with stepping := false })))) ∧
      (∀ (q : Fin 16) (rd : Fin 32) (ra : Fin 32) (imm : BitVec 12) (ce : Fin 3) g', s.gk.coreAt q (Enc.s 0x1E rd ra
        imm.toNat 0x5) → s.gk.waita q rd ra imm.toNat ce = some g' → exec (.qWaita (.q q) rd ra imm 0 ce) s = .next (s.gkNext
        (g'.onPair q (fun k => { k with stepping := false })))) ∧
      (∀ (q : Fin 16) (rd : Fin 32) (ra : Fin 32), s.gk.coreAt q (Enc.s 0x1E rd ra 0 0x6) → exec (.qPost (.q q) rd ra 0) s =
        .next (s.gkNext ((s.gk.post q rd ra).onPair q (fun k => { k with stepping := false })))) ∧
      (∀ (q : Fin 16) (rd : Fin 32) (ra : Fin 32) (ce : Fin 3) g', s.gk.coreAt q (Enc.s 0x1E rd ra 0 0x7) → s.gk.lock q rd ra
        ce = some g' → exec (.qLock (.q q) rd ra 0 ce) s = .next (s.gkNext (g'.onPair q (fun k => { k with stepping := false
        })))) ∧
      (∀ (q : Fin 16) (rd : Fin 32) (ra : Fin 32), s.gk.coreAt q (Enc.s 0x1E rd ra 0 0x8) → exec (.qTrylk (.q q) rd ra 0) s =
        .next (s.gkNext ((s.gk.trylk q rd ra).onPair q (fun k => { k with stepping := false })))) ∧
      (∀ (q : Fin 16) (ra : Fin 32), s.gk.coreAt q (Enc.s 0x1E 0 ra 0 0x9) → exec (.qUnlock (.q q) ra 0) s = .next (s.gkNext
        ((s.gk.unlock q ra).onPair q (fun k => { k with stepping := false })))) ∧
      (∀ (q : Fin 16) (ce : Fin 3) g', s.gk.coreAt q (Enc.s 0x1E 0 0 0 0xA) → s.gk.yieldRun q ce = some g' → exec (.qYield
        (.q q) 0 ce) s = .next (s.gkNext (g'.onPair q (fun k => { k with stepping := false })))) ∧
      (∀ (q : Fin 16)  g', s.gk.coreAt q (Enc.s 0x1E 0 0 0 0xB) → s.gk.exitRun q = some g' → exec (.qExit (.q q) 0) s = .next
        (s.gkNext (g'.onPair q (fun k => { k with stepping := false })))) ∧
      (∀ (q : Fin 16)  g', s.gk.coreAt q (Enc.s 0x1E 0 0 0 0xC) → (s.gk.fence q).map (·.qnext q) = some g' → exec (.qFence
        (.q q) 0) s = .next (s.gkNext (g'.onPair q (fun k => { k with stepping := false })))) ∧
      (∀ (q : Fin 16) (imm : BitVec 12), s.gk.coreAt q (Enc.s 0x1E 0 0 imm.toNat 0xD) → exec (.qTrap (.q q) imm 0) s = .next
        (s.gkNext ((s.gk.quillFault q 9 imm.toNat).onPair q (fun k => { k with stepping := false })))) ∧
      (∀ (q : Fin 16), s.gk.coreAt q (Enc.s 0x1E 0 0 0 0xE) → exec (.qBrk (.q q) 0) s = .next (s.gkNext ((s.gk.brk q).onPair
        q (fun k => { k with stepping := false })))) ∧
      (∀ (q : Fin 16) (rd : Fin 32) (ra : Fin 32) (rb : Fin 32) (tag : Fin 4) g', s.gk.coreAt q (Enc.m 0x1F rd ra rb tag 0x1)
        → s.gk.move q rd ra rb tag true = some g' → exec (.qMvin (.q q) rd ra rb tag 0) s = .next (s.gkNext (g'.onPair q (fun
        k => { k with stepping := false })))) ∧
      (∀ (q : Fin 16) (rd : Fin 32) (ra : Fin 32) (rb : Fin 32) (tag : Fin 4) g', s.gk.coreAt q (Enc.m 0x1F rd ra rb tag 0x2)
        → s.gk.move q rd ra rb tag false = some g' → exec (.qMvout (.q q) rd ra rb tag 0) s = .next (s.gkNext (g'.onPair q
        (fun k => { k with stepping := false })))) ∧
      (∀ (q : Fin 16) (rd : Fin 32) (tag : Fin 4) g', s.gk.coreAt q (Enc.m 0x1F rd 0 0 tag 0x3) → s.gk.mvwait q rd tag = some
        g' → exec (.qMvwait (.q q) rd tag 0) s = .next (s.gkNext (g'.onPair q (fun k => { k with stepping := false })))) ∧
      (∀ (q : Fin 16) (rd : Fin 32) (ra : Fin 32) (de : Fin 3), s.gk.coreAt q (Enc.m 0x1F rd ra 0 0 0x4) → exec (.qInklw (.q
        q) rd ra 0 de) s = .next (s.gkNext ((s.gk.inklw q rd ra de).onPair q (fun k => { k with stepping := false })))) ∧
      (∀ (q : Fin 16) (rd : Fin 32) (ra : Fin 32), s.gk.coreAt q (Enc.m 0x1F rd ra 0 0 0x5) → exec (.qInksw (.q q) rd ra 0) s
        = .next (s.gkNext ((s.gk.inksw q rd ra).onPair q (fun k => { k with stepping := false })))) ∧
      (∀ q mv status done, exec (.moveComplete q mv status done) s = .next (s.gkNext (s.gk.moveComplete q mv status done))) ∧
      (∀ q, exec (.lockstepMismatch q) s = .next (s.gkNext (s.gk.lockstep q))) ∧
      (∀ (q : Fin 16) tick, exec (.debugHalt (.q q) tick) s = .next (s.gkNext (s.gk.debugCommand q (·.dbgHalt)))) ∧
      (∀ (q : Fin 16), exec (.debugResume (.q q)) s = .next (s.gkNext (s.gk.debugCommand q (·.dbgResume)))) ∧
      (∀ (q : Fin 16) tick, exec (.debugStep (.q q) tick) s = .next (s.gkNext (s.gk.debugCommand q (·.dbgStep)))) ∧
      (∀ q n, exec (.qdbgAccRead q n) s = .next (s.gkNext (s.gk.qdbgAccRead q n)))) ∧
    (∀ (rd : Fin 32) (ra : Fin 32) (rb : Fin 32), RunsOnCore s (fun u => .qAdd u rd ra rb 0) (Enc.r 0x00 rd ra rb 0x001) (fun
      k => (k.add rd ra rb).next)) ∧
    (∀ (rd : Fin 32) (ra : Fin 32) (rb : Fin 32), RunsOnCore s (fun u => .qSub u rd ra rb 0) (Enc.r 0x00 rd ra rb 0x002) (fun
      k => (k.sub rd ra rb).next)) ∧
    (∀ (rd : Fin 32) (ra : Fin 32) (rb : Fin 32), RunsOnCore s (fun u => .qAddc u rd ra rb 0) (Enc.r 0x00 rd ra rb 0x003)
      (fun k => (k.addc rd ra rb).next)) ∧
    (∀ (rd : Fin 32) (ra : Fin 32) (rb : Fin 32), RunsOnCore s (fun u => .qSubc u rd ra rb 0) (Enc.r 0x00 rd ra rb 0x004)
      (fun k => (k.subc rd ra rb).next)) ∧
    (∀ (rd : Fin 32) (ra : Fin 32) (rb : Fin 32), RunsOnCore s (fun u => .qAnd u rd ra rb 0) (Enc.r 0x00 rd ra rb 0x005) (fun
      k => (k.and rd ra rb).next)) ∧
    (∀ (rd : Fin 32) (ra : Fin 32) (rb : Fin 32), RunsOnCore s (fun u => .qOr u rd ra rb 0) (Enc.r 0x00 rd ra rb 0x006) (fun
      k => (k.or rd ra rb).next)) ∧
    (∀ (rd : Fin 32) (ra : Fin 32) (rb : Fin 32), RunsOnCore s (fun u => .qXor u rd ra rb 0) (Enc.r 0x00 rd ra rb 0x007) (fun
      k => (k.xor rd ra rb).next)) ∧
    (∀ (rd : Fin 32) (ra : Fin 32) (rb : Fin 32), RunsOnCore s (fun u => .qShl u rd ra rb 0) (Enc.r 0x00 rd ra rb 0x008) (fun
      k => (k.shl rd ra rb).next)) ∧
    (∀ (rd : Fin 32) (ra : Fin 32) (rb : Fin 32), RunsOnCore s (fun u => .qShr u rd ra rb 0) (Enc.r 0x00 rd ra rb 0x009) (fun
      k => (k.shr rd ra rb).next)) ∧
    (∀ (rd : Fin 32) (ra : Fin 32) (rb : Fin 32), RunsOnCore s (fun u => .qSha u rd ra rb 0) (Enc.r 0x00 rd ra rb 0x00A) (fun
      k => (k.sha rd ra rb).next)) ∧
    (∀ (rd : Fin 32) (ra : Fin 32) (sh : Fin 32), RunsOnCore s (fun u => .qShli u rd ra sh 0) (Enc.r 0x00 rd ra sh 0x00B)
      (fun k => (k.shlBy rd ra sh).next)) ∧
    (∀ (rd : Fin 32) (ra : Fin 32) (sh : Fin 32), RunsOnCore s (fun u => .qShri u rd ra sh 0) (Enc.r 0x00 rd ra sh 0x00C)
      (fun k => (k.shrBy rd ra sh).next)) ∧
    (∀ (rd : Fin 32) (ra : Fin 32) (sh : Fin 32), RunsOnCore s (fun u => .qShai u rd ra sh 0) (Enc.r 0x00 rd ra sh 0x00D)
      (fun k => (k.shaBy rd ra sh).next)) ∧
    (∀ (rd : Fin 32) (ra : Fin 32) (rb : Fin 32), RunsOnCore s (fun u => .qSlt u rd ra rb 0) (Enc.r 0x00 rd ra rb 0x00E) (fun
      k => (k.slt rd ra rb).next)) ∧
    (∀ (rd : Fin 32) (ra : Fin 32) (rb : Fin 32), RunsOnCore s (fun u => .qSltu u rd ra rb 0) (Enc.r 0x00 rd ra rb 0x00F)
      (fun k => (k.sltu rd ra rb).next)) ∧
    (∀ (rd : Fin 32) (ra : Fin 32) (rb : Fin 32), RunsOnCore s (fun u => .qMin u rd ra rb 0) (Enc.r 0x00 rd ra rb 0x010) (fun
      k => (k.min rd ra rb).next)) ∧
    (∀ (rd : Fin 32) (ra : Fin 32) (rb : Fin 32), RunsOnCore s (fun u => .qMax u rd ra rb 0) (Enc.r 0x00 rd ra rb 0x011) (fun
      k => (k.max rd ra rb).next)) ∧
    (∀ (rd : Fin 32) (ra : Fin 32) (rb : Fin 32), RunsOnCore s (fun u => .qMul u rd ra rb 0) (Enc.r 0x00 rd ra rb 0x012) (fun
      k => (k.mul rd ra rb).next)) ∧
    (∀ (rd : Fin 32) (ra : Fin 32) (rb : Fin 32), RunsOnCore s (fun u => .qMulh u rd ra rb 0) (Enc.r 0x00 rd ra rb 0x013)
      (fun k => (k.mulh rd ra rb).next)) ∧
    (∀ (rd : Fin 32) (ra : Fin 32) (rb : Fin 32), RunsOnCore s (fun u => .qMulhu u rd ra rb 0) (Enc.r 0x00 rd ra rb 0x014)
      (fun k => (k.mulhu rd ra rb).next)) ∧
    (∀ (rd : Fin 32) (ra : Fin 32) (rb : Fin 32), RunsOnCore s (fun u => .qDiv u rd ra rb 0) (Enc.r 0x00 rd ra rb 0x015) (fun
      k => (k.div rd ra rb).next)) ∧
    (∀ (rd : Fin 32) (ra : Fin 32) (rb : Fin 32), RunsOnCore s (fun u => .qDivu u rd ra rb 0) (Enc.r 0x00 rd ra rb 0x016)
      (fun k => (k.divu rd ra rb).next)) ∧
    (∀ (rd : Fin 32) (ra : Fin 32) (rb : Fin 32), RunsOnCore s (fun u => .qRem u rd ra rb 0) (Enc.r 0x00 rd ra rb 0x017) (fun
      k => (k.rem rd ra rb).next)) ∧
    (∀ (rd : Fin 32) (ra : Fin 32) (rb : Fin 32), RunsOnCore s (fun u => .qRemu u rd ra rb 0) (Enc.r 0x00 rd ra rb 0x018)
      (fun k => (k.remu rd ra rb).next)) ∧
    (∀ (rd : Fin 32) (ra : Fin 32) (rb : Fin 32), RunsOnCore s (fun u => .qAdds u rd ra rb 0) (Enc.r 0x00 rd ra rb 0x019)
      (fun k => (k.adds rd ra rb).next)) ∧
    (∀ (rd : Fin 32) (ra : Fin 32) (rb : Fin 32), RunsOnCore s (fun u => .qSubs u rd ra rb 0) (Enc.r 0x00 rd ra rb 0x01A)
      (fun k => (k.subs rd ra rb).next)) ∧
    (∀ (rd : Fin 32) (ra : Fin 32), RunsOnCore s (fun u => .qAbss u rd ra 0) (Enc.r 0x00 rd ra 0 0x01B) (fun k => (k.abss rd
      ra).next)) ∧
    (∀ (rd : Fin 32) (ra : Fin 32), RunsOnCore s (fun u => .qNegs u rd ra 0) (Enc.r 0x00 rd ra 0 0x01C) (fun k => (k.negs rd
      ra).next)) ∧
    (∀ (rd : Fin 32) (ra : Fin 32) (rb : Fin 32), RunsOnCore s (fun u => .qAdds14 u rd ra rb 0) (Enc.r 0x00 rd ra rb 0x01D)
      (fun k => (k.adds14 rd ra rb).next)) ∧
    (∀ (rd : Fin 32) (ra : Fin 32) (rb : Fin 32), RunsOnCore s (fun u => .qSubs14 u rd ra rb 0) (Enc.r 0x00 rd ra rb 0x01E)
      (fun k => (k.subs14 rd ra rb).next)) ∧
    (∀ (rd : Fin 32) (ra : Fin 32) (rb : Fin 32), RunsOnCore s (fun u => .qMuls14 u rd ra rb 0) (Enc.r 0x00 rd ra rb 0x01F)
      (fun k => (k.muls14 rd ra rb).next)) ∧
    (∀ (rd : Fin 32) (ra : Fin 32), RunsOnCore s (fun u => .qSat14 u rd ra 0) (Enc.r 0x00 rd ra 0 0x020) (fun k => (k.sat14
      rd ra).next)) ∧
    (∀ (rd : Fin 32) (ra : Fin 32) (rb : Fin 32), RunsOnCore s (fun u => .qSats u rd ra rb 0) (Enc.r 0x00 rd ra rb 0x021)
      (fun k => (k.sats rd ra rb).next)) ∧
    (∀ (rd : Fin 32) (ra : Fin 32), RunsOnCore s (fun u => .qClz u rd ra 0) (Enc.r 0x00 rd ra 0 0x022) (fun k => (k.clz rd
      ra).next)) ∧
    (∀ (rd : Fin 32) (ra : Fin 32) (imm : BitVec 16), RunsOnCore s (fun u => .qAddi u rd ra imm 0) (Enc.i 0x01 rd ra
      imm.toNat) (fun k => (k.addi rd ra imm.toNat).next)) ∧
    (∀ (rd : Fin 32) (ra : Fin 32) (imm : BitVec 16), RunsOnCore s (fun u => .qAndi u rd ra imm 0) (Enc.i 0x02 rd ra
      imm.toNat) (fun k => (k.andi rd ra imm.toNat).next)) ∧
    (∀ (rd : Fin 32) (ra : Fin 32) (imm : BitVec 16), RunsOnCore s (fun u => .qOri u rd ra imm 0) (Enc.i 0x03 rd ra
      imm.toNat) (fun k => (k.ori rd ra imm.toNat).next)) ∧
    (∀ (rd : Fin 32) (ra : Fin 32) (imm : BitVec 16), RunsOnCore s (fun u => .qXori u rd ra imm 0) (Enc.i 0x04 rd ra
      imm.toNat) (fun k => (k.xori rd ra imm.toNat).next)) ∧
    (∀ (rd : Fin 32) (imm : BitVec 16), RunsOnCore s (fun u => .qLui u rd imm 0) (Enc.i 0x05 rd 0 imm.toNat) (fun k => (k.lui
      rd imm.toNat).next)) ∧
    (∀ (rd : Fin 32) (ra : Fin 32) (imm : BitVec 16), RunsOnCore s (fun u => .qSlti u rd ra imm 0) (Enc.i 0x06 rd ra
      imm.toNat) (fun k => (k.slti rd ra imm.toNat).next)) ∧
    (∀ (rd : Fin 32) (ra : Fin 32) (imm : BitVec 16) (de : Fin 3), s.ih.coreAt (Enc.i 0x08 rd ra imm.toNat) → exec (.qLdw .s
      rd ra imm 0 de) s = .next (s.ihNext ((s.ih.load s.period rd ra imm.toNat 4 false de).onCore (fun k => { k with stepping
      := false })))) ∧
    (∀ (rd : Fin 32) (ra : Fin 32) (imm : BitVec 16) (de : Fin 3), s.ih.coreAt (Enc.i 0x09 rd ra imm.toNat) → exec (.qLdh .s
      rd ra imm 0 de) s = .next (s.ihNext ((s.ih.load s.period rd ra imm.toNat 2 true de).onCore (fun k => { k with stepping
      := false })))) ∧
    (∀ (rd : Fin 32) (ra : Fin 32) (imm : BitVec 16) (de : Fin 3), s.ih.coreAt (Enc.i 0x0A rd ra imm.toNat) → exec (.qLdhu .s
      rd ra imm 0 de) s = .next (s.ihNext ((s.ih.load s.period rd ra imm.toNat 2 false de).onCore (fun k => { k with stepping
      := false })))) ∧
    (∀ (rd : Fin 32) (ra : Fin 32) (imm : BitVec 16) (de : Fin 3), s.ih.coreAt (Enc.i 0x0B rd ra imm.toNat) → exec (.qLdb .s
      rd ra imm 0 de) s = .next (s.ihNext ((s.ih.load s.period rd ra imm.toNat 1 true de).onCore (fun k => { k with stepping
      := false })))) ∧
    (∀ (rd : Fin 32) (ra : Fin 32) (imm : BitVec 16) (de : Fin 3), s.ih.coreAt (Enc.i 0x0C rd ra imm.toNat) → exec (.qLdbu .s
      rd ra imm 0 de) s = .next (s.ihNext ((s.ih.load s.period rd ra imm.toNat 1 false de).onCore (fun k => { k with stepping
      := false })))) ∧
    (∀ (rd : Fin 32) (ra : Fin 32) (imm : BitVec 16) (tick : Fin 16777216), s.ih.coreAt (Enc.i 0x0D rd ra imm.toNat) → exec
      (.qStw .s rd ra imm 0 tick) s = .next (s.ihNext ((s.ih.storeReg s.period tick rd ra imm.toNat 4).onCore (fun k => { k
      with stepping := false })))) ∧
    (∀ (rd : Fin 32) (ra : Fin 32) (imm : BitVec 16) (tick : Fin 16777216), s.ih.coreAt (Enc.i 0x0E rd ra imm.toNat) → exec
      (.qSth .s rd ra imm 0 tick) s = .next (s.ihNext ((s.ih.storeReg s.period tick rd ra imm.toNat 2).onCore (fun k => { k
      with stepping := false })))) ∧
    (∀ (rd : Fin 32) (ra : Fin 32) (imm : BitVec 16) (tick : Fin 16777216), s.ih.coreAt (Enc.i 0x0F rd ra imm.toNat) → exec
      (.qStb .s rd ra imm 0 tick) s = .next (s.ihNext ((s.ih.storeReg s.period tick rd ra imm.toNat 1).onCore (fun k => { k
      with stepping := false })))) ∧
    (∀ (ra : Fin 32) (rb : Fin 32) (ofs : BitVec 16), RunsOnCore s (fun u => .qBeq u ra rb ofs 0) (Enc.b 0x10 ra rb
      ofs.toNat) (fun k => k.beq ra rb ofs.toNat)) ∧
    (∀ (ra : Fin 32) (rb : Fin 32) (ofs : BitVec 16), RunsOnCore s (fun u => .qBne u ra rb ofs 0) (Enc.b 0x11 ra rb
      ofs.toNat) (fun k => k.bne ra rb ofs.toNat)) ∧
    (∀ (ra : Fin 32) (rb : Fin 32) (ofs : BitVec 16), RunsOnCore s (fun u => .qBlt u ra rb ofs 0) (Enc.b 0x12 ra rb
      ofs.toNat) (fun k => k.blt ra rb ofs.toNat)) ∧
    (∀ (ra : Fin 32) (rb : Fin 32) (ofs : BitVec 16), RunsOnCore s (fun u => .qBge u ra rb ofs 0) (Enc.b 0x13 ra rb
      ofs.toNat) (fun k => k.bge ra rb ofs.toNat)) ∧
    (∀ (ra : Fin 32) (rb : Fin 32) (ofs : BitVec 16), RunsOnCore s (fun u => .qBltu u ra rb ofs 0) (Enc.b 0x14 ra rb
      ofs.toNat) (fun k => k.bltu ra rb ofs.toNat)) ∧
    (∀ (ra : Fin 32) (rb : Fin 32) (ofs : BitVec 16), RunsOnCore s (fun u => .qBgeu u ra rb ofs 0) (Enc.b 0x15 ra rb
      ofs.toNat) (fun k => k.bgeu ra rb ofs.toNat)) ∧
    (∀ (cond : Fin 9) (ofs : BitVec 16), RunsOnCore s (fun u => .qBfl u cond ofs 0) (Enc.b 0x16 cond 0 ofs.toNat) (fun k =>
      k.bfl cond ofs.toNat)) ∧
    (∀ (rd : Fin 32) (ofs : BitVec 21), RunsOnCore s (fun u => .qJal u rd ofs 0) (Enc.j 0x18 rd ofs.toNat) (fun k => k.jal rd
      ofs.toNat)) ∧
    (∀ (rd : Fin 32) (ra : Fin 32) (imm : BitVec 16), RunsOnCore s (fun u => .qJalr u rd ra imm 0) (Enc.i 0x19 rd ra
      imm.toNat) (fun k => k.jalr rd ra imm.toNat)) ∧
    (∀ (acc : Fin 8) (ra : Fin 32) (rb : Fin 32), RunsOnCore s (fun u => .qMacz u acc ra rb 0) (Enc.a 0x1C 0 ra rb acc 0x01)
      (fun k => (k.macz acc ra rb).next)) ∧
    (∀ (acc : Fin 8) (ra : Fin 32) (rb : Fin 32), RunsOnCore s (fun u => .qMac u acc ra rb 0) (Enc.a 0x1C 0 ra rb acc 0x02)
      (fun k => (k.mac acc ra rb).next)) ∧
    (∀ (acc : Fin 8) (ra : Fin 32) (rb : Fin 32), RunsOnCore s (fun u => .qMsu u acc ra rb 0) (Enc.a 0x1C 0 ra rb acc 0x03)
      (fun k => (k.msu acc ra rb).next)) ∧
    (∀ (acc : Fin 8) (ra : Fin 32) (rb : Fin 32), RunsOnCore s (fun u => .qMacv u acc ra rb 0) (Enc.a 0x1C 0 ra rb acc 0x04)
      (fun k => (k.macv acc ra rb).next)) ∧
    (∀ (acc : Fin 8) (ra : Fin 32) (rb : Fin 32), RunsOnCore s (fun u => .qAccw u acc ra rb 0) (Enc.a 0x1C 0 ra rb acc 0x05)
      (fun k => (k.accw acc ra rb).next)) ∧
    (∀ (acc : Fin 8) (ra : Fin 32) (sh : Fin 17), RunsOnCore s (fun u => .qAccadd u acc ra sh 0) (Enc.a 0x1C 0 ra sh acc
      0x06) (fun k => (k.accadd acc ra sh).next)) ∧
    (∀ (rd : Fin 32) (acc : Fin 8) (sh : Fin 48), RunsOnCore s (fun u => .qAccrr u rd acc sh 0) (Enc.a 0x1C rd 0 sh acc 0x07)
      (fun k => (k.accrr rd acc sh).next)) ∧
    (∀ (rd : Fin 32) (acc : Fin 8) (sh : Fin 48), RunsOnCore s (fun u => .qAccrd u rd acc sh 0) (Enc.a 0x1C rd 0 sh acc 0x08)
      (fun k => (k.accrd rd acc sh).next)) ∧
    (∀ (rd : Fin 32) (acc : Fin 8) (sh : Fin 48), RunsOnCore s (fun u => .qAccr14 u rd acc sh 0) (Enc.a 0x1C rd 0 sh acc
      0x09) (fun k => (k.accr14 rd acc sh).next)) ∧
    (∀ (rd : Fin 32) (acc : Fin 8), RunsOnCore s (fun u => .qAcclo u rd acc 0) (Enc.a 0x1C rd 0 0 acc 0x0A) (fun k =>
      (k.acclo rd acc).next)) ∧
    (∀ (rd : Fin 32) (acc : Fin 8), RunsOnCore s (fun u => .qAcchi u rd acc 0) (Enc.a 0x1C rd 0 0 acc 0x0B) (fun k =>
      (k.acchi rd acc).next)) ∧
    (∀ (rd : Fin 32) (ra : Fin 32) (rb : Fin 32), RunsOnCore s (fun u => .qVadd u rd ra rb 0) (Enc.r 0x1D rd ra rb 0x001)
      (fun k => (k.vadd rd ra rb).next)) ∧
    (∀ (rd : Fin 32) (ra : Fin 32) (rb : Fin 32), RunsOnCore s (fun u => .qVsub u rd ra rb 0) (Enc.r 0x1D rd ra rb 0x002)
      (fun k => (k.vsub rd ra rb).next)) ∧
    (∀ (rd : Fin 32) (ra : Fin 32) (rb : Fin 32), RunsOnCore s (fun u => .qVmul u rd ra rb 0) (Enc.r 0x1D rd ra rb 0x003)
      (fun k => (k.vmul rd ra rb).next)) ∧
    (∀ (rd : Fin 32) (ra : Fin 32) (rb : Fin 32), RunsOnCore s (fun u => .qVmin u rd ra rb 0) (Enc.r 0x1D rd ra rb 0x004)
      (fun k => (k.vmin rd ra rb).next)) ∧
    (∀ (rd : Fin 32) (ra : Fin 32) (rb : Fin 32), RunsOnCore s (fun u => .qVmax u rd ra rb 0) (Enc.r 0x1D rd ra rb 0x005)
      (fun k => (k.vmax rd ra rb).next)) ∧
    (∀ (rd : Fin 32) (ra : Fin 32), RunsOnCore s (fun u => .qVabs u rd ra 0) (Enc.r 0x1D rd ra 0 0x006) (fun k => (k.vabs rd
      ra).next)) ∧
    (∀ (rd : Fin 32) (ra : Fin 32), RunsOnCore s (fun u => .qVneg u rd ra 0) (Enc.r 0x1D rd ra 0 0x007) (fun k => (k.vneg rd
      ra).next)) ∧
    (∀ (rd : Fin 32) (ra : Fin 32) (rb : Fin 32), RunsOnCore s (fun u => .qVpack u rd ra rb 0) (Enc.r 0x1D rd ra rb 0x008)
      (fun k => (k.vpack rd ra rb).next)) ∧
    (∀ (rd : Fin 32) (ra : Fin 32), RunsOnCore s (fun u => .qVsum u rd ra 0) (Enc.r 0x1D rd ra 0 0x009) (fun k => (k.vsum rd
      ra).next)) ∧
    (∀ (rd : Fin 32) (ra : Fin 32) (rb : Fin 32), RunsOnCore s (fun u => .qVdot u rd ra rb 0) (Enc.r 0x1D rd ra rb 0x00A)
      (fun k => (k.vdot rd ra rb).next)) ∧
    (∀ (rd : Fin 32) (csr : BitVec 12), s.ih.coreAt (Enc.s 0x1E rd 0 csr.toNat 0x0) → exec (.qCsrr .s rd csr 0) s = .next
      (s.ihNext ((s.ih.csrRw rd csr.toNat none).onCore (fun k => { k with stepping := false })))) ∧
    (∀ (ra : Fin 32) (csr : BitVec 12), s.ih.coreAt (Enc.s 0x1E 0 ra csr.toNat 0x1) → exec (.qCsrw .s ra csr 0) s = .next
      (s.ihNext (((s.ih.csrWrite csr.toNat (s.ih.cell.core.reg ra)).onCore (·.next)).onCore (fun k => { k with stepping :=
      false })))) ∧
    (∀ (rd : Fin 32) (ra : Fin 32) (csr : BitVec 12), s.ih.coreAt (Enc.s 0x1E rd ra csr.toNat 0x2) → exec (.qCsrs .s rd ra
      csr 0) s = .next (s.ihNext ((s.ih.csrRw rd csr.toNat (some (fun v => v ||| s.ih.cell.core.reg ra))).onCore (fun k => {
      k with stepping := false })))) ∧
    (∀ (rd : Fin 32) (ra : Fin 32) (csr : BitVec 12), s.ih.coreAt (Enc.s 0x1E rd ra csr.toNat 0x3) → exec (.qCsrc .s rd ra
      csr 0) s = .next (s.ihNext ((s.ih.csrRw rd csr.toNat (some (fun v => clearBits v (s.ih.cell.core.reg ra)))).onCore (fun
      k => { k with stepping := false })))) ∧
    (∀ (rd : Fin 32) (ra : Fin 32) (imm : BitVec 12) (ce : Fin 3), s.ih.coreAt (Enc.s 0x1E rd ra imm.toNat 0x4) → exec
      (.qWaits .s rd ra imm 0 ce) s = .next (s.ihNext ((s.ih.waits rd ra imm.toNat).onCore (fun k => { k with stepping :=
      false })))) ∧
    (s.ih.coreAt (Enc.s 0x1E 0 0 0 0xC) → exec (.qFence .s 0) s = .next (s.ihNext ((s.ih.onCore (fun k =>
      k.fence.next)).onCore (fun k => { k with stepping := false })))) ∧
    (∀ (imm : BitVec 12), s.ih.coreAt (Enc.s 0x1E 0 0 imm.toNat 0xD) → exec (.qTrap .s imm 0) s = .next (s.ihNext
      ((s.ih.coreFault s.period 9 imm.toNat).onCore (fun k => { k with stepping := false })))) ∧
    (s.ih.coreAt (Enc.s 0x1E 0 0 0 0xE) → exec (.qBrk .s 0) s = .next (s.ihNext ((s.ih.brk s.period).onCore (fun k => { k
      with stepping := false })))) ∧
    (s.ih.coreAt (Enc.s 0x1E 0 0 0 0xF) → exec (.qXret .s 0) s = .next (s.ihNext ((s.ih.xret).onCore (fun k => { k with
      stepping := false })))) ∧
    (∀ n, exec (.quillSInterrupt n) s = .next (s.ihNext (s.ih.interrupt n))) ∧
    (∀ tick, exec (.debugHalt .s tick) s = .next (s.ihNext (s.ih.debugHalt s.period tick))) ∧
    (exec (.debugResume .s) s = .next (s.ihNext s.ih.debugResume)) ∧
    (∀ tick, exec (.debugStep .s tick) s = .next (s.ihNext (s.ih.debugStep s.period tick)))

/-- Ductus (R287-R305): each command completes, by its own operation on the Gloesk. -/
def Obligations.SchedulerCommandsComplete : Prop :=
  ∀ s : State, s.gk.blocksRun = true →
    (∀ t, exec (.taskPostCmd t) s = .next (s.gkNext (s.gk.taskPost t))) ∧
    (∀ t, exec (.taskKill t) s = .next (s.gkNext (s.gk.kill t 1))) ∧
    (∀ t, exec (.taskDisable t) s = .next (s.gkNext (s.gk.kill t 0))) ∧
    (∀ t, exec (.taskEnable t) s = .next (s.gkNext (s.gk.taskEnable t))) ∧
    (∀ q ce, exec (.preemption q ce) s = .next (s.gkNext (s.gk.preemption q ce))) ∧
    (∀ t, exec (.budgetExceeded t) s = .next (s.gkNext (s.gk.budgetExceeded t))) ∧
    (∀ t, exec (.lockWaitTimeout t) s = .next (s.gkNext (s.gk.lockWaitTimeout t))) ∧
    (∀ v, exec (.coreEnableWrite v) s = .next (s.gkNext (s.gk.coreEnableWrite v.toNat))) ∧
    (∀ v, exec (.coreReturn v) s = .next (s.gkNext (s.gk.coreReturn v.toNat))) ∧
    (∀ q good, exec (.selfTestComplete q good) s = .next (s.gkNext (s.gk.selfTest q good)))

/-- Inkwell (R306-R325): each command completes, by its own operation on the Gloesk. -/
def Obligations.InkwellCommandsComplete : Prop :=
  ∀ s : State, s.gk.blocksRun = true →
    (∀ singles doubles, exec (.scrubStep singles doubles) s = .next (s.gkNext (s.gk.scrubStep singles doubles))) ∧
    (∀ rbank, exec (.spareReq rbank) s = .next (s.gkNext (s.gk.spareReq rbank))) ∧
    (exec .spareCopyComplete s = .next (s.gkNext (s.gk.spareComplete))) ∧
    (exec .layoutLock s = .next (s.gkNext (s.gk.layoutLock))) ∧
    (∀ part size, exec (.resizeQueue part size) s = .next (s.gkNext (s.gk.stagedWrite .ink R.INK_RESIZE.addr (part +
      size.toNat * 2 ^ 16)))) ∧
    (∀ all rgn, exec (.rinv all rgn) s = .next (s.gkNext (s.gk.rinv all rgn.toNat)))

/-- Twin operation (R326-R356): each command completes, by its own operation on the twin or the hub. -/
def Obligations.TwinCommandsComplete : Prop :=
  ∀ s : State,
    (s.gk.blocksRun = true →
      (exec .heartbeatSend s = .next (s.gkNext (s.gk.heartbeatSend))) ∧
      (∀ (path : Fin 2) (lane : Fin 64) (hubTwin : Fin 2) (hubClaim : Fin 65536) (tagOk : Bool) (b : Heart), (s.gk.linkOpen
        (if path = 1 then lane else 64) = true → exec (.heart path lane hubTwin hubClaim tagOk b) s = .next (s.gkNext ((if
        path = 1 then s.gk.frameSeen lane else s.gk).heart path lane hubTwin hubClaim tagOk b))) ∧ (s.gk.linkOpen (if path =
        1 then lane else 64) = false → exec (.heart path lane hubTwin hubClaim tagOk b) s = .next (s.gkNext s.gk))) ∧
      (exec .handoverCmd s = .next (s.gkNext (s.gk.stagedWrite .twn R.TWN_CTRL.addr 1))) ∧
      (∀ k, exec (.handoverDeadline k) s = .next (s.gkNext (s.gk.hoDeadline k))) ∧
      (exec .drill s = .next (s.gkNext (s.gk.drill))) ∧
      (exec .revert s = .next (s.gkNext (s.gk.revert))) ∧
      (∀ view, exec (.joinRequest view) s = .next (s.gkNext (s.gk.joinRequest view))) ∧
      (∀ (o : StateObj), (s.gk.linkOpen 64 = true → exec (.stateFrame o) s = .next (s.gkNext (s.gk.stateFrame o))) ∧
        (s.gk.linkOpen 64 = false → exec (.stateFrame o) s = .next (s.gkNext s.gk))) ∧
      (exec .joinTimeout s = .next (s.gkNext (s.gk.joinTimeout))) ∧
      (∀ slot lo, exec (.bundleCommit slot lo) s = .next (s.gkNext (s.gk.bundleCommit slot lo.toNat)))) ∧
    (∀ (u : Fin 2) (b : Heart), (s.sk.linkOpen u = true → exec (.hubHeartRelay u b) s = .next (s.skNext (s.sk.heartRelay u
      b))) ∧ (s.sk.linkOpen u = false → exec (.hubHeartRelay u b) s = .next (s.skNext s.sk)))

/-- The Blotter (R357-R379): each command completes, at the part whose source or record it concerns. -/
def Obligations.BlotterCommandsComplete : Prop :=
  ∀ s : State,
    (s.gk.blocksRun = true →
      (∀ n who, exec (.causeRise .gloesk n who) s = .next (s.gkNext (s.gk.raise n who))) ∧
      (∀ n who, exec (.causeFall .gloesk n who) s = .next (s.gkNext (s.gk.lower n who))) ∧
      (∀ n, exec (.eventCauseExpiry .gloesk n) s = .next (s.gkNext (s.gk.eventExpiry n))) ∧
      (∀ n, exec (.persistenceMet n) s = .next (s.gkNext (s.gk.persistenceMet n))) ∧
      (∀ a, exec (.actionNotice a) s = .next (s.gkNext (s.gk.actionNotice a))) ∧
      (∀ n, exec (.alertPulseEnd n) s = .next (s.gkNext (s.gk.alertPulseEnd n))) ∧
      (∀ n, exec (.alertRel n) s = .next (s.gkNext (s.gk.alertRel n))) ∧
      (∀ n, exec (.alertPinFault n) s = .next (s.gkNext (s.gk.alertPinFault n))) ∧
      (∀ arms trip, exec (.bltRelWrite arms trip) s = .next (s.gkNext (s.gk.writeReg 0 R.BLT_REL.addr (arms.toNat +
        trip.toNat * 2 ^ 16) 15))) ∧
      (∀ x, exec (.bltCrel x) s = .next (s.gkNext (s.gk.stagedWrite .blt R.BLT_CREL.addr x))) ∧
      (∀ n, exec (.sourceClear .gloesk n) s = .next (s.gkNext (s.gk.sourceClear n))) ∧
      (∀ n x, exec (.sourceForce .gloesk n x) s = .next (s.gkNext (s.gk.sourceForce n x))) ∧
      (∀ rs, exec (.blotterBlock rs) s = .next (s.gkNext (s.gk.blotterBlock rs))) ∧
      (exec .logPop s = .next (s.gkNext (s.gk.logPop))) ∧
      (∀ who, exec (.log0Read who) s = .next (s.gkNext (s.gk.log0Read who))) ∧
      (∀ who n last, exec (.sourceFirstRead who n last) s = .next (s.gkNext (s.gk.sourceTimeRead who n last))) ∧
      (∀ who, exec (.cbdataRead who) s = .next (s.gkNext (s.gk.cbdataRead who))) ∧
      (exec .incidentClear s = .next (s.gkNext (s.gk.incidentClear)))) ∧
    (∀ n who, exec (.causeRise .stanak n who) s = .next (s.skNext (s.sk.raise n))) ∧
    (∀ n who, s.ih.mainRuns = true → exec (.causeRise .ihloon n who) s = .next (s.ihNext (s.ih.raise n))) ∧
    (∀ n who, exec (.causeFall .stanak n who) s = .next (s.skNext (s.sk.lower n))) ∧
    (∀ n who, s.ih.mainRuns = true → exec (.causeFall .ihloon n who) s = .next (s.ihNext (s.ih.lower n))) ∧
    (∀ n, exec (.eventCauseExpiry .stanak n) s = .next (s.skNext (s.sk.eventExpiry n))) ∧
    (∀ n, s.ih.mainRuns = true → exec (.eventCauseExpiry .ihloon n) s = .next (s.ihNext (s.ih.eventExpiry n))) ∧
    (∀ n, exec (.sourceClear .stanak n) s = .next (s.skNext (s.sk.sourceClear n))) ∧
    (∀ n, s.ih.mainRuns = true → exec (.sourceClear .ihloon n) s = .next (s.ihNext (s.ih.sourceClear n))) ∧
    (∀ n x, exec (.sourceForce .stanak n x) s = .next (s.skNext (s.sk.sourceForce n x))) ∧
    (∀ n x, s.ih.mainRuns = true → exec (.sourceForce .ihloon n x) s = .next (s.ihNext (s.ih.sourceForce n x))) ∧
    (∀ c rs, exec (.hubBlotterRead (some c) rs) s = .next (s.skNext (s.sk.blotterCell c rs))) ∧
    (∀ rs, exec (.hubBlotterRead none rs) s = .next (s.skNext s.sk.blotterOwn)) ∧
    (∀ c, exec (.blotterReadRetry c) s = .next (s.skNext (s.sk.blotterRetry c))) ∧
    (∀ w, exec (.changedBitmapRead true w) s = .next (s.ihNext (s.ih.changedRead w))) ∧
    (∀ w, exec (.changedBitmapRead false w) s = .next (s.skNext (s.sk.changedRead w)))

/-- Folio (R380-R396): each command completes, by its own operation on the Gloesk. -/
def Obligations.RecorderCommandsComplete : Prop :=
  ∀ s : State, s.gk.blocksRun = true →
    (∀ n, exec (.folioArm n) s = .next (s.gkNext (s.gk.folioArm n))) ∧
    (∀ n, exec (.folioTrig n) s = .next (s.gkNext (s.gk.folioTrig n))) ∧
    (∀ n, exec (.folioFree n) s = .next (s.gkNext (s.gk.folioFree n))) ∧
    (∀ n, exec (.folioAbort n) s = .next (s.gkNext (s.gk.folioAbort n))) ∧
    (∀ p rise tenths, exec (.triginEdge p rise tenths) s = .next (s.gkNext ((s.gk.triginEdge p rise tenths).iff rise
      (·.aqTrigin p)))) ∧
    (∀ n, exec (.finalisationComplete n) s = .next (s.gkNext (s.gk.finalise n))) ∧
    (exec .streamUnit s = .next (s.gkNext (s.gk.streamUnit))) ∧
    (∀ v, exec (.srrptrWrite v) s = .next (s.gkNext (s.gk.wr F.FOL_SRRPTR_RPTR v.toNat))) ∧
    (∀ who p, exec (.folTts0Read who p) s = .next (s.gkNext (s.gk.tts0Read who p)))

/-- The serial lanes and cell links (R397-R419): each command completes at every lane end that can take it. -/
def Obligations.LaneCommandsComplete : Prop :=
  ∀ s : State,
    (s.gk.blocksRun = true →
      (∀ n, exec (.txSettleDone (.gl n)) s = .next (s.gkNext (s.gk.txSettled n))) ∧
      (∀ n, exec (.trainEnd (.gl n)) s = .next (s.gkNext (s.gk.txTrained n))) ∧
      (∀ n, exec (.signalDetect (.gl n)) s = .next (s.gkNext (s.gk.rxStep n 0 1))) ∧
      (∀ n, exec (.cdrLock (.gl n)) s = .next (s.gkNext (s.gk.rxStep n 1 2))) ∧
      (∀ n seen, exec (.pilotLock (.gl n) seen) s = .next (s.gkNext (s.gk.pilotLock n (seen.map (·.val))))) ∧
      (∀ n devid step, exec (.laneUp (.gl n) devid step) s = .next (s.gkNext (s.gk.laneUp n devid step))) ∧
      (∀ n line tags, exec (.codeword (.gl n) line tags) s = .next (s.gkNext (s.gk.codeword n (line.map (·.val)) tags))) ∧
      (∀ (n : Fin 68), exec (.lossOfSignal (.gl n)) s = .next (s.gkNext ((s.gk.iff (s.gk.rd F.LAN_L_STAT_RXST n == 4)
        (·.onLine n LineRx.drop)).rxStep n 4 5))) ∧
      (∀ n, exec (.signalReturn (.gl n)) s = .next (s.gkNext (s.gk.rxStep n 5 4))) ∧
      (∀ n, exec (.holdTimeout (.gl n)) s = .next (s.gkNext (s.gk.rxHoldEnd n))) ∧
      (∀ n mu sd, exec (.fomRefresh (.gl n) mu sd) s = .next (s.gkNext (s.gk.fomRefresh n mu sd))) ∧
      (∀ n, exec (.calRequest n) s = .next (s.gkNext (s.gk.calRequest n))) ∧
      (∀ n, exec (.calWindowStart (.gl n)) s = .next (s.gkNext (s.gk.winStart n))) ∧
      (∀ n, exec (.calWindowEnd (.gl n)) s = .next (s.gkNext (s.gk.winEnd n))) ∧
      (∀ lane gneed uneed, exec (.hubCalPoll lane gneed uneed) s = .next (s.gkNext (s.gk.hubCalPoll lane gneed uneed))) ∧
      (∀ n, exec (.ucwSecond n) s = .next (s.gkNext (s.gk.ucwSecond n))) ∧
      (∀ n, exec (.synthesiserDrift (.gl n)) s = .next (s.gkNext (s.gk.txDrift n)))) ∧
    (∀ n, exec (.txSettleDone (.up n)) s = .next (s.skNext (s.sk.upSettled n))) ∧
    (∀ n, exec (.txSettleDone (.port n)) s = .next (s.skNext (s.sk.portSettled n))) ∧
    (∀ n, exec (.txSettleDone (.lk n)) s = .next (s.ihNext (s.ih.txSettled n))) ∧
    (∀ n, exec (.trainEnd (.up n)) s = .next (s.skNext (s.sk.upTrained n))) ∧
    (∀ n, exec (.trainEnd (.port n)) s = .next (s.skNext (s.sk.portTrained n))) ∧
    (∀ n, exec (.trainEnd (.lk n)) s = .next (s.ihNext (s.ih.txTrained n))) ∧
    (∀ n, exec (.signalDetect (.up n)) s = .next (s.skNext (s.sk.upRx n 0 1))) ∧
    (∀ n, exec (.signalDetect (.port n)) s = .next (s.skNext (s.sk.portRx n 0 1))) ∧
    (∀ n, exec (.signalDetect (.lk n)) s = .next (s.ihNext (s.ih.rxStep n 0 1))) ∧
    (∀ n, exec (.cdrLock (.up n)) s = .next (s.skNext (s.sk.upRx n 1 2))) ∧
    (∀ n, exec (.cdrLock (.port n)) s = .next (s.skNext (s.sk.portRx n 1 2))) ∧
    (∀ n, exec (.cdrLock (.lk n)) s = .next (s.ihNext (s.ih.rxStep n 1 2))) ∧
    (∀ n seen, exec (.pilotLock (.up n) seen) s = .next (s.skNext (s.sk.pilotLock n (seen.map (·.val))))) ∧
    (∀ n devid step, exec (.laneUp (.up n) devid step) s = .next (s.skNext (s.sk.upUp n))) ∧
    (∀ n line tags, exec (.codeword (.up n) line tags) s = .next (s.skNext (s.sk.codeword (s.gk.rd F.SEC_LIM_GCMF) n
      (line.map (·.val)) tags))) ∧
    (∀ (n : Fin 2), exec (.lossOfSignal (.up n)) s = .next (s.skNext ((s.sk.iff (s.sk.rd F.HLAN_L_STAT_RXST n == 4) (·.onLine
      n LineRx.drop)).upRx n 4 5))) ∧
    (∀ n, exec (.lossOfSignal (.port n)) s = .next (s.skNext (s.sk.portRx n 3 4))) ∧
    (∀ n, exec (.lossOfSignal (.lk n)) s = .next (s.ihNext (s.ih.rxStep n 3 4))) ∧
    (∀ n, exec (.signalReturn (.up n)) s = .next (s.skNext (s.sk.upRx n 5 4))) ∧
    (∀ n, exec (.signalReturn (.port n)) s = .next (s.skNext (s.sk.portRx n 4 3))) ∧
    (∀ n, exec (.signalReturn (.lk n)) s = .next (s.ihNext (s.ih.rxStep n 4 3))) ∧
    (∀ n, exec (.holdTimeout (.up n)) s = .next (s.skNext (s.sk.upHoldEnd n))) ∧
    (∀ n, exec (.holdTimeout (.port n)) s = .next (s.skNext (s.sk.portHoldEnd n))) ∧
    (∀ n, exec (.holdTimeout (.lk n)) s = .next (s.ihNext (s.ih.rxHoldEnd n))) ∧
    (∀ n mu sd, exec (.fomRefresh (.up n) mu sd) s = .next (s.skNext (s.sk.fomRefresh n mu sd))) ∧
    (∀ n, exec (.calWindowEnd (.up n)) s = .next (s.skNext (s.sk.upWinEnd n))) ∧
    (∀ n, exec (.calWindowEnd (.port n)) s = .next (s.skNext (s.sk.portWinEnd n))) ∧
    (∀ port, exec (.hubCalGrant port) s = .next (s.skNext (s.sk.calGrant port))) ∧
    (∀ (c : Fin 192) fom, s.sk.populated c = true → exec (.cellLinkUp (.port c) fom) s = .next (s.skNext (s.sk.portUp c fom))) ∧
    (∀ n fom, s.ih.mainRuns = true → exec (.cellLinkUp (.lk n) fom) s = .next (s.ihNext (s.ih.linkUp n fom))) ∧
    (∀ c viol disp disc silent, exec (.cellLinkDown (.port c) viol disp disc silent) s = .next (s.skNext (s.sk.portDown c
      viol disp disc silent))) ∧
    (∀ n viol disp disc silent, exec (.cellLinkDown (.lk n) viol disp disc silent) s = .next (s.ihNext (s.ih.linkDown n viol
      disp disc))) ∧
    (exec .ihloonTxWindow s = .next (s.ihNext (s.ih.txWindow))) ∧
    (exec .ihloonTxWindowEnd s = .next (s.ihNext (s.ih.txWindowEnd))) ∧
    (∀ n, exec (.synthesiserDrift (.up n)) s = .next (s.skNext (s.sk.upDrift n))) ∧
    (∀ n, exec (.synthesiserDrift (.port n)) s = .next (s.skNext (s.sk.portDrift n))) ∧
    (∀ n, exec (.synthesiserDrift (.lk n)) s = .next (s.ihNext s.ih.txDrift))

/-- Security and identity (R420-R440): each command completes at the part it names. -/
def Obligations.SecurityCommandsComplete : Prop :=
  ∀ s : State,
    (s.gk.blocksRun = true →
      (∀ link certOk, exec (.attestChallenge .gloesk link certOk) s = .next (s.gkNext (s.gk.attestChallenge certOk))) ∧
      (∀ pos plane ev other, exec (.attestEvidence false pos plane ev other) s = .next (s.gkNext (s.gk.attestEvidence pos
        plane ev))) ∧
      (∀ pos, exec (.attestRetry false pos) s = .next (s.gkNext (s.gk.attestRetry pos))) ∧
      (∀ (pos : Fin 8192) (plane : Fin 2) (ev : Evidence) (verdict : Fin 4) (sentAt : Nat), (s.gk.linkOpen 64 = true → exec
        (.evidenceRecord pos plane ev verdict sentAt) s = .next (s.gkNext (s.gk.evidenceRecord pos plane ev verdict sentAt)))
        ∧ (s.gk.linkOpen 64 = false → exec (.evidenceRecord pos plane ev verdict sentAt) s = .next (s.gkNext s.gk))) ∧
      (∀ slot ecdsa mldsa digest hash body, exec (.bundleLoad slot ecdsa mldsa digest hash body) s = .next (s.gkNext
        (s.gk.bundleLoad slot ecdsa mldsa digest hash body))) ∧
      (exec .loadComplete s = .next (s.gkNext (s.gk.loadComplete))) ∧
      (∀ usage, exec (.provisioningWrite .gloesk usage) s = .next (s.gkNext (s.gk.provision usage))) ∧
      (exec (.epochTimer false) s = .next (s.gkNext (s.gk.epochTimer))) ∧
      (∀ e nonce perm, exec (.debugToken .gloesk e nonce perm) s = .next (s.gkNext (s.gk.debugToken e nonce perm))) ∧
      (exec (.debugClose .gloesk) s = .next (s.gkNext (s.gk.debugClose))) ∧
      (exec (.debugExpiry .gloesk) s = .next (s.gkNext (s.gk.debugExpiry))) ∧
      (∀ who, exec (.dbgchalRead .gloesk who) s = .next (s.gkNext (s.gk.dbgchalRead who))) ∧
      (∀ who, exec (.posdataRead who) s = .next (s.gkNext (s.gk.posdataRead who))) ∧
      (exec (.entropyFailure .gloesk) s = .next (s.gkNext (s.gk.entropyFailure)))) ∧
    (∀ link certOk, exec (.attestChallenge .stanak link certOk) s = .next (s.skNext (s.sk.attestChallenge link certOk))) ∧
    (∀ link certOk, s.ih.mainRuns = true → exec (.attestChallenge .ihloon link certOk) s = .next (s.ihNext
      (s.ih.attestChallenge link certOk))) ∧
    (∀ pos plane ev other, exec (.attestEvidence true pos plane ev other) s = .next (s.skNext (if s.sk.populated (pos % 256)
      then s.sk.attestEvidence (pos % 256) ev other else s.sk))) ∧
    (∀ pos, exec (.attestRetry true pos) s = .next (s.skNext (if s.sk.populated (pos % 256) then s.sk.attestRetry (pos % 256)
      else s.sk))) ∧
    (∀ usage, exec (.provisioningWrite .stanak usage) s = .next (s.skNext (s.sk.provision usage))) ∧
    (∀ usage, s.ih.mainRuns = true → exec (.provisioningWrite .ihloon usage) s = .next (s.ihNext (s.ih.provision usage))) ∧
    (exec (.epochTimer true) s = .next (s.skNext (s.sk.epochTimer))) ∧
    (∀ e nonce perm, exec (.debugToken .stanak e nonce perm) s = .next (s.skNext (s.sk.deliver s.period e (.token nonce
      perm)))) ∧
    (∀ e nonce perm, s.ih.mainRuns = true → exec (.debugToken .ihloon e nonce perm) s = .next (s.ihNext (s.ih.deliver
      s.period e (.token nonce perm)))) ∧
    (exec (.debugClose .stanak) s = .next (s.skNext (s.sk.debugClose))) ∧
    (s.ih.mainRuns = true → exec (.debugClose .ihloon) s = .next (s.ihNext (s.ih.debugClose))) ∧
    (exec (.debugExpiry .stanak) s = .next (s.skNext (s.sk.debugClose))) ∧
    (s.ih.mainRuns = true → exec (.debugExpiry .ihloon) s = .next (s.ihNext (s.ih.debugClose))) ∧
    (∀ who, exec (.dbgchalRead .stanak who) s = .next (s.skNext (s.sk.newNonce))) ∧
    (∀ who, s.ih.mainRuns = true → exec (.dbgchalRead .ihloon who) s = .next (s.ihNext (s.ih.newNonce))) ∧
    (exec (.entropyFailure .stanak) s = .next (s.skNext (s.sk.entropyFailure))) ∧
    (s.ih.mainRuns = true → exec (.entropyFailure .ihloon) s = .next (s.ihNext (s.ih.entropyFailure)))

/-- The host interface (R441-R454): each command completes; HST and PWR answer while the other blocks are held. -/
def Obligations.HostCommandsComplete : Prop :=
  ∀ s : State,
    (s.gk.blocksRun = true →
      (∀ (a : BitVec 24) v be hit, State.heldBlock a.toNat = false → exec (.registerWrite a v be hit) s = .next (s.gkNext
        (s.gk.hostWrite a.toNat v.toNat be hit.toNat))) ∧
      (∀ n ofs count shapeOk, exec (.hubWindowRead n ofs count shapeOk) s = .next (s.gkNext (s.gk.hubRequest 0 0 n ofs.toNat
        count true shapeOk []))) ∧
      (∀ n ofs ws shapeOk, exec (.hubWindowWrite n ofs ws shapeOk) s = .next (s.gkNext (s.gk.hubRequest 0 0 n ofs.toNat
        ws.length false shapeOk (natsOf ws)))) ∧
      (∀ n twin claim tid code ws, exec (.hubWindowResponse n twin claim tid code ws) s = .next (s.gkNext ((s.gk.header n
        twin claim).hubResponse n tid code (natsOf ws)))) ∧
      (∀ n, exec (.hubWindowTimeout n) s = .next (s.gkNext (s.gk.hubTimeout n))) ∧
      (∀ x ws, exec (.dataPortWrite x ws) s = .next (s.gkNext (s.gk.portWrite x (ws.map (fun e => (e.1.toNat, e.2.val)))))) ∧
      (∀ x n find, exec (.dataPortRead x n find) s = .next (s.gkNext (s.gk.portRead x n find))) ∧
      (∀ (who : Fin 17) (a : BitVec 24) hit, (who.val ≠ 0 ∨ Gloesk.debugAt a.toNat = none) → State.heldBlock a.toNat = false
        → exec (.registerReadClear who a hit) s = .next (s.gkNext (s.gk.readClear who a.toNat hit))) ∧
      (∀ (a : BitVec 24) hit, (Gloesk.debugAt a.toNat).isSome = true → exec (.registerReadClear 0 a hit) s = .next (s.gkNext
        ((s.gk.hostRead a.toNat).1.answer 0 [(s.gk.hostRead a.toNat).2])))) ∧
    (∀ perst, exec (.endpointReset perst) s = .next (s.gkNext (s.gk.endpointReset perst))) ∧
    (exec .pcieLinkDown s = .next (s.gkNext (s.gk.linkLost))) ∧
    (∀ (a : BitVec 24) v be hit, State.heldBlock a.toNat = true → exec (.registerWrite a v be hit) s = .next (s.gkNext
      (s.gk.hostWrite a.toNat v.toNat be hit.toNat))) ∧
    (exec .herrClear s = .next (s.gkNext (s.gk.herrClear))) ∧
    (exec .dataPortAdv s = .next (s.gkNext (s.gk.portAdv))) ∧
    (∀ isRead x n, exec (.dataPortTimeout isRead x n) s = .next (s.gkNext (s.gk.portTimeout isRead x n))) ∧
    (∀ who, exec (.dpstatRead who) s = .next (s.gkNext (s.gk.dpstatRead who))) ∧
    (∀ v, exec (.doorbell v) s = .next (s.gkNext (s.gk.doorbell v.toNat))) ∧
    (∀ v, exec (.msixUnmask v) s = .next (s.gkNext (s.gk.msixUnmask v))) ∧
    (∀ width speed, exec (.pcieLinkUp width speed) s = .next (s.gkNext (s.gk.linkTrained width speed))) ∧
    (∀ (who : Fin 17) (a : BitVec 24) hit, (who.val ≠ 0 ∨ Gloesk.debugAt a.toNat = none) → State.heldBlock a.toNat = true →
      exec (.registerReadClear who a hit) s = .next (s.gkNext (s.gk.readClear who a.toNat hit)))

/-- Power, thermal behaviour and start-up (R455-R474): each command completes, held blocks or not, but the cell load queue. -/
def Obligations.PowerCommandsComplete : Prop :=
  ∀ s : State,
    (s.gk.blocksRun = true →
      (∀ x, exec (.cellLoadQueue x) s = .next (s.gkNext (s.gk.cellLoad x)))) ∧
    (∀ cause, exec (.partReset cause) s = .next (s.gkNext (s.gk.resetPart cause))) ∧
    (exec .reboot s = .next (s.gkNext (s.gk.reboot))) ∧
    (exec .bootRelease s = .next (s.gkNext (s.gk.bootRelease))) ∧
    (∀ e entry sections, exec (.imageVerified e entry sections) s = .next (s.gkNext (s.gk.imageVerified e entry.toNat
      sections))) ∧
    (∀ bad, exec (.railFault true bad) s = .next (s.skNext (s.sk.railFault bad))) ∧
    (∀ bad, exec (.railFault false bad) s = .next (s.gkNext (s.gk.railFault bad))) ∧
    (exec .refclkFault s = .next (s.gkNext (s.gk.refclkFault))) ∧
    (∀ power floor energy, exec (.plannerTick power floor energy) s = .next (s.gkNext (s.gk.plannerTick power floor energy))) ∧
    (∀ thermal, exec (.shedStep thermal) s = .next (s.gkNext (s.gk.shedStep thermal))) ∧
    (∀ tj sensor, exec (.thermalSample true tj sensor) s = .next (s.skNext (s.sk.thermalSample tj))) ∧
    (∀ tj sensor, exec (.thermalSample false tj sensor) s = .next (s.gkNext (s.gk.thermalSample tj sensor))) ∧
    (exec .thermalTrip s = .next (s.gkNext (s.gk.thermalTrip))) ∧
    (∀ v, exec (.qgateWrite v) s = .next (s.gkNext (s.gk.qgateWrite v.toNat))) ∧
    (∀ who, exec (.dxdataRead who) s = .next (s.gkNext (s.gk.dxdataRead who))) ∧
    (∀ port op mode len, exec (.flashCommand port op mode len) s = .next (s.gkNext (s.gk.flashCommand port op.toNat mode
      len))) ∧
    (∀ data, exec (.flashCommandDone data) s = .next (s.gkNext (s.gk.flashDone data))) ∧
    (exec .hubReset s = .next (s.skNext (s.sk.hubReset))) ∧
    (∀ (u : Fin 2) (cell : Bool) (port : Fin 192) (ofs : Nat) (data : List Nat) (last : Bool), (s.sk.linkOpen u = true → exec
      (.imageFrame u cell port ofs data last) s = .next (s.skNext (s.sk.imageFrame u cell port ofs data last))) ∧
      (s.sk.linkOpen u = false → exec (.imageFrame u cell port ofs data last) s = .next (s.skNext s.sk))) ∧
    (∀ e, exec (.hubImageVerify e) s = .next (s.skNext (s.sk.imageVerify e))) ∧
    (exec .hubFailWait s = .next (s.skNext (s.sk.failWait))) ∧
    (exec .hubRestart s = .next (s.skNext (s.sk.hubReset)))

/-! ## What the rules of each chapter say -/

/-- An announcing master port sends the clockClass of PTP_STATUS.STATE (R35): the grandmaster's in LOCKED, 7 in HOLDOVER
within PTP_HOLDSPEC and 52 after it, 52 in SUSPECT, 255 in FREE and ACQUIRE. -/
def Obligations.AnnounceCarriesTheClockClass : Prop :=
  ∀ (s : State) (port : Fin 4), s.gk.blocksRun = true → s.gk.on F.PTP_CTRL_EN = true → s.gk.rd F.PTP_P_CFG_ROLE port = 2 →
    ∃ cls, exec (.announceTransmit port) s = .next (s.gkNext ((s.gk.send .ptpAnnounce
        [port, s.gk.seqOf (4 + port), cls, s.gk.reg R.PTP_UTC]).seqNext (4 + port) 65536)) ∧
      (s.gk.rd F.PTP_STATUS_STATE = 2 → cls = s.gk.time.gmClass) ∧
      (s.gk.rd F.PTP_STATUS_STATE = 3 → s.gk.time.holdExc = false → cls = 7) ∧
      (s.gk.rd F.PTP_STATUS_STATE = 3 → s.gk.time.holdExc = true → cls = 52) ∧
      (s.gk.rd F.PTP_STATUS_STATE = 4 → cls = 52) ∧
      (s.gk.rd F.PTP_STATUS_STATE = 0 ∨ s.gk.rd F.PTP_STATUS_STATE = 1 → cls = 255)

/-- A write of PTP_PERIOD is accepted only while the stroke cycle is stopped and for a legal period; any other write leaves
the register and counts REJ (R28, R29). -/
def Obligations.PeriodWriteIsGuarded : Prop :=
  ∀ (s : State) (v : Word), s.gk.blocksRun = true →
    ∃ g, exec (.ptpPeriodWrite v) s = .next (s.gkNext g) ∧
      (s.gk.running = false ∧ 500 ≤ v.toNat ∧ v.toNat ≤ 20000 ∧ 1000000000 % v.toNat = 0 → g.period = v.toNat) ∧
      (s.gk.running = true ∨ v.toNat < 500 ∨ 20000 < v.toNat ∨ 1000000000 % v.toNat ≠ 0 →
        g.period = s.gk.period ∧ g = s.gk.inc F.PTP_ERRCNT_REJ)

/-- A time exchange over the uplink that the hub follows (R41), whose receiver is UP with keys in place: an unlocked hub corrects its time by the offset
(t2 − t1) − ((t4 − t1) − (t3 − t2) + a) / 2 at once, a locked one keeps it as a phase to slew; over the other uplink its time stays.
In a stroke a locked follower moves by at most the limit, by all of the phase where that is less, and what it moves by is taken
off the phase. Units: stamps 2^-16 ns, asymmetry 10 ps, offsets 1/13107200 ns. -/
def Obligations.ExchangeMovesTheHub : Prop :=
  (∀ (f : Follower) (l : FollowLimits),
    (f.slewStroke l).applied + (f.slewStroke l).phase = f.applied + f.phase ∧
    ((f.slewStroke l).applied - f.applied).natAbs = min f.phase.natAbs l.slew ∧
    (f.slewStroke l).locked = f.locked ∧ (f.slewStroke l).side = f.side) ∧
  ∀ (s : State) (u : Fin 65) (twin : Fin 2) (claim : Fin 65536) (seq : Fin 256) (t1 t2 t3 t4 : Int), u.val < 2 →
    s.sk.linkOpen u = true →
    ∃ t, exec (.timeFrameReceived .stanak u twin claim false seq t1 t2 t3 t4) s = .next t ∧ t.gk = s.gk ∧ t.ih = s.ih ∧
      (u.val = s.sk.follow.side → s.sk.follow.locked = false → 2 * t.sk.follow.applied = 2 * s.sk.follow.applied +
        (400 * (t2 - t1) - 200 * ((t4 - t1) - (t3 - t2)) - 131072 * s.gk.laneAsym s.sk.lane) ∧ t.sk.follow.phase = 0) ∧
      (u.val = s.sk.follow.side → s.sk.follow.locked = true → t.sk.follow.applied = s.sk.follow.applied ∧
        2 * t.sk.follow.phase = 400 * (t2 - t1) - 200 * ((t4 - t1) - (t3 - t2)) - 131072 * s.gk.laneAsym s.sk.lane) ∧
      (u.val ≠ s.sk.follow.side → t.sk.follow.applied = s.sk.follow.applied ∧ t.sk.follow.phase = s.sk.follow.phase ∧
        t.sk.follow.locked = s.sk.follow.locked)

/-- On every fabric clock the accumulator takes v × 2^16 modulo 2^64 (R47), Baseline time moves on, and the velocity stays. -/
def Obligations.ClockAddsTheVelocity : Prop :=
  ∀ s : State, s.gk.blocksRun = true →
    ∃ t, exec .fabricClock s = .next t ∧ t.sk = s.sk ∧ t.ih = s.ih ∧
      ofS 64 t.gk.rul.acc = (ofS 64 s.gk.rul.acc + ofS 64 (s.gk.rul.vel * 2 ^ 16)) % 2 ^ 64 ∧
      t.gk.rul.vel = s.gk.rul.vel ∧ t.gk.time = (s.gk.moveTime s.gk.clockInc).time ∧ t.gk.lpe = s.gk.lpe ∧ t.gk.svi = s.gk.svi

/-- A write of RUL_ANGLE loads the angle and clears the fraction while the stroke cycle is stopped and SRC_ACT is 0; at any
other time the accumulator stays (R50). -/
def Obligations.AngleWriteIsGuarded : Prop :=
  ∀ (s : State) (v : Word), s.gk.blocksRun = true →
    ∃ t, exec (.rulAngleWrite v) s = .next t ∧ t.gk.time = s.gk.time ∧ t.gk.rul.vel = s.gk.rul.vel ∧ t.sk = s.sk ∧ t.ih = s.ih ∧
      (s.gk.running = false → s.gk.rd F.RUL_STATUS_SRC_ACT = 0 → t.gk.rul = { s.gk.rul with acc := (v.toNat : Int) * 2 ^ 32 }) ∧
      (s.gk.running = true ∨ s.gk.rd F.RUL_STATUS_SRC_ACT ≠ 0 → t.gk.rul = s.gk.rul ∧
        t = s.gkNext ((s.gk.up F.RUL_STATUS_SET_REJ).inc F.RUL_ERRCNT_REJ))

/-- A cancelled record (R53): afterwards the block holds no pending record that has not been exchanged, its shadow set stays,
and no other block's records change. -/
def Obligations.CancelDropsPendingRecords : Prop :=
  ∀ (s : State) (b : Blk), s.gk.blocksRun = true →
    ∃ t, exec (.recordCancel b) s = .next t ∧
      (t.gk.stagedOf b).pending = (s.gk.stagedOf b).pending.filter (·.exchanged) ∧
      (t.gk.stagedOf b).shadow = (s.gk.stagedOf b).shadow ∧
      (∀ b' : Blk, b'.idx ≠ b.idx → t.gk.stagedOf b' = s.gk.stagedOf b') ∧ t.gk.time = s.gk.time ∧ t.gk.rul = s.gk.rul

/-- The loop words that compute from A and B alone write the result, saturated at the width of D, to local D of the slot and
to no other local (R102, R103, R107). -/
def Obligations.LoopWordsWriteTheirLocal : Prop :=
  ∀ (s : State) (lane : Fin 8) (win : LoopWindow) (ln : LaneState) (n : Nat), s.gk.blocksRun = true → ln.skip = 0 →
    let f := loopFields (s.gk.loopWordAt (s.gk.rd F.LPE_SLOT_CFG0_START n + ln.pc))
    let a := s.gk.operand win ln n f.a
    let b := s.gk.operand win ln n f.b
    ∀ e ∈ [(Instr.loopMov lane, 0x01, a), (Instr.loopAdd lane, 0x02, a + b), (Instr.loopSub lane, 0x03, a - b),
        (Instr.loopMax lane, 0x09, max a b), (Instr.loopMin lane, 0x0A, min a b), (Instr.loopAbs lane, 0x0C, (a.natAbs : Int)),
        (Instr.loopNeg lane, 0x0D, -a)],
      s.gk.laneAt lane win ln n e.2.1 → ∃ t, exec e.1 s = .next t ∧
        (∀ j, Tab.get 0 t.gk.lpe.locals j = if j = n * 16 + f.d then BitVec.ofInt 32 (satS f.w e.2.2)
          else Tab.get 0 s.gk.lpe.locals j) ∧
        t.gk.lpe.prog = s.gk.lpe.prog ∧ t.gk.lpe.coef = s.gk.lpe.coef ∧ t.gk.lpe.buffer = s.gk.lpe.buffer ∧
        t.gk.time = s.gk.time ∧ t.gk.rul = s.gk.rul ∧ t.sk = s.sk ∧ t.ih = s.ih

/-- OUT clamps operand A to YMIN–YMAX as the slot's computed output (R114) and writes no local; a skipped OUT leaves the output
as it was. -/
def Obligations.OutClampsTheOutput : Prop :=
  ∀ (s : State) (lane : Fin 8) (win : LoopWindow) (ln : LaneState) (n : Nat), s.gk.blocksRun = true →
    s.gk.laneAt lane win ln n 0x12 →
    let f := loopFields (s.gk.loopWordAt (s.gk.rd F.LPE_SLOT_CFG0_START n + ln.pc))
    let lo := s.gk.rdS F.LPE_SLOT_YMIN_YMIN n
    let hi := s.gk.rdS F.LPE_SLOT_YMAX_YMAX n
    ∃ t, exec (.loopOut lane) s = .next t ∧ t.gk.lpe.locals = s.gk.lpe.locals ∧
      (ln.skip = 0 → lo ≤ hi → Tab.get 0 t.gk.lpe.yc n = BitVec.ofInt 32 (clampI lo hi (s.gk.operand win ln n f.a))) ∧
      (∀ j, j ≠ n → Tab.get 0 t.gk.lpe.yc j = Tab.get 0 s.gk.lpe.yc j) ∧
      (0 < ln.skip → t.gk.lpe.yc = s.gk.lpe.yc)

/-- FST delivers the status word of its table to local D (R130): frozen, velocity outside FMIN–FMAX, HOLD, last commit
saturated, last commit skipped, i(k) at bits 27:16, every other bit 0. -/
def Obligations.FstDeliversTheStatusWord : Prop :=
  ∀ (s : State) (lane : Fin 8) (win : LoopWindow) (ln : LaneState) (n : Nat), s.gk.blocksRun = true → ln.skip = 0 →
    s.gk.laneAt lane win ln n 0x32 →
    let f := loopFields (s.gk.loopWordAt (s.gk.rd F.LPE_SLOT_CFG0_START n + ln.pc))
    let tb := f.x % 64
    ∃ (t : State) (v : Nat), exec (.fst lane) s = .next t ∧
      Tab.get 0 t.gk.lpe.locals (n * 16 + f.d) = BitVec.ofInt 32 (satS f.w v) ∧
      bits v 0 1 = s.gk.rd F.FLR_T_STAT_FROZEN tb ∧ bits v 1 1 = s.gk.rd F.FLR_T_STAT_WIN_OUT tb ∧
      bits v 2 1 = s.gk.rd F.FLR_T_CFG_HOLD tb ∧ bits v 3 1 = (has s.gk.flr.lastSat tb).toNat ∧
      bits v 4 1 = (has s.gk.flr.lastSkip tb).toNat ∧ bits v 5 11 = 0 ∧
      bits v 16 12 = Tab.get 0 s.gk.flr.idx tb % 4096 ∧ v < 2 ^ 28

/-- A hold-out or return command that comes while the stroke cycle runs, and while the Rank Engine's shadow set has room for it,
joins that set; the Rank Engine's own state stays (R53, R162). -/
def Obligations.HoldOutJoinsTheShadow : Prop :=
  ∀ (s : State) (x : Fin 8192), s.gk.blocksRun = true → s.gk.running = true → s.gk.stagedFull .rnk R.RNK_HOCMD.addr = false →
    ∃ t u, exec (.holdOut x) s = .next t ∧ exec (.cellReturn x) s = .next u ∧
      (t.gk.stagedOf .rnk).shadow = (s.gk.stagedOf .rnk).shadow ++ [(R.RNK_HOCMD.addr, x.val + 2 ^ 16)] ∧
      (u.gk.stagedOf .rnk).shadow = (s.gk.stagedOf .rnk).shadow ++ [(R.RNK_HOCMD.addr, x.val + 2 ^ 17)] ∧
      t.gk.rank = s.gk.rank ∧ u.gk.rank = s.gk.rank ∧ t.gk.time = s.gk.time ∧ u.gk.time = s.gk.time

/-- Each stroke word maps onto a state (R194): INSERT, EDGE_IN, EDGE_OUT and CARRIER insert with the polarity that POL gives in
a full-bridge cell, a half-bridge cell inserts as IP, REMOVE gives Z, BLOCK B and BYPASS Y. An edge beyond the stroke is not
executed (R183, R195). -/
def Obligations.WordsMapOntoStates : Prop :=
  ∀ (c : Ihloon) (tq pol e : Nat),
    let i := if c.rd F.NIB_CTRL_TYPE = 1 ∧ pol = 1 then NibState.ineg else NibState.ip
    c.edgeList tq 0 pol e = ([(0, .z)], false) ∧ c.edgeList tq 1 pol e = ([(0, i)], false) ∧
    (e < tq → c.edgeList tq 2 pol e = ([(0, .z), (e, i)], false) ∧ c.edgeList tq 3 pol e = ([(0, i), (e, .z)], false)) ∧
    (tq ≤ e → c.edgeList tq 2 pol e = ([(0, .z)], false) ∧ c.edgeList tq 3 pol e = ([(0, i)], false)) ∧
    (∀ x ∈ (c.edgeList tq 4 pol e).1, x.2 = .z ∨ x.2 = i) ∧
    c.edgeList tq 5 pol e = ([(0, .b)], false) ∧ c.edgeList tq 6 pol e = ([(0, .y)], false)

/-- The interlock takes every nib output low, latches a local block and sets ILOCK, whatever the registers hold (R212); a fired
bypass, which holds the outputs low itself, prevails (R211), and the nib module then stays as it is. It leaves the hub and the
Gloesk alone. -/
def Obligations.InterlockBlocks : Prop :=
  ∀ (s : State) (tick : Fin 16777216), s.ih.cell.isl.power = true →
    ∃ t, exec (.interlock tick) s = .next t ∧
      (s.ih.fired = false → t.ih.cell.nib.levels = 0 ∧ t.ih.cell.nib.plan = [] ∧ t.ih.cell.nib.state = .b) ∧
      (s.ih.fired = true → t.ih.cell.nib = s.ih.cell.nib) ∧
      t.ih.blockLatched = true ∧ t.ih.rd F.PRT_STAT_ILOCK = 1 ∧ t.gk = s.gk ∧ t.sk = s.sk

/-- A write of NIB_CTRL.EN = 0 takes every output low and discards the plan, in state B, and the last change of state is the
instant of the write, whether or not the bypass has fired (R201). -/
def Obligations.DisableTakesOutputsLow : Prop :=
  ∀ (s : State) (tick : Fin 16777216),
    ∃ t, exec (.nibDisable tick) s = .next t ∧ t.ih.cell.nib.levels = 0 ∧ t.ih.cell.nib.plan = [] ∧
      t.ih.cell.nib.state = .b ∧ t.ih.cell.nib.last = some (s.ih.instant s.period tick) ∧
      t.ih.rd F.NIB_STAT_EN_ACT = 0 ∧ t.ih.rd F.NIB_CTRL_EN = 0 ∧ t.gk = s.gk ∧ t.sk = s.sk

/-- ILOCK clears only while the module is disabled; while it is enabled a set latch stays and CLRREJ counts, and a clear latch
gives nothing to clear (R206). -/
def Obligations.IlockClearsOnlyDisabled : Prop :=
  ∀ s : State, ∃ t, exec .ilockClear s = .next t ∧ t.gk = s.gk ∧ t.sk = s.sk ∧
    (s.ih.on F.PRT_STAT_ILOCK = false → t.ih = s.ih) ∧
    (s.ih.nibOn = true → s.ih.on F.PRT_STAT_ILOCK = true →
      t.ih = s.ih.inc F.PRT_ERRCNT_CLRREJ ∧ t.ih.on F.PRT_STAT_ILOCK = true) ∧
    (s.ih.nibOn = false → t.ih.rd F.PRT_STAT_ILOCK = 0)

/-- The writes of AQ_REFCTL select the check reference and stop drift reports by setting their bit, and no other register or
state of the part they reach (R233). -/
def Obligations.ReferenceWritesSetTheirBit : Prop :=
  ∀ s : State, s.gk.blocksRun = true →
    (∃ t, exec (.refSelect true) s = .next t ∧ t.ih = { s.ih with regs := s.ih.regs.setFld F.CAQ_REFCTL_SEL 1 0 } ∧
      t.ih.rd F.CAQ_REFCTL_SEL = 1 ∧ t.gk = s.gk) ∧
    (∃ t, exec (.xoff true) s = .next t ∧ t.ih = { s.ih with regs := s.ih.regs.setFld F.CAQ_REFCTL_XOFF 1 0 } ∧
      t.ih.rd F.CAQ_REFCTL_XOFF = 1 ∧ t.gk = s.gk) ∧
    exec (.refSelect false) s = .next (s.gkNext { s.gk with regs := s.gk.regs.setFld F.AQ_REFCTL_SEL 1 0 }) ∧
    exec (.xoff false) s = .next (s.gkNext { s.gk with regs := s.gk.regs.setFld F.AQ_REFCTL_XOFF 1 0 })

/-- RSV_LFRCLR clears both last-fault records in the keeper and keeps everything else it holds (R257). -/
def Obligations.LfrClearEmptiesTheRecords : Prop :=
  ∀ s : State, ∃ t, exec .lfrClear s = .next t ∧
    t.ih.cell.keep = { s.ih.cell.keep with first := [], last := [], records := 0 } ∧
    t.ih.cell.nib = s.ih.cell.nib ∧ t.ih.cell.isl = s.ih.cell.isl ∧ t.ih.cell.core = s.ih.cell.core ∧ t.gk = s.gk ∧ t.sk = s.sk

/-- Integer and immediate instructions on the Quill-S (R259, R266-R268): the result goes to rd, a write to w0 is discarded, every
other register, memory, the cell's register file and the other parts stay, and the pc moves on by 4. -/
def Obligations.QuillIntegerResults : Prop :=
  ∀ (s : State) (rd ra rb : Fin 32) (imm : BitVec 16),
    let a := s.ih.cell.core.reg ra
    let b := s.ih.cell.core.reg rb
    ∀ e ∈ [(Instr.qAdd .s rd ra rb 0, Enc.r 0x00 rd ra rb 0x001, (a + b) % 2 ^ 32),
        (Instr.qSub .s rd ra rb 0, Enc.r 0x00 rd ra rb 0x002, (a + 2 ^ 32 - b) % 2 ^ 32),
        (Instr.qAnd .s rd ra rb 0, Enc.r 0x00 rd ra rb 0x005, a &&& b),
        (Instr.qOr .s rd ra rb 0, Enc.r 0x00 rd ra rb 0x006, a ||| b),
        (Instr.qXor .s rd ra rb 0, Enc.r 0x00 rd ra rb 0x007, a ^^^ b),
        (Instr.qSlt .s rd ra rb 0, Enc.r 0x00 rd ra rb 0x00E, if toS 32 a < toS 32 b then 1 else 0),
        (Instr.qSltu .s rd ra rb 0, Enc.r 0x00 rd ra rb 0x00F, if a < b then 1 else 0),
        (Instr.qMul .s rd ra rb 0, Enc.r 0x00 rd ra rb 0x012, a * b % 2 ^ 32),
        (Instr.qAddi .s rd ra imm 0, Enc.i 0x01 rd ra imm.toNat, (a + (imm.signExtend 32).toNat) % 2 ^ 32),
        (Instr.qAndi .s rd ra imm 0, Enc.i 0x02 rd ra imm.toNat, a &&& imm.toNat),
        (Instr.qOri .s rd ra imm 0, Enc.i 0x03 rd ra imm.toNat, a ||| imm.toNat),
        (Instr.qXori .s rd ra imm 0, Enc.i 0x04 rd ra imm.toNat, a ^^^ imm.toNat),
        (Instr.qLui .s rd imm 0, Enc.i 0x05 rd 0 imm.toNat, imm.toNat * 2 ^ 16)],
      s.ih.coreAt e.2.1 → ∃ t, exec e.1 s = .next t ∧
        (∀ n, t.ih.cell.core.reg n = if n = rd.val ∧ rd.val ≠ 0 then e.2.2 else s.ih.cell.core.reg n) ∧
        t.ih.cell.core.pc = (s.ih.cell.core.pc + 4) % 2 ^ 32 ∧ t.ih.cell.core.mem = s.ih.cell.core.mem ∧
        t.ih.cell.core.acc = s.ih.cell.core.acc ∧ t.ih.regs = s.ih.regs ∧ t.ih.cell.nib = s.ih.cell.nib ∧
        t.gk = s.gk ∧ t.sk = s.sk

/-- Branches and jumps on both cores (R266): a taken branch goes to pc + 4 × OFF16, JAL to pc + 4 × OFF21, JALR to (RA + IMM16)
with bits 1:0 cleared, the link pc + 4 written before the jump; they write nothing else. -/
def Obligations.BranchesGoWhereTheySay : Prop :=
  ∀ (k : Core) (rd ra rb : Fin 32) (imm : BitVec 16) (ofs : BitVec 21),
    let to16 := (k.pc + 4 * (imm.signExtend 32).toNat) % 2 ^ 32
    let on := (k.pc + 4) % 2 ^ 32
    k.beq ra rb imm.toNat = { k with pc := if k.reg ra = k.reg rb then to16 else on } ∧
    k.bne ra rb imm.toNat = { k with pc := if k.reg ra = k.reg rb then on else to16 } ∧
    k.blt ra rb imm.toNat = { k with pc := if toS 32 (k.reg ra) < toS 32 (k.reg rb) then to16 else on } ∧
    k.bge ra rb imm.toNat = { k with pc := if toS 32 (k.reg ra) < toS 32 (k.reg rb) then on else to16 } ∧
    k.bltu ra rb imm.toNat = { k with pc := if k.reg ra < k.reg rb then to16 else on } ∧
    k.bgeu ra rb imm.toNat = { k with pc := if k.reg ra < k.reg rb then on else to16 } ∧
    k.jal rd ofs.toNat = { k.setReg rd on with pc := (k.pc + 4 * (ofs.signExtend 32).toNat) % 2 ^ 32 } ∧
    k.jalr rd ra imm.toNat = { k.setReg rd on with pc := (k.reg ra + (imm.signExtend 32).toNat) % 2 ^ 32 / 4 * 4 }

/-- A word store of the Quill-S into its own memory (R262, R263): the four bytes at RA + IMM16 take RD, low byte first; every
other byte, every register of the core and the other parts stay. With exceptions enabled, a misaligned one stores nothing and
takes the exception of cause 3 at the vector, with the address in XADDR and its pc in XPC. -/
def Obligations.StoreWritesItsFourBytes : Prop :=
  ∀ (s : State) (rd ra : Fin 32) (imm : BitVec 16) (tick : Fin 16777216),
    let a := (s.ih.cell.core.reg ra + (imm.signExtend 32).toNat) % 2 ^ 32
    s.ih.coreAt (Enc.i 0x0D rd ra imm.toNat) →
    ∃ t, exec (.qStw .s rd ra imm 0 tick) s = .next t ∧ t.gk = s.gk ∧ t.sk = s.sk ∧
      (a % 4 = 0 → a < 0x20000 →
        (∀ i, i < 4 → Memory.byte t.ih.cell.core.mem (a + i) = BitVec.ofNat 8 (s.ih.cell.core.reg rd / 256 ^ i)) ∧
        (∀ c, c < a ∨ a + 4 ≤ c → Memory.byte t.ih.cell.core.mem c = Memory.byte s.ih.cell.core.mem c) ∧
        (∀ n, t.ih.cell.core.reg n = s.ih.cell.core.reg n) ∧ t.ih.cell.core.pc = (s.ih.cell.core.pc + 4) % 2 ^ 32 ∧
        t.ih.regs = s.ih.regs) ∧
      (a % 4 ≠ 0 → bit s.ih.cell.core.xstat 0 = true →
        t.ih.cell.core.mem = s.ih.cell.core.mem ∧ t.ih.cell.core.xcause = 3 ∧ t.ih.cell.core.xaddr = a ∧
        t.ih.cell.core.xpc = s.ih.cell.core.pc ∧ t.ih.cell.core.pc = s.ih.cell.core.xvec)

/-- Kill makes an enabled task DORMANT and Disable DISABLED, and neither leaves it on the ready list (R303); a task that is
DISABLED stays as it is. -/
def Obligations.KillMakesATaskDormant : Prop :=
  ∀ (s : State) (t : Fin 256), s.gk.blocksRun = true →
    ∃ g h, exec (.taskKill t) s = .next (s.gkNext g) ∧ exec (.taskDisable t) s = .next (s.gkNext h) ∧
      (s.gk.tstate t ≠ 0 → g.tstate t = 1 ∧ h.tstate t = 0 ∧ t.val ∉ g.duc.ready ∧ t.val ∉ h.duc.ready) ∧
      (s.gk.tstate t = 0 → g = s.gk ∧ h = s.gk)

/-- INK_CTRL.LOCK locks a legal layout, and marks an illegal one without locking it; a locked layout stays as it is (R318). -/
def Obligations.LockTakesOnlyALegalLayout : Prop :=
  ∀ s : State, s.gk.blocksRun = true →
    ∃ g, exec .layoutLock s = .next (s.gkNext g) ∧ g.ink = s.gk.ink ∧ g.edges = s.gk.edges ∧
      (s.gk.on F.INK_STATUS_LOCKED = true → g = s.gk) ∧
      (s.gk.on F.INK_STATUS_LOCKED = false → s.gk.layoutOk (fun p => s.gk.rd F.INK_PART_SIZE_GRAN p) = true →
        g.rd F.INK_STATUS_LOCKED = 1) ∧
      (s.gk.on F.INK_STATUS_LOCKED = false → s.gk.layoutOk (fun p => s.gk.rd F.INK_PART_SIZE_GRAN p) = false →
        g.rd F.INK_STATUS_LOCKED = 0 ∧ g.rd F.INK_STATUS_LAYOUT_BAD = 1)

/-- A rising edge of a source that is not up, at the hub and at the running cell (R358, R370): SET and CAUSE rise, COUNT counts
and holds its maximum, LAST takes the stroke, and FIRST takes it with the first edge alone. -/
def Obligations.RiseStampsTheSource : Prop :=
  ∀ (s : State) (n : Fin 512) (who : Who),
    (n.val < 128 → s.sk.rd F.HBLT_SRC_STAT_CAUSE n = 0 → ∃ t, exec (.causeRise .stanak n who) s = .next t ∧
      t.sk.rd F.HBLT_SRC_STAT_SET n = 1 ∧ t.sk.rd F.HBLT_SRC_STAT_CAUSE n = 1 ∧
      t.sk.rd F.HBLT_SRC_STAT_COUNT n = min (s.sk.rd F.HBLT_SRC_STAT_COUNT n + 1) 65535 ∧
      t.sk.rd F.HBLT_SRC_LAST_STK n = s.sk.stroke % 2 ^ 32 ∧
      t.sk.rd F.HBLT_SRC_FIRST_STK n = (if s.sk.rd F.HBLT_SRC_STAT_COUNT n = 0 then s.sk.stroke % 2 ^ 32
        else s.sk.rd F.HBLT_SRC_FIRST_STK n) ∧
      t.sk.hub = s.sk.hub ∧ t.sk.follow = s.sk.follow ∧ t.sk.sent = s.sk.sent ∧ t.gk = s.gk ∧ t.ih = s.ih) ∧
    (n.val < 64 → s.ih.mainRuns = true → s.ih.rd F.CBLT_SRC_STAT_CAUSE n = 0 →
      ∃ t, exec (.causeRise .ihloon n who) s = .next t ∧
      t.ih.rd F.CBLT_SRC_STAT_SET n = 1 ∧ t.ih.rd F.CBLT_SRC_STAT_CAUSE n = 1 ∧
      t.ih.rd F.CBLT_SRC_STAT_COUNT n = min (s.ih.rd F.CBLT_SRC_STAT_COUNT n + 1) 65535 ∧
      t.ih.rd F.CBLT_SRC_LAST_STK n = s.ih.stroke % 2 ^ 32 ∧
      t.ih.rd F.CBLT_SRC_FIRST_STK n = (if s.ih.rd F.CBLT_SRC_STAT_COUNT n = 0 then s.ih.stroke % 2 ^ 32
        else s.ih.rd F.CBLT_SRC_FIRST_STK n) ∧
      t.ih.cell = s.ih.cell ∧ t.ih.follow = s.ih.follow ∧ t.ih.sent = s.ih.sent ∧ t.gk = s.gk ∧ t.sk = s.sk)

/-- A W1C of a hub source's SET clears it only while its CAUSE is 0, and changes nothing else (R368). -/
def Obligations.ClearNeedsACauseAtRest : Prop :=
  ∀ (s : State) (n : Fin 512), ∃ t, exec (.sourceClear .stanak n) s = .next t ∧ t.gk = s.gk ∧ t.ih = s.ih ∧
    (s.sk.rd F.HBLT_SRC_STAT_CAUSE n ≠ 0 → t.sk = s.sk) ∧
    (s.sk.rd F.HBLT_SRC_STAT_CAUSE n = 0 → t.sk = { s.sk with regs := s.sk.regs.setFld F.HBLT_SRC_STAT_SET 0 n } ∧
      t.sk.rd F.HBLT_SRC_STAT_SET n = 0 ∧ t.sk.rd F.HBLT_SRC_STAT_COUNT n = s.sk.rd F.HBLT_SRC_STAT_COUNT n)

/-- FREE returns a DONE folio whose stream is complete to IDLE, and is ignored while a stream runs and in every other state;
ABORT returns any state to IDLE; both discard the run, and ABORT changes no other folio (R394). -/
def Obligations.FreeAndAbortReturnToIdle : Prop :=
  ∀ (s : State) (n : Fin 8), s.gk.blocksRun = true →
    ∃ g h, exec (.folioFree n) s = .next (s.gkNext g) ∧ exec (.folioAbort n) s = .next (s.gkNext h) ∧
      (s.gk.rd F.FOL_F_STAT_STATE n = 4 → (s.gk.folio n).streamed = none →
        g.rd F.FOL_F_STAT_STATE n = 0 ∧ g.folio n = FolioRun.reset) ∧
      (s.gk.rd F.FOL_F_STAT_STATE n ≠ 4 ∨ (s.gk.folio n).streamed ≠ none → g = s.gk) ∧
      h.rd F.FOL_F_STAT_STATE n = 0 ∧ h.folio n = FolioRun.reset ∧
      (∀ m : Fin 8, m ≠ n → h.folio m = s.gk.folio m ∧ h.rd F.FOL_F_STAT_STATE m = s.gk.rd F.FOL_F_STAT_STATE m) ∧
      g.ink = s.gk.ink ∧ h.ink = s.gk.ink

/-- An uplink receiver of the hub runs through NOSIG, CDR, PILOT and CWLOCK, each step from its own state only (R404): to CWLOCK
with 80 pilots that match, at the place in the superframe that they mark (R397). A loss of signal in UP gives HOLD, and the frame
in transit is lost; its return gives UP with LOL as it was; 10 µs without it give NOSIG and one more in LOL (R410). -/
def Obligations.UplinkReceiverStates : Prop :=
  ∀ (s : State) (n : Fin 2) (seen : List (Fin 4)), ∃ ts tc tp tl tr th,
    exec (.signalDetect (.up n)) s = .next ts ∧ exec (.cdrLock (.up n)) s = .next tc ∧
    exec (.pilotLock (.up n) seen) s = .next tp ∧ exec (.lossOfSignal (.up n)) s = .next tl ∧
    exec (.signalReturn (.up n)) s = .next tr ∧ exec (.holdTimeout (.up n)) s = .next th ∧
    (∀ e ∈ [(ts, 0, 1), (tc, 1, 2), (tr, 5, 4)],
      (s.sk.rd F.HLAN_L_STAT_RXST n = e.2.1 →
        e.1 = s.skNext { s.sk with regs := s.sk.regs.setFld F.HLAN_L_STAT_RXST e.2.2 n } ∧
        e.1.sk.rd F.HLAN_L_STAT_RXST n = e.2.2 ∧ e.1.sk.rd F.HLAN_L_CNT3_LOL n = s.sk.rd F.HLAN_L_CNT3_LOL n) ∧
      (s.sk.rd F.HLAN_L_STAT_RXST n ≠ e.2.1 → e.1 = s)) ∧
    (s.sk.rd F.HLAN_L_STAT_RXST n = 2 → ∀ x, LineRx.ofPilots (seen.map (·.val)) = some x →
      tp.sk.regs = s.sk.regs.setFld F.HLAN_L_STAT_RXST 3 n ∧ tp.sk.rd F.HLAN_L_STAT_RXST n = 3 ∧
      Tab.get LineRx.reset tp.sk.lan.line n = x) ∧
    (s.sk.rd F.HLAN_L_STAT_RXST n ≠ 2 ∨ LineRx.ofPilots (seen.map (·.val)) = none → tp = s) ∧
    (s.sk.rd F.HLAN_L_STAT_RXST n = 4 →
      tl = s.skNext { s.sk.onLine n LineRx.drop with regs := s.sk.regs.setFld F.HLAN_L_STAT_RXST 5 n } ∧
      tl.sk.rd F.HLAN_L_STAT_RXST n = 5 ∧ tl.sk.rd F.HLAN_L_CNT3_LOL n = s.sk.rd F.HLAN_L_CNT3_LOL n) ∧
    (s.sk.rd F.HLAN_L_STAT_RXST n ≠ 4 → tl = s) ∧
    (s.sk.rd F.HLAN_L_STAT_RXST n = 5 → th.sk.rd F.HLAN_L_STAT_RXST n = 0 ∧
      th.sk.rd F.HLAN_L_CNT3_LOL n = min (s.sk.rd F.HLAN_L_CNT3_LOL n + 1) (2 ^ F.HLAN_L_CNT3_LOL.wid - 1)) ∧
    (s.sk.rd F.HLAN_L_STAT_RXST n ≠ 5 → th = s) ∧ th.gk = s.gk ∧ th.ih = s.ih

/-- SEC_PROV provisions slot 0 in life-cycle state BLANK and is ignored in every other, at the hub and at the running cell
(R422): the part becomes OWNED with the usage written; keys, counters and session stay. -/
def Obligations.ProvisioningOnlyInBlank : Prop :=
  ∀ (s : State) (usage : Fin 256), ∃ t, exec (.provisioningWrite .stanak usage) s = .next t ∧ t.gk = s.gk ∧ t.ih = s.ih ∧
    (s.sk.trust.lcs ≠ 0 → t.sk = s.sk) ∧
    (s.sk.trust.lcs = 0 → t.sk.trust = { s.sk.trust with lcs := 1, slots := s.sk.trust.slots.set 0 ⟨true, usage, false⟩ } ∧
      t.sk.hub = s.sk.hub ∧ t.sk.follow = s.sk.follow ∧ t.sk.blt = s.sk.blt ∧ t.sk.sent = s.sk.sent) ∧
    (s.ih.mainRuns = true → ∃ u, exec (.provisioningWrite .ihloon usage) s = .next u ∧ u.gk = s.gk ∧ u.sk = s.sk ∧
      (s.ih.trust.lcs ≠ 0 → u.ih = s.ih) ∧
      (s.ih.trust.lcs = 0 → u.ih.cell = s.ih.cell ∧ u.ih.follow = s.ih.follow ∧ u.ih.sent = s.ih.sent ∧
        u.ih.trust = { s.ih.trust with lcs := 1, slots := s.ih.trust.slots.set 0 ⟨true, usage, false⟩ }))

/-- A write of HST_DOORBELL sends vector 5, or sets its pending bit while it is masked; unmasking a vector sends a pending
message once and clears the bit (R452). -/
def Obligations.DoorbellSendsVectorFive : Prop :=
  ∀ (s : State) (v : Word), ∃ g, exec (.doorbell v) s = .next (s.gkNext g) ∧ g.rd F.HST_DOORBELL_VAL = v.toNat ∧
    (bit s.gk.hst.msixMask 5 = false → g.sent = s.gk.sent ++ [⟨.msix, [5]⟩] ∧ g.hst = s.gk.hst) ∧
    (bit s.gk.hst.msixMask 5 = true → g.sent = s.gk.sent ∧ bit g.hst.msixPend 5 = true) ∧
    ∃ h, exec (.msixUnmask 5) s = .next (s.gkNext h) ∧ bit h.hst.msixMask 5 = false ∧ bit h.hst.msixPend 5 = false ∧
      h.sent = s.gk.sent ++ (if bit s.gk.hst.msixPend 5 = true then [⟨.msix, [5]⟩] else [])

/-- A reset of the hub, by its pin or by HUB_RST.RESTART, returns its hub state, follower, lanes, Blotter, latches and
receiver states to their reset values, and keeps its life-cycle state, key slots and counters (R470, R472). -/
def Obligations.HubResetReturnsToReset : Prop :=
  ∀ s : State, ∃ t, exec .hubReset s = .next t ∧ exec .hubRestart s = .next t ∧ t.gk = s.gk ∧ t.ih = s.ih ∧
    t.sk.hub = HubState.reset ∧ t.sk.follow = Follower.reset ∧ t.sk.lan = LaneExt.reset ∧ t.sk.blt = LocalBlotter.reset ∧
    t.sk.latches = [] ∧ t.sk.stroke = s.sk.stroke ∧ t.sk.trust.lcs = s.sk.trust.lcs ∧ t.sk.trust.slots = s.sk.trust.slots ∧
    t.sk.trust.counter = s.sk.trust.counter ∧ t.sk.trust.svn = s.sk.trust.svn ∧ t.sk.trust.keyed = PartSec.reset.keyed ∧
    (∀ n : Fin 2, t.sk.rd F.HLAN_L_STAT_RXST n = 0)
end

