-- ==== Sys2Proof/Laws/Tab.lean ====
section
/-!
SUPPORT. Laws of the sparse tables: a read after a write at the same key gives the value written, at any other key what it
gave before, and a write keeps the canonical form.
-/

namespace Sys2Proof.Machine.Tab

variable {α : Type}

@[simp] theorem get_nil (d : α) (k : Nat) : get d [] k = d := rfl

theorem get_put_same (d : α) (t : Tab α) (k : Nat) (v : α) : get d (put t k v) k = v := by
  induction t with
  | nil => simp [put, get]
  | cons e t ih =>
    obtain ⟨a, w⟩ := e
    by_cases h1 : k < a
    · simp [put, h1, get]
    · by_cases h2 : a = k <;> simp [put, h1, h2, get, ih]

theorem get_put_other (d : α) (t : Tab α) (k j : Nat) (v : α) (h : j ≠ k) : get d (put t k v) j = get d t j := by
  induction t with
  | nil => simp [put, get, Ne.symm h]
  | cons e t ih =>
    obtain ⟨a, w⟩ := e
    by_cases h1 : k < a
    · simp [put, h1, get, Ne.symm h]
    · by_cases h2 : a = k
      · simp [put, h2, get, Ne.symm h]
      · simp [put, h1, h2, get, ih]

theorem get_del_same (d : α) (t : Tab α) (k : Nat) : get d (del t k) k = d := by
  induction t with
  | nil => rfl
  | cons e t ih =>
    obtain ⟨a, w⟩ := e
    by_cases h : a = k
    · simpa [del, List.filter_cons, h] using ih
    · simpa [del, List.filter_cons, h, get] using ih

theorem get_del_other (d : α) (t : Tab α) (k j : Nat) (h : j ≠ k) : get d (del t k) j = get d t j := by
  induction t with
  | nil => rfl
  | cons e t ih =>
    obtain ⟨a, w⟩ := e
    by_cases hk : a = k
    · simpa [del, List.filter_cons, hk, get, Ne.symm h] using ih
    · by_cases hj : a = j
      · simp [del, get, hj, h]
      · simpa [del, List.filter_cons, hk, get, hj] using ih

/-- A read after a write at the same key. -/
@[simp] theorem get_set_same [DecidableEq α] (d : α) (t : Tab α) (k : Nat) (v : α) : get d (set d t k v) k = v := by
  by_cases h : v = d <;> simp [set, h, get_del_same, get_put_same]

/-- A read after a write at another key. -/
theorem get_set_other [DecidableEq α] (c d : α) (t : Tab α) (k j : Nat) (v : α) (h : j ≠ k) : get c (set d t k v) j = get c t j := by
  by_cases hv : v = d <;> simp [set, hv, get_del_other, get_put_other, h]

theorem sorted_cons (a : Nat) (v : α) (t : Tab α) :
    sorted ((a, v) :: t) = true ↔ (∀ e ∈ t, a < e.1) ∧ sorted t = true := by
  simp [sorted]

theorem sorted_put (t : Tab α) (k : Nat) (v : α) (h : sorted t = true) :
    sorted (put t k v) = true ∧ ∀ e ∈ put t k v, e = (k, v) ∨ e ∈ t := by
  induction t with
  | nil => simp [put, sorted]
  | cons e t ih =>
    obtain ⟨a, w⟩ := e
    have hs := (sorted_cons a w t).1 h
    by_cases h1 : k < a
    · refine ⟨?_, by simp [put, h1]⟩
      simp only [put, h1, if_true]
      refine (sorted_cons k v _).2 ⟨?_, h⟩
      intro e he
      rcases List.mem_cons.1 he with rfl | he
      · exact h1
      · exact lt_trans h1 (hs.1 e he)
    · by_cases h2 : a = k
      · subst h2
        refine ⟨?_, ?_⟩
        · simp only [put, lt_irrefl, if_false, if_true]
          exact (sorted_cons a v t).2 hs
        · intro e he
          simp only [put, lt_irrefl, if_false, if_true, List.mem_cons] at he
          rcases he with he | he
          · exact Or.inl he
          · exact Or.inr (List.mem_cons_of_mem _ he)
      · obtain ⟨i1, i2⟩ := ih hs.2
        refine ⟨?_, ?_⟩
        · simp only [put, h1, h2, if_false]
          refine (sorted_cons a w _).2 ⟨?_, i1⟩
          intro e he
          rcases i2 e he with rfl | he
          · have h1' : ¬ k < a := h1
            have : a ≠ k := h2
            show a < k
            omega
          · exact hs.1 e he
        · intro e he
          simp only [put, h1, h2, if_false, List.mem_cons] at he
          rcases he with rfl | he
          · exact Or.inr (List.mem_cons_self ..)
          · rcases i2 e he with h | h
            · exact Or.inl h
            · exact Or.inr (List.mem_cons_of_mem _ h)

theorem sorted_del (t : Tab α) (k : Nat) (h : sorted t = true) : sorted (del t k) = true := by
  induction t with
  | nil => rfl
  | cons e t ih =>
    obtain ⟨a, w⟩ := e
    have hs := (sorted_cons a w t).1 h
    by_cases hk : a = k
    · simpa [del, List.filter_cons, hk] using ih hs.2
    · have : del ((a, w) :: t) k = (a, w) :: del t k := by simp [del, hk]
      rw [this]
      exact (sorted_cons a w _).2 ⟨fun e he => hs.1 e (List.mem_filter.1 he).1, ih hs.2⟩

/-- A write keeps the canonical form. -/
theorem wf_set [DecidableEq α] (d : α) (t : Tab α) (k : Nat) (v : α) (h : wf d t = true) : wf d (set d t k v) = true := by
  simp only [wf, Bool.and_eq_true, List.all_eq_true, decide_eq_true_eq] at h ⊢
  by_cases hv : v = d
  · simp only [set, hv, if_true]
    exact ⟨sorted_del t k h.1, fun e he => h.2 e (List.mem_filter.1 he).1⟩
  · simp only [set, hv, if_false]
    obtain ⟨p1, p2⟩ := sorted_put t k v h.1
    refine ⟨p1, fun e he => ?_⟩
    rcases p2 e he with rfl | he
    · exact hv
    · exact h.2 e he

@[simp] theorem wf_nil [DecidableEq α] (d : α) : wf d ([] : Tab α) = true := rfl

end Sys2Proof.Machine.Tab
end

