-- ==== Sys2Proof/Laws/Reg.lean ====
section
/-!
SUPPORT. Laws of registers and fields: a field read after it is written gives the low bits of the value written, fields of
other registers stay as they were, counters hold their maximum (R4, R6).
-/

namespace Sys2Proof.Machine

theorem Fld.ofWord_lt (f : Fld) (w : Word) : f.ofWord w < 2 ^ f.wid := Nat.mod_lt _ (by positivity)

namespace RegFile

@[simp] theorem reg_setReg_same (rf : RegFile) (r : Reg) (i : Nat) (w : Word) : (rf.setReg r i w).reg r i = w := by
  simp [RegFile.reg, RegFile.setReg]

theorem reg_setReg_other (rf : RegFile) (r q : Reg) (i j : Nat) (w : Word) (h : q.at j ≠ r.at i) :
    (rf.setReg r i w).reg q j = rf.reg q j := by
  simp only [RegFile.reg, RegFile.setReg]
  exact Tab.get_set_other _ _ _ _ _ _ h

/-- A field of another register keeps its value. -/
theorem fld_setFld_other (rf : RegFile) (f e : Fld) (v i j : Nat) (h : e.reg.at j ≠ f.reg.at i) :
    (rf.setFld f v i).fld e j = rf.fld e j := by
  simp only [RegFile.fld, RegFile.setFld, reg_setReg_other _ _ _ _ _ _ h]

theorem fld_lt (rf : RegFile) (f : Fld) (i : Nat) : rf.fld f i < 2 ^ f.wid := f.ofWord_lt _

end RegFile

theorem Fld.ofWord_into (f : Fld) (w : Word) (v : Nat) (h : f.lo + f.wid ≤ 32) : f.ofWord (f.into w v) = v % 2 ^ f.wid := by
  have hm : ∀ b, (f.into w v).toNat.testBit b
      = (decide (b < 32) && ((w.toNat.testBit b && !((2 ^ f.wid - 1) * 2 ^ f.lo).testBit b)
        || (v % 2 ^ f.wid * 2 ^ f.lo).testBit b)) := by
    intro b
    by_cases hb : b < 32
    · rw [BitVec.testBit_toNat]
      simp only [Fld.into, Fld.mask, BitVec.getLsbD_or, BitVec.getLsbD_and, BitVec.getLsbD_not, BitVec.getLsbD_ofNat, hb,
        decide_true, Bool.true_and, BitVec.testBit_toNat]
    · have : (f.into w v).toNat.testBit b = false := Nat.testBit_lt_two_pow (lt_of_lt_of_le (f.into w v).isLt
        (Nat.pow_le_pow_right (by norm_num) (by omega)))
      simp [this, hb]
  apply Nat.eq_of_testBit_eq
  intro b
  simp only [Fld.ofWord, Nat.testBit_mod_two_pow, ← Nat.shiftRight_eq_div_pow, Nat.testBit_shiftRight, hm]
  by_cases hb : b < f.wid
  · have h1 : f.lo + b < 32 := by omega
    simp only [hb, h1, decide_true, Bool.true_and]
    rw [Nat.testBit_mul_two_pow, Nat.testBit_mul_two_pow]
    simp [hb, Nat.testBit_two_pow_sub_one, Nat.testBit_mod_two_pow]
  · simp [hb]

/-- Writing a field leaves the other bits of the word. -/
theorem Fld.ofWord_into_disjoint (f e : Fld) (w : Word) (v : Nat) (he : e.lo + e.wid ≤ 32)
    (hd : e.lo + e.wid ≤ f.lo ∨ f.lo + f.wid ≤ e.lo) : e.ofWord (f.into w v) = e.ofWord w := by
  apply Nat.eq_of_testBit_eq
  intro b
  simp only [Fld.ofWord, Nat.testBit_mod_two_pow, ← Nat.shiftRight_eq_div_pow, Nat.testBit_shiftRight]
  by_cases hb : b < e.wid
  · have h1 : e.lo + b < 32 := by omega
    simp only [hb, decide_true, Bool.true_and, BitVec.testBit_toNat, Fld.into, Fld.mask, BitVec.getLsbD_or,
      BitVec.getLsbD_and, BitVec.getLsbD_not, BitVec.getLsbD_ofNat, h1]
    rw [Nat.testBit_mul_two_pow, Nat.testBit_mul_two_pow]
    by_cases hl : f.lo ≤ e.lo + b
    · have h2 : ¬ (e.lo + b - f.lo < f.wid) := by omega
      simp [hl, h2, Nat.testBit_two_pow_sub_one, Nat.testBit_mod_two_pow]
    · simp [hl]
  · simp [hb]

namespace RegFile

/-- A field read after it is written. -/
theorem fld_setFld_same (rf : RegFile) (f : Fld) (v i : Nat) (h : f.lo + f.wid ≤ 32) :
    (rf.setFld f v i).fld f i = v % 2 ^ f.wid := by
  simp [RegFile.fld, RegFile.setFld, Fld.ofWord_into _ _ _ h]

/-- A field of the same register at other bits keeps its value. -/
theorem fld_setFld_disjoint (rf : RegFile) (f e : Fld) (v i : Nat) (hr : e.reg = f.reg) (he : e.lo + e.wid ≤ 32)
    (hd : e.lo + e.wid ≤ f.lo ∨ f.lo + f.wid ≤ e.lo) : (rf.setFld f v i).fld e i = rf.fld e i := by
  simp only [RegFile.fld, RegFile.setFld, hr, reg_setReg_same]
  exact Fld.ofWord_into_disjoint f e _ v he hd

/-- A counter after an addition (R6). -/
theorem fld_addSat_same (rf : RegFile) (f : Fld) (n i : Nat) (h : f.lo + f.wid ≤ 32) :
    (rf.addSat f n i).fld f i = min (rf.fld f i + n) (2 ^ f.wid - 1) := by
  have hp : 0 < 2 ^ f.wid := by positivity
  rw [RegFile.addSat, fld_setFld_same _ _ _ _ h, satU]
  split
  · rename_i hlt
    rw [Nat.mod_eq_of_lt hlt]; omega
  · rw [Nat.mod_eq_of_lt (by omega)]; omega

theorem fld_addSat_other (rf : RegFile) (f e : Fld) (n i j : Nat) (h : e.reg.at j ≠ f.reg.at i) :
    (rf.addSat f n i).fld e j = rf.fld e j := fld_setFld_other _ _ _ _ _ _ h

end RegFile

end Sys2Proof.Machine
end

