-- ==== Sys2Proof/Laws/Finish.lean ====
section
/-!
SUPPORT. What follows every step of the Gloesk changes neither time nor Ruling, nor what the blocks hold beside registers,
Blotter, recorder rows, Ductus, cores and the twin's plans: the frame of `finish`.
-/

namespace Sys2Proof.Machine

/-- The lanes' state without what the sending of frames moves: sequence numbers, turn, waiting frames. -/
def LaneExt.apart (l : LaneExt) : LaneExt := { l with fseq := [], turn := 0, waiting := [] }

/-- Two lanes' states that agree apart from what sending moves. -/
theorem LaneExt.with_sending {a b : LaneExt} (h : a.apart = b.apart) :
    { a with fseq := b.fseq, turn := b.turn, waiting := b.waiting } = b := by
  cases a; cases b
  simp only [apart, LaneExt.mk.injEq] at h ⊢
  simp [h]

namespace Gloesk

/-- The state that the end of a step leaves alone. -/
def still (g : Gloesk) : Variant × Tab Word × StationMap × TimeState × RulingState × SviState × Tab Staged ×
    DispatchState × LoopState × FlourishState × RankState × LaneExt × AqState × ArbiterState × PartSec × GloeskSec × PowerState :=
  (g.variant, g.latches, g.map, g.time, g.rul, g.svi, g.staged, g.disp, g.lpe, g.flr, g.rank, g.lan.apart, g.aq, g.arb, g.trust,
    g.pos, g.pwr)

/-- A function that leaves that state alone. -/
def Still (f : Gloesk → Gloesk) : Prop := ∀ g, (f g).still = g.still

theorem still_foldl {β : Type} (l : List β) (f : Gloesk → β → Gloesk) (h : ∀ g b, (f g b).still = g.still) :
    ∀ g, (l.foldl f g).still = g.still := by
  induction l with
  | nil => exact fun _ => rfl
  | cons b l ih => exact fun g => (ih (f g b)).trans (h g b)

theorem still_each (g : Gloesk) (l : List Nat) (f : Gloesk → Nat → Gloesk) (h : ∀ g n, (f g n).still = g.still) :
    (g.each l f).still = g.still := still_foldl l f h g

theorem still_iff (g : Gloesk) (c : Bool) (f : Gloesk → Gloesk) (h : (f g).still = g.still) : (g.iff c f).still = g.still := by
  cases c
  · rfl
  · exact h

@[simp] theorem still_wr (g : Gloesk) (f : Fld) (v i : Nat) : (g.wr f v i).still = g.still := rfl
@[simp] theorem still_wrS (g : Gloesk) (f : Fld) (v : Int) (i : Nat) : (g.wrS f v i).still = g.still := rfl
@[simp] theorem still_up (g : Gloesk) (f : Fld) (i : Nat) : (g.up f i).still = g.still := rfl
@[simp] theorem still_down (g : Gloesk) (f : Fld) (i : Nat) : (g.down f i).still = g.still := rfl
@[simp] theorem still_inc (g : Gloesk) (f : Fld) (i n : Nat) : (g.inc f i n).still = g.still := rfl
@[simp] theorem still_wrBit (g : Gloesk) (f : Fld) (b : Nat) (x : Bool) (i : Nat) : (g.wrBit f b x i).still = g.still := rfl
@[simp] theorem still_send (g : Gloesk) (k : SentKind) (a : List Nat) : (g.send k a).still = g.still := rfl
@[simp] theorem still_raise (g : Gloesk) (n : Nat) (w : Who) : (g.raise n w).still = g.still := rfl
@[simp] theorem still_onBlt (g : Gloesk) (f : BlotterState → BlotterState) : (g.onBlt f).still = g.still := rfl
@[simp] theorem still_onDuc (g : Gloesk) (f : DuctusState → DuctusState) : (g.onDuc f).still = g.still := rfl
@[simp] theorem still_onPair (g : Gloesk) (q : Nat) (f : Core → Core) : (g.onPair q f).still = g.still := rfl
@[simp] theorem still_onTwin (g : Gloesk) (f : TwinState → TwinState) : (g.onTwin f).still = g.still := rfl
@[simp] theorem still_onFolio (g : Gloesk) (n : Nat) (f : FolioRun → FolioRun) : (g.onFolio n f).still = g.still := rfl
@[simp] theorem still_poke (g : Gloesk) (a n v : Nat) : (g.poke a n v).still = g.still := rfl
@[simp] theorem still_setPoison (g : Gloesk) (a : Nat) (x : Bool) : (g.setPoison a x).still = g.still := rfl

@[simp] theorem still_msix (g : Gloesk) (v : Nat) : (g.msix v).still = g.still := by
  unfold Gloesk.msix; split <;> rfl

@[simp] theorem still_store (g : Gloesk) (a n v : Nat) : (g.store a n v).still = g.still :=
  still_each _ _ _ (fun _ _ => rfl)

@[simp] theorem still_suspect (g : Gloesk) : g.suspect.still = g.still := rfl

@[simp] theorem still_frame (g : Gloesk) (l t s c n : Nat) (secs : List (List (Nat × Nat))) (b : Bool) :
    (g.frame l t s c n secs b).still = g.still := by
  unfold frame
  dsimp only
  split <;> rfl

@[simp] theorem still_ligature (g : Gloesk) (t : Nat) (b : List (Nat × Nat)) : (g.ligature t b).still = g.still := by
  have h := still_each g (g.ligatureLanes t) (fun g n => g.frame n t g.stroke g.claim 0 [b]) (fun _ _ => still_frame _ _ _ _ _ _ _ _)
  unfold ligature
  dsimp only
  split
  · exact h
  · exact h

@[simp] theorem still_sendRecord (g : Gloesk) (b t : Nat) (ws : List (Nat × Nat)) : (g.sendRecord b t ws).still = g.still :=
  still_ligature _ _ _

/-! ### Ductus -/

@[simp] theorem still_showReady (g : Gloesk) : g.showReady.still = g.still := rfl
@[simp] theorem still_makeReady (g : Gloesk) (t : Nat) : (g.makeReady t).still = g.still := rfl
@[simp] theorem still_startFresh (g : Gloesk) (t : Nat) : (g.startFresh t).still = g.still := rfl
@[simp] theorem still_mark (g : Gloesk) (t : Nat) : (g.mark t).still = g.still := rfl
@[simp] theorem still_wake (g : Gloesk) (t v : Nat) : (g.wake t v).still = g.still := rfl
@[simp] theorem still_setQueue (g : Gloesk) (l : Nat) (q : List Nat) : (g.setQueue l q).still = g.still := rfl
@[simp] theorem still_leave (g : Gloesk) (q : Nat) : (g.leave q).still = g.still := rfl

@[simp] theorem still_post1 (g : Gloesk) (t : Nat) (r : Bool) : (g.post1 t r).still = g.still := by
  unfold post1
  split
  · rfl
  · split
    · exact still_iff _ _ _ rfl
    · split <;> rfl

@[simp] theorem still_reprioritise (g : Gloesk) (l : List Nat) : (g.reprioritise l).still = g.still := by
  unfold reprioritise
  simp only [still_showReady, still_onDuc]
  refine (still_foldl _ _ (fun g _ => ?_) _).trans ?_
  · exact still_each _ _ _ (fun _ _ => by rfl)
  · exact still_each _ _ _ (fun _ _ => by rfl)

@[simp] theorem still_release (g : Gloesk) (l : Nat) (a : Bool) : (g.release l a).still = g.still := by
  unfold release
  simp only [still_reprioritise]
  split <;> rfl

@[simp] theorem still_releaseAll (g : Gloesk) (t : Nat) : (g.releaseAll t).still = g.still :=
  still_each _ _ _ (fun _ _ => still_release _ _ _)

@[simp] theorem still_unlist (g : Gloesk) (t : Nat) : (g.unlist t).still = g.still := by
  unfold unlist
  simp only [still_reprioritise, still_wr, still_onDuc]
  exact still_each _ _ _ (fun _ _ => rfl)

@[simp] theorem still_endByFault (g : Gloesk) (t c : Nat) : (g.endByFault t c).still = g.still := by
  unfold endByFault
  dsimp only
  split
  · simp
  · split <;> simp

@[simp] theorem still_contextError (g : Gloesk) (t : Nat) : (g.contextError t).still = g.still := by
  simp [contextError]

@[simp] theorem still_lateCheck (g : Gloesk) (t : Nat) : (g.lateCheck t).still = g.still := by
  unfold lateCheck
  split
  · rfl
  · dsimp only; split <;> rfl

@[simp] theorem still_dispatch (g : Gloesk) (q t : Nat) : (g.dispatch q t).still = g.still := by
  unfold dispatch
  dsimp only
  split <;> simp

theorem still_consider (p : Gloesk × List Nat) (t : Nat) : (consider p t).1.still = p.1.still := by
  unfold consider
  dsimp only
  split
  · rfl
  · split
    · simp
    · split
      · rfl
      · split <;> rfl

@[simp] theorem still_schedule (g : Gloesk) : g.schedule.still = g.still := by
  unfold schedule
  split
  · rfl
  · dsimp only
    generalize ((List.range 16).map _).flatten = l
    suffices h : ∀ p : Gloesk × List Nat, (l.foldl consider p).1.still = p.1.still from h (g, [])
    induction l with
    | nil => exact fun _ => rfl
    | cons t l ih => exact fun p => (ih _).trans (still_consider p t)

@[simp] theorem still_hitCounts (g : Gloesk) (n : Nat) (c : Int) : (g.hitCounts n c).still = g.still := by
  unfold hitCounts
  refine (still_foldl _ _ (fun g b => ?_) _).trans rfl
  split <;> rfl

@[simp] theorem still_angleTicks (g : Gloesk) : g.angleTicks.still = g.still := by
  unfold angleTicks
  refine (still_foldl _ _ (fun g b => ?_) _).trans ((still_foldl _ _ (fun g b => still_hitCounts g _ _) _).trans rfl)
  refine still_each _ _ _ (fun g t => ?_)
  split
  · exact still_post1 _ _ _
  · rfl

@[simp] theorem still_lostRoutes (g : Gloesk) : g.lostRoutes.still = g.still := by
  unfold lostRoutes
  exact still_foldl _ _ (fun g e => still_wake g _ _) g

@[simp] theorem still_ductus (g : Gloesk) : g.ductus.still = g.still := by simp [ductus]

/-! ### Recorder and Blotter -/

@[simp] theorem still_showFolios (g : Gloesk) : g.showFolios.still = g.still := rfl

@[simp] theorem still_trigger (g : Gloesk) (n : Nat) (t : FolTrig) : (g.trigger n t).still = g.still := by
  unfold trigger
  dsimp only
  split
  · rfl
  · split
    · rfl
    · have h : ∀ old : Bool, (if (decide (t.time < (g.folio n).armed) || old) = true then g.inc F.FOL_ERRCNT_LATE
          else match (g.folio n).best with
            | none => g.onFolio n (fun f => { f with best := some t })
            | some b => (if t.time < b.time then g.onFolio n (fun f => { f with best := some t }) else g).inc
                F.FOL_F_CNT_RETRIG n).still = g.still := by
        intro old
        split
        · rfl
        · split
          · rfl
          · rw [still_inc]; split <;> rfl
      exact h _

@[simp] theorem still_triggerAll (g : Gloesk) (t : FolTrig) (p : Gloesk → Nat → Bool) : (g.triggerAll t p).still = g.still := by
  refine still_each _ _ _ (fun g n => ?_)
  split
  · exact still_trigger _ _ _
  · rfl

@[simp] theorem still_rowFlag (g : Gloesk) (n r b : Nat) : (g.rowFlag n r b).still = g.still := still_store _ _ _ _

@[simp] theorem still_postCheck (g : Gloesk) (n : Nat) : (g.postCheck n).still = g.still := by
  unfold postCheck
  dsimp only
  split
  · split <;> rfl
  · rfl

@[simp] theorem still_fixRow (g : Gloesk) (n : Nat) : (g.fixRow n).still = g.still := by
  unfold fixRow
  dsimp only
  split
  · rfl
  · split
    · rfl
    · split
      · rfl
      · simp only [still_postCheck, still_showFolios, still_triggerAll, still_onFolio, still_wr]
        rw [still_iff _ _ _ (still_rowFlag _ _ _ _), still_rowFlag]

@[simp] theorem still_fixRows (g : Gloesk) : g.fixRows.still = g.still := by
  unfold fixRows
  split
  · rfl
  · exact still_each _ _ _ (fun _ _ => still_each _ _ _ (fun _ _ => still_fixRow _ _))

@[simp] theorem still_triggerFix (g : Gloesk) (t : FolTrig) (p : Gloesk → Nat → Bool) : (g.triggerFix t p).still = g.still := by
  unfold triggerFix
  rw [still_fixRows, still_triggerAll]

@[simp] theorem still_logAppend (g : Gloesk) (e : LogEntry) : (g.logAppend e).still = g.still := rfl

@[simp] theorem still_incident (g : Gloesk) : g.incident.still = g.still := still_iff _ _ _ rfl

@[simp] theorem still_logEvent (g : Gloesk) (n : Nat) (r f : Bool) (w : Who) : (g.logEvent n r f w).still = g.still := by
  unfold logEvent
  dsimp only
  split
  · split <;> rfl
  · simp

@[simp] theorem still_alertAssert (g : Gloesk) (n : Nat) : (g.alertAssert n).still = g.still := by
  unfold alertAssert; split <;> rfl

@[simp] theorem still_alerts (g : Gloesk) (n : Nat) : (g.alerts n).still = g.still :=
  still_each _ _ _ (fun _ _ => still_alertAssert _ _)

@[simp] theorem still_addAction (g : Gloesk) (a : BltAction) : (g.addAction a).still = g.still := by
  unfold addAction
  split
  · rfl
  · split <;> rfl

@[simp] theorem still_nameAction (g : Gloesk) (a : BltAction) : (g.nameAction a).still = g.still := by
  simp [nameAction]

@[simp] theorem still_hoReject (g : Gloesk) : g.hoReject.still = g.still := rfl

@[simp] theorem still_hoOrder (g : Gloesk) (s : Nat) (i o : Bool) : (g.hoOrder s i o).still = g.still := by
  unfold hoOrder; split <;> rfl

@[simp] theorem still_hoCommit (g : Gloesk) (i : Bool) : (g.hoCommit i).still = g.still := by
  unfold hoCommit
  dsimp only
  split
  · exact (still_sendRecord _ _ _ _).trans (still_hoOrder _ _ _ _)
  · exact still_hoOrder _ _ _ _

@[simp] theorem still_callActions (g : Gloesk) (n : Nat) (w : Who) (t : Nat) (f : Bool) : (g.callActions n w t f).still = g.still := by
  unfold callActions
  dsimp only
  rw [still_iff _ _ _ (still_hoCommit _ _)]
  split
  · rw [still_iff _ _ _ (still_nameAction _ _), still_iff _ _ _ (still_nameAction _ _),
      still_iff _ _ _ (still_each _ _ _ (fun _ _ => still_nameAction _ _)), still_iff _ _ _ (still_alerts _ _)]
  · rw [still_iff _ _ _ (still_nameAction _ _),
      still_iff _ _ _ (still_each _ _ _ (fun _ _ => still_nameAction _ _)), still_iff _ _ _ (still_alerts _ _)]

@[simp] theorem still_notify (g : Gloesk) : g.notify.still = g.still := by
  unfold notify
  rw [still_iff _ _ _ (still_post1 _ _ _), still_msix]

@[simp] theorem still_setStatus (g : Gloesk) (n : Nat) (x : Bool) : (g.setStatus n x).still = g.still := rfl

@[simp] theorem still_stampEdge (g : Gloesk) (n i f l : Nat) : (g.stampEdge n i f l).still = g.still := by
  unfold stampEdge
  dsimp only
  simp only [still_wr, still_inc]
  exact still_iff _ _ _ rfl

@[simp] theorem still_actOnEdge (g : Gloesk) (n : Nat) (w : Who) (t : Nat) (f : Bool) : (g.actOnEdge n w t f).still = g.still := by
  unfold actOnEdge
  dsimp only
  have h : ((((g.iff (g.rd F.BLT_SRC_CFG_CLASS n == 0) (·.onBlt (fun b => { b with
      edgesA := (b.edgesA.filter (fun x => g.time.bl < x + 1000000 * 2 ^ 32)) ++ [g.time.bl] }))).logEvent n true f w).iff
      (decide (g.rd F.BLT_SRC_CFG_CLASS n < 2)) (·.notify)).incident).still = g.still := by
    rw [still_incident, still_iff _ _ _ (still_notify _), still_logEvent]
    exact still_iff _ _ _ rfl
  split
  · rfl
  · split
    · rw [still_callActions]; exact h
    · split
      · rw [still_onBlt]; exact h
      · exact h

@[simp] theorem still_edge (g : Gloesk) (n : Nat) (w : Who) (f : Bool) : (g.edge n w f).still = g.still := by
  simp [edge]

@[simp] theorem still_showAny (g : Gloesk) : g.showAny.still = g.still := rfl

@[simp] theorem still_showCause (g : Gloesk) (n : Nat) (w : Who) : (g.showCause n w).still = g.still := by
  unfold showCause
  dsimp only
  rw [still_showAny, still_iff _ _ _ (still_logEvent _ _ _ _ _)]
  rfl

@[simp] theorem still_holdRise (g : Gloesk) (n : Nat) (w : Who) : (g.holdRise n w).still = g.still := by
  unfold holdRise
  dsimp only
  have h (x : Bool) (y : BlotterState → BlotterState) : (g.iff x (·.onBlt y)).still = g.still := still_iff _ _ _ rfl
  generalize (if (has gloeskEvents n && !srcApart n) = true then Who.none else w) = v
  split
  · exact h _ _
  · rw [still_showCause, still_iff _ _ _ (still_edge _ _ _ _), still_onBlt]
    exact h _ _

@[simp] theorem still_holdFall (g : Gloesk) (n : Nat) (w : Who) : (g.holdFall n w).still = g.still := by
  unfold holdFall; split
  · simp
  · rfl

@[simp] theorem still_takeEdge (g : Gloesk) (e : Edge) : (g.takeEdge e).still = g.still := by
  unfold takeEdge
  split
  · rfl
  · split
    · simp
    · split
      · rfl
      · split
        · split
          · simp
          · rfl
        · simp

@[simp] theorem still_noEdges (g : Gloesk) : ({ g with edges := [] } : Gloesk).still = g.still := rfl

@[simp] theorem still_takeEdges (g : Gloesk) : g.takeEdges.still = g.still := by
  have h : ∀ g : Gloesk, (g.edges.foldl (fun (g : Gloesk) e => g.takeEdge e) { g with edges := [] }).still = g.still :=
    fun g => still_foldl _ _ (fun _ _ => still_takeEdge _ _) _
  unfold takeEdges
  dsimp only
  rw [still_fixRows, still_noEdges]
  split
  · rfl
  · rw [h, h, h]

@[simp] theorem still_showShed (g : Gloesk) : g.showShed.still = g.still := rfl

theorem still_used (g : Gloesk) : ({ g with edges := [], hits := [] } : Gloesk).still = g.still := rfl

/-- The end of a step of the Gloesk leaves that state alone. -/
@[simp] theorem still_finish (g : Gloesk) : g.finish.still = g.still := by
  unfold finish
  rw [still_used]; simp

/-- What two states with the same such state share. -/
theorem still_shared {a b : Gloesk} (e : a.still = b.still) :
    a.variant = b.variant ∧ a.latches = b.latches ∧ a.map = b.map ∧ a.time = b.time ∧ a.rul = b.rul ∧ a.svi = b.svi ∧
    a.staged = b.staged ∧ a.disp = b.disp ∧ a.lpe = b.lpe ∧ a.flr = b.flr ∧ a.rank = b.rank ∧ a.lan.apart = b.lan.apart ∧ a.aq =
    b.aq ∧ a.arb = b.arb ∧ a.trust = b.trust ∧ a.pos = b.pos ∧ a.pwr = b.pwr := by
  simpa only [still, Prod.mk.injEq] using e

@[simp] theorem finish_edges (g : Gloesk) : g.finish.edges = [] := rfl
@[simp] theorem finish_hits (g : Gloesk) : g.finish.hits = [] := rfl
@[simp] theorem finish_variant (g : Gloesk) : g.finish.variant = g.variant := (still_shared (still_finish g)).1
@[simp] theorem finish_latches (g : Gloesk) : g.finish.latches = g.latches := (still_shared (still_finish g)).2.1
@[simp] theorem finish_map (g : Gloesk) : g.finish.map = g.map := (still_shared (still_finish g)).2.2.1
@[simp] theorem finish_time (g : Gloesk) : g.finish.time = g.time := (still_shared (still_finish g)).2.2.2.1
@[simp] theorem finish_rul (g : Gloesk) : g.finish.rul = g.rul := (still_shared (still_finish g)).2.2.2.2.1
@[simp] theorem finish_svi (g : Gloesk) : g.finish.svi = g.svi := (still_shared (still_finish g)).2.2.2.2.2.1
@[simp] theorem finish_staged (g : Gloesk) : g.finish.staged = g.staged := (still_shared (still_finish g)).2.2.2.2.2.2.1
@[simp] theorem finish_disp (g : Gloesk) : g.finish.disp = g.disp := (still_shared (still_finish g)).2.2.2.2.2.2.2.1
@[simp] theorem finish_lpe (g : Gloesk) : g.finish.lpe = g.lpe := (still_shared (still_finish g)).2.2.2.2.2.2.2.2.1
@[simp] theorem finish_flr (g : Gloesk) : g.finish.flr = g.flr := (still_shared (still_finish g)).2.2.2.2.2.2.2.2.2.1
@[simp] theorem finish_rank (g : Gloesk) : g.finish.rank = g.rank := (still_shared (still_finish g)).2.2.2.2.2.2.2.2.2.2.1
@[simp] theorem finish_lan (g : Gloesk) : g.finish.lan.apart = g.lan.apart := (still_shared (still_finish g)).2.2.2.2.2.2.2.2.2.2.2.1
@[simp] theorem finish_aq (g : Gloesk) : g.finish.aq = g.aq := (still_shared (still_finish g)).2.2.2.2.2.2.2.2.2.2.2.2.1
@[simp] theorem finish_arb (g : Gloesk) : g.finish.arb = g.arb := (still_shared (still_finish g)).2.2.2.2.2.2.2.2.2.2.2.2.2.1
@[simp] theorem finish_trust (g : Gloesk) : g.finish.trust = g.trust := (still_shared (still_finish g)).2.2.2.2.2.2.2.2.2.2.2.2.2.2.1
@[simp] theorem finish_pos (g : Gloesk) : g.finish.pos = g.pos := (still_shared (still_finish g)).2.2.2.2.2.2.2.2.2.2.2.2.2.2.2.1
@[simp] theorem finish_pwr (g : Gloesk) : g.finish.pwr = g.pwr := (still_shared (still_finish g)).2.2.2.2.2.2.2.2.2.2.2.2.2.2.2.2

end Gloesk

end Sys2Proof.Machine
end

