-- ==== Sys2Proof/Laws/State.lean ====
section
/-!
SUPPORT. Laws of the whole state: what each way of acting on a part changes and leaves.
-/

namespace Sys2Proof.Machine.State

@[simp] theorem onG_sk (s : State) (f : Gloesk → Gloesk) : (s.onG f).sk = s.sk := rfl
@[simp] theorem onG_ih (s : State) (f : Gloesk → Gloesk) : (s.onG f).ih = s.ih := rfl
@[simp] theorem onG_pending (s : State) (f : Gloesk → Gloesk) : (s.onG f).pending = s.pending := rfl
@[simp] theorem onG_gk (s : State) (f : Gloesk → Gloesk) : (s.onG f).gk = s.gk.act f := rfl
@[simp] theorem onP_sk (s : State) (f : Gloesk → Gloesk) : (s.onP f).sk = s.sk := rfl
@[simp] theorem onP_ih (s : State) (f : Gloesk → Gloesk) : (s.onP f).ih = s.ih := rfl
@[simp] theorem onP_pending (s : State) (f : Gloesk → Gloesk) : (s.onP f).pending = s.pending := rfl
@[simp] theorem onP_gk (s : State) (f : Gloesk → Gloesk) : (s.onP f).gk = (f s.gk).finish := rfl
@[simp] theorem onH_gk (s : State) (f : Stanak → Stanak) : (s.onH f).gk = s.gk := rfl
@[simp] theorem onH_sk (s : State) (f : Stanak → Stanak) : (s.onH f).sk = f s.sk := rfl
@[simp] theorem onH_ih (s : State) (f : Stanak → Stanak) : (s.onH f).ih = s.ih := rfl
@[simp] theorem onH_pending (s : State) (f : Stanak → Stanak) : (s.onH f).pending = s.pending := rfl
@[simp] theorem onC_gk (s : State) (f : Nat → Ihloon → Ihloon) : (s.onC f).gk = s.gk := rfl
@[simp] theorem onC_sk (s : State) (f : Nat → Ihloon → Ihloon) : (s.onC f).sk = s.sk := rfl
@[simp] theorem onC_ih (s : State) (f : Nat → Ihloon → Ihloon) : (s.onC f).ih = f s.period s.ih := rfl
@[simp] theorem onC_pending (s : State) (f : Nat → Ihloon → Ihloon) : (s.onC f).pending = s.pending := rfl

@[simp] theorem gkNext_gk (s : State) (g : Gloesk) : (s.gkNext g).gk = g.finish := rfl
@[simp] theorem gkNext_sk (s : State) (g : Gloesk) : (s.gkNext g).sk = s.sk := rfl
@[simp] theorem gkNext_ih (s : State) (g : Gloesk) : (s.gkNext g).ih = s.ih := rfl
@[simp] theorem gkNext_pending (s : State) (g : Gloesk) : (s.gkNext g).pending = s.pending := rfl
@[simp] theorem skNext_gk (s : State) (h : Stanak) : (s.skNext h).gk = s.gk := rfl
@[simp] theorem skNext_sk (s : State) (h : Stanak) : (s.skNext h).sk = h := rfl
@[simp] theorem skNext_ih (s : State) (h : Stanak) : (s.skNext h).ih = s.ih := rfl
@[simp] theorem skNext_pending (s : State) (h : Stanak) : (s.skNext h).pending = s.pending := rfl
@[simp] theorem ihNext_gk (s : State) (c : Ihloon) : (s.ihNext c).gk = s.gk := rfl
@[simp] theorem ihNext_sk (s : State) (c : Ihloon) : (s.ihNext c).sk = s.sk := rfl
@[simp] theorem ihNext_ih (s : State) (c : Ihloon) : (s.ihNext c).ih = c := rfl
@[simp] theorem ihNext_pending (s : State) (c : Ihloon) : (s.ihNext c).pending = s.pending := rfl

/-- A command to the Gloesk acts while its blocks run. -/
theorem onG_run (s : State) (h : s.gk.blocksRun = true) (f : Gloesk → Gloesk) : s.onG f = s.gkNext (f s.gk) := by
  simp [State.onG, State.gkNext, Gloesk.act, h]

/-- A command to the Gloesk does nothing while its blocks are held. -/
theorem onG_held (s : State) (h : s.gk.blocksRun = false) (f : Gloesk → Gloesk) : s.onG f = s := by
  simp [State.onG, Gloesk.act, h]

/-- A step of the Gloesk leaves nothing for another step. -/
theorem onG_settled (s : State) (f : Gloesk → Gloesk) (h : s.settled) : (s.onG f).settled := by
  unfold State.settled State.onG Gloesk.act
  dsimp only
  split
  · exact ⟨rfl, rfl⟩
  · exact h

theorem onP_settled (s : State) (f : Gloesk → Gloesk) : (s.onP f).settled := ⟨rfl, rfl⟩
theorem onH_settled (s : State) (f : Stanak → Stanak) (h : s.settled) : (s.onH f).settled := h
theorem onC_settled (s : State) (f : Nat → Ihloon → Ihloon) (h : s.settled) : (s.onC f).settled := h

/-- A command to the cell's main domain acts while that runs. -/
theorem onPart_ih_run (s : State) (h : s.ih.mainRuns = true) (fg : Gloesk → Gloesk) (fh : Nat → Stanak → Stanak)
    (fc : Nat → Ihloon → Ihloon) : s.onPart .ihloon fg fh fc = s.ihNext (fc s.period s.ih) := by
  have e : s.onPart .ihloon fg fh fc = s.onC (fun T c => if c.mainRuns then fc T c else c) := rfl
  rw [e]
  simp only [State.onC, h]
  rfl

/-- A core of a running Gloesk executes the legal instruction at its pc. -/
theorem quill_runs (g : Gloesk) (q w : Nat) (f : Gloesk → Option Gloesk) (g' : Gloesk) (h : g.coreAt q w) (hf : f g = some g') :
    g.quill q w 0 f = g'.onPair q (fun k => { k with stepping := false }) := by
  obtain ⟨h1, h2, h3, h4⟩ := h
  have h5 : ¬ 0x10000 < (g.core q).pc + 4 := by omega
  simp [Gloesk.quill, h1, h5, h4, h3, hf]

/-- The Quill-S executes the legal instruction at its pc. -/
theorem quillS_runs (c : Ihloon) (T w : Nat) (f : Ihloon → Ihloon) (h : c.coreAt w) :
    c.quillS T w 0 f = (f c).onCore (fun k => { k with stepping := false }) := by
  obtain ⟨h1, h2, h3⟩ := h
  simp [Ihloon.quillS, h1, h2, h3]

/-- An instruction that acts on the core alone. -/
theorem quillCore_runs (s : State) (w : Nat) (f : Core → Core) (mk : CoreId → Instr)
    (h : ∀ u, exec (mk u) s = .next (s.quillCore u w 0 f)) : RunsOnCore s mk w f := by
  refine ⟨fun hb q hc => ?_, fun hc => ?_⟩
  · rw [h]
    show Host.Outcome.next (s.onG (fun g => g.quillCore q w 0 f)) = _
    rw [onG_run s hb, Gloesk.quillCore, quill_runs s.gk q w _ (s.gk.onPair q f) hc rfl]
  · rw [h]
    show Host.Outcome.next (s.onC (fun T c => c.quillSCore T w 0 f)) = _
    simp only [State.onC, Ihloon.quillSCore, quillS_runs s.ih s.period w _ hc]
    rfl

end Sys2Proof.Machine.State
end

