-- ==== Sys2Proof/Laws/Local.lean ====
section
/-!
SUPPORT. Laws of hub and cell Blotters: a source's edge changes registers and Blotter alone.
-/

namespace Sys2Proof.Machine

namespace Stanak

/-- The hub beside its registers and its Blotter. -/
def rest (h : Stanak) : Stanak := { h with regs := [], blt := LocalBlotter.reset }

@[simp] theorem rest_wr (h : Stanak) (f : Fld) (v i : Nat) : (h.wr f v i).rest = h.rest := rfl
@[simp] theorem rest_inc (h : Stanak) (f : Fld) (i n : Nat) : (h.inc f i n).rest = h.rest := rfl

@[simp] theorem rest_markChanged (h : Stanak) (n : Nat) : (h.markChanged n).rest = h.rest := by
  unfold markChanged
  split
  · rfl
  · split
    · rfl
    · split <;> rfl

@[simp] theorem rest_rise (h : Stanak) (n : Nat) : (h.rise n).rest = h.rest := by
  unfold rise
  dsimp only
  split
  · rfl
  · split <;> split <;> first
    | rfl
    | (rw [rest_markChanged]; rfl)

@[simp] theorem rest_raise (h : Stanak) (n : Nat) : (h.raise n).rest = h.rest := by
  unfold raise
  rw [rest_rise]
  dsimp only
  split <;> rfl

@[simp] theorem rest_lower (h : Stanak) (n : Nat) : (h.lower n).rest = h.rest := by
  unfold lower
  dsimp only
  split
  · rw [rest_markChanged]; rfl
  · rfl

@[simp] theorem rest_level (h : Stanak) (n : Nat) (x : Bool) : (h.level n x).rest = h.rest := by
  cases x
  · exact rest_lower h n
  · exact rest_raise h n

end Stanak

namespace Ihloon

/-- The cell beside its registers and its Blotter. -/
def rest (c : Ihloon) : Ihloon := { c with regs := [], blt := LocalBlotter.reset }

@[simp] theorem rest_wr (c : Ihloon) (f : Fld) (v i : Nat) : (c.wr f v i).rest = c.rest := rfl
@[simp] theorem rest_inc (c : Ihloon) (f : Fld) (i n : Nat) : (c.inc f i n).rest = c.rest := rfl

@[simp] theorem rest_markChanged (c : Ihloon) (n : Nat) : (c.markChanged n).rest = c.rest := by
  unfold markChanged
  split <;> rfl

@[simp] theorem rest_rise (c : Ihloon) (n : Nat) : (c.rise n).rest = c.rest := by
  unfold rise
  dsimp only
  split
  · rfl
  · split <;> split <;> first
    | rfl
    | (rw [rest_markChanged]; rfl)

@[simp] theorem rest_raise (c : Ihloon) (n : Nat) : (c.raise n).rest = c.rest := by
  unfold raise
  rw [rest_rise]
  dsimp only
  split <;> rfl

@[simp] theorem rest_iff_down (c : Ihloon) (x : Bool) (f : Fld) (i : Nat) : (c.iff x (·.down f i)).rest = c.rest := by
  cases x <;> rfl

@[simp] theorem rest_lower (c : Ihloon) (n : Nat) : (c.lower n).rest = c.rest := by
  unfold lower
  dsimp only
  split
  · rw [rest_markChanged, rest_iff_down]; rfl
  · rfl

@[simp] theorem rest_level (c : Ihloon) (n : Nat) (x : Bool) : (c.level n x).rest = c.rest := by
  cases x
  · exact rest_lower c n
  · exact rest_raise c n

end Ihloon

end Sys2Proof.Machine
end

