-- ==== Sys2Proof/Laws/Blotter.lean ====
section
/-!
SUPPORT. Laws of hub and cell Blotters: what a rising edge of a source shows.
-/

namespace Sys2Proof.Machine

/-- Two registers of one kind of source at different words. -/
theorem Reg.at_ne_of_stride (r q : Reg) (n : Nat) (hr : r.stride = 16) (hq : q.stride = 16) (h : r.addr % 16 ≠ q.addr % 16) : r.at n ≠ q.at n := by
  unfold Reg.at; rw [hr, hq]; omega
/-- A register of a source is none of the single registers below. -/
theorem Reg.at_ne_of_low (r q : Reg) (n i : Nat) (hq : q.stride = 0) (h : q.addr < r.addr) : r.at n ≠ q.at i := by
  unfold Reg.at; rw [hq]; omega

/-- A rising edge of a source that is not up: what it shows (R358, R370). -/
theorem Stanak.raise_spec (h : Stanak) (n : Nat) (hc : h.rd F.HBLT_SRC_STAT_CAUSE n = 0) :
    (h.raise n).rd F.HBLT_SRC_STAT_SET n = 1 ∧ (h.raise n).rd F.HBLT_SRC_STAT_CAUSE n = 1 ∧
    (h.raise n).rd F.HBLT_SRC_STAT_COUNT n = min (h.rd F.HBLT_SRC_STAT_COUNT n + 1) 65535 ∧
    (h.raise n).rd F.HBLT_SRC_LAST_STK n = h.stroke % 2 ^ 32 ∧
    (h.raise n).rd F.HBLT_SRC_FIRST_STK n = (if h.rd F.HBLT_SRC_STAT_COUNT n = 0 then h.stroke % 2 ^ 32 else h.rd F.HBLT_SRC_FIRST_STK n) := by
  have e : ∃ b, h.raise n = Stanak.rise { h with blt := b } n := by
    unfold Stanak.raise
    dsimp only
    split <;> exact ⟨_, rfl⟩
  obtain ⟨b, e⟩ := e
  rw [e]
  clear e
  have hc' : (({ h with blt := b } : Stanak).on F.HBLT_SRC_STAT_CAUSE n) = false := by
    show (h.rd _ n != 0) = false
    rw [hc]; rfl
  have hh : ({ h with blt := b } : Stanak).regs = h.regs ∧ ({ h with blt := b } : Stanak).stroke = h.stroke := ⟨rfl, rfl⟩
  generalize ({ h with blt := b } : Stanak) = g at hc' hh ⊢
  obtain ⟨hg, hst⟩ := hh
  have rdg : ∀ f i, g.rd f i = h.rd f i := fun f i => by unfold Stanak.rd; rw [hg]
  unfold Stanak.rise
  rw [if_neg (by rw [hc']; simp)]
  extract_lets first h1 h2 h3
  have oth : ∀ (x : Stanak) (f e : Fld) (v i j : Nat), e.reg.at j ≠ f.reg.at i → (x.wr f v i).rd e j = x.rd e j := fun x f e v i j hn => RegFile.fld_setFld_other _ _ _ _ _ _ hn
  have a1 : h1.rd F.HBLT_SRC_STAT_SET n = 1 := by
    refine (RegFile.fld_setFld_disjoint _ F.HBLT_SRC_STAT_COUNT F.HBLT_SRC_STAT_SET _ n rfl (by decide) (by decide)).trans ?_
    refine (RegFile.fld_setFld_disjoint _ F.HBLT_SRC_STAT_CAUSE F.HBLT_SRC_STAT_SET _ n rfl (by decide) (by decide)).trans ?_
    exact RegFile.fld_setFld_same _ _ _ _ (by decide)
  have a2 : h1.rd F.HBLT_SRC_STAT_CAUSE n = 1 := by
    refine (RegFile.fld_setFld_disjoint _ F.HBLT_SRC_STAT_COUNT F.HBLT_SRC_STAT_CAUSE _ n rfl (by decide) (by decide)).trans ?_
    exact RegFile.fld_setFld_same _ _ _ _ (by decide)
  have a3 : h1.rd F.HBLT_SRC_STAT_COUNT n = min (h.rd F.HBLT_SRC_STAT_COUNT n + 1) 65535 := by
    refine (RegFile.fld_addSat_same _ F.HBLT_SRC_STAT_COUNT _ _ (by decide)).trans ?_
    have : (((g.up F.HBLT_SRC_STAT_SET n).up F.HBLT_SRC_STAT_CAUSE n).regs).fld F.HBLT_SRC_STAT_COUNT n = h.rd F.HBLT_SRC_STAT_COUNT n :=
      ((RegFile.fld_setFld_disjoint _ F.HBLT_SRC_STAT_CAUSE F.HBLT_SRC_STAT_COUNT _ n rfl (by decide) (by decide)).trans
      (RegFile.fld_setFld_disjoint _ F.HBLT_SRC_STAT_SET F.HBLT_SRC_STAT_COUNT _ n rfl (by decide) (by decide))).trans (rdg _ _)
    exact congrArg (fun x => min (x + 1) 65535) this
  have a5 : h1.rd F.HBLT_SRC_FIRST_STK n = h.rd F.HBLT_SRC_FIRST_STK n := by
    have ne : R.HBLT_SRC_FIRST.at n ≠ R.HBLT_SRC_STAT.at n := Reg.at_ne_of_stride _ _ _ rfl rfl (by decide)
    exact ((RegFile.fld_addSat_other _ _ _ _ _ _ ne).trans ((oth _ _ _ _ _ _ ne).trans (oth _ _ _ _ _ _ ne))).trans (rdg _ _)
  have b : ∀ e ∈ [F.HBLT_SRC_STAT_SET, F.HBLT_SRC_STAT_CAUSE, F.HBLT_SRC_STAT_COUNT], h3.rd e n = h1.rd e n := by
    intro e he
    have hr : e.reg = R.HBLT_SRC_STAT := by
      simp only [List.mem_cons, List.not_mem_nil, or_false] at he
      rcases he with rfl | rfl | rfl <;> rfl
    have : h3.rd e n = h2.rd e n := oth _ _ _ _ _ _ (by rw [hr]; exact Reg.at_ne_of_stride _ _ _ rfl rfl (by decide))
    rw [this]
    show (if first = true then _ else h1 : Stanak).rd e n = _
    split
    · exact oth _ _ _ _ _ _ (by rw [hr]; exact Reg.at_ne_of_stride _ _ _ rfl rfl (by decide))
    · rfl
  have h1s : h1.stroke = h.stroke := hst
  have h2s : h2.stroke = h.stroke := by
    show (if first = true then _ else h1 : Stanak).stroke = _
    split <;> exact hst
  have b4 : h3.rd F.HBLT_SRC_LAST_STK n = h.stroke % 2 ^ 32 := by
    refine (RegFile.fld_setFld_same _ _ _ _ (by decide)).trans ?_
    rw [h2s]; exact Nat.mod_mod_of_dvd _ ⟨1, rfl⟩
  have b5 : h3.rd F.HBLT_SRC_FIRST_STK n = (if h.rd F.HBLT_SRC_STAT_COUNT n = 0 then h.stroke % 2 ^ 32 else h.rd F.HBLT_SRC_FIRST_STK n) := by
    have : h3.rd F.HBLT_SRC_FIRST_STK n = h2.rd F.HBLT_SRC_FIRST_STK n := oth _ _ _ _ _ _ (Reg.at_ne_of_stride _ _ _ rfl rfl (by decide))
    rw [this]
    have hf : first = (h.rd F.HBLT_SRC_STAT_COUNT n == 0) := congrArg (· == 0) (rdg _ _)
    show (if first = true then _ else h1 : Stanak).rd F.HBLT_SRC_FIRST_STK n = _
    rw [hf]
    by_cases hz : h.rd F.HBLT_SRC_STAT_COUNT n = 0
    · rw [if_pos (by simp [hz]), if_pos hz]
      refine (RegFile.fld_setFld_same _ _ _ _ (by decide)).trans ?_
      rw [h1s]; exact Nat.mod_mod_of_dvd _ ⟨1, rfl⟩
    · rw [if_neg (by simp [hz]), if_neg hz]; exact a5
  have fin : ∀ (e : Fld), e.reg.stride = 16 → 0x2014 ≤ e.reg.addr → ∀ y : Stanak, (y = h3.markChanged n ∨ y = (h3.wr F.HBLT_EVCNT_EVCNT (h3.rd F.HBLT_EVCNT_EVCNT + 1)).markChanged n) → y.rd e n = h3.rd e n := by
    intro e he ha y hy
    have ne : ∀ q : Reg, q.stride = 0 → q.addr < 0x2014 → e.reg.at n ≠ q.at 0 := fun q h0 h1 => Reg.at_ne_of_low _ _ _ _ h0 (by omega)
    have m : ∀ x : Stanak, (x.markChanged n).rd e n = x.rd e n := by
      intro x
      unfold Stanak.markChanged
      split
      · exact oth _ _ _ _ _ _ (ne _ rfl (by decide))
      · split
        · exact oth _ _ _ _ _ _ (ne _ rfl (by decide))
        · split
          · exact oth _ _ _ _ _ _ (ne _ rfl (by decide))
          · exact oth _ _ _ _ _ _ (ne _ rfl (by decide))
    rcases hy with rfl | rfl
    · exact m _
    · exact (m _).trans (oth _ _ _ _ _ _ (ne _ rfl (by decide)))
  have c : ∀ e : Fld, e.reg.stride = 16 → 0x2014 ≤ e.reg.addr → ((if (h3.on F.HBLT_SRC_CFG_EN n && decide (h3.rd F.HBLT_SRC_CFG_CLASS n < 2)) = true then
      h3.wr F.HBLT_EVCNT_EVCNT (h3.rd F.HBLT_EVCNT_EVCNT + 1) else h3).markChanged n).rd e n = h3.rd e n := by
    intro e h1 h2
    split
    · exact fin e h1 h2 _ (Or.inr rfl)
    · exact fin e h1 h2 _ (Or.inl rfl)
  refine ⟨(c _ rfl (by decide)).trans ((b _ (by simp)).trans a1), (c _ rfl (by decide)).trans ((b _ (by simp)).trans a2), (c _ rfl (by decide)).trans ((b _ (by simp)).trans a3), (c _ rfl (by decide)).trans b4, (c _ rfl (by decide)).trans b5⟩

/-- A rising edge of a source that is not up: what it shows (R358, R370). -/
theorem Ihloon.raise_spec (h : Ihloon) (n : Nat) (hc : h.rd F.CBLT_SRC_STAT_CAUSE n = 0) :
    (h.raise n).rd F.CBLT_SRC_STAT_SET n = 1 ∧ (h.raise n).rd F.CBLT_SRC_STAT_CAUSE n = 1 ∧
    (h.raise n).rd F.CBLT_SRC_STAT_COUNT n = min (h.rd F.CBLT_SRC_STAT_COUNT n + 1) 65535 ∧
    (h.raise n).rd F.CBLT_SRC_LAST_STK n = h.stroke % 2 ^ 32 ∧
    (h.raise n).rd F.CBLT_SRC_FIRST_STK n = (if h.rd F.CBLT_SRC_STAT_COUNT n = 0 then h.stroke % 2 ^ 32 else h.rd F.CBLT_SRC_FIRST_STK n) := by
  have e : ∃ b, h.raise n = Ihloon.rise { h with blt := b } n := by
    unfold Ihloon.raise
    dsimp only
    split <;> exact ⟨_, rfl⟩
  obtain ⟨b, e⟩ := e
  rw [e]
  clear e
  have hc' : (({ h with blt := b } : Ihloon).on F.CBLT_SRC_STAT_CAUSE n) = false := by
    show (h.rd _ n != 0) = false
    rw [hc]; rfl
  have hh : ({ h with blt := b } : Ihloon).regs = h.regs ∧ ({ h with blt := b } : Ihloon).stroke = h.stroke := ⟨rfl, rfl⟩
  generalize ({ h with blt := b } : Ihloon) = g at hc' hh ⊢
  obtain ⟨hg, hst⟩ := hh
  have rdg : ∀ f i, g.rd f i = h.rd f i := fun f i => by unfold Ihloon.rd; rw [hg]
  unfold Ihloon.rise
  rw [if_neg (by rw [hc']; simp)]
  extract_lets first h1 h2 h3
  have oth : ∀ (x : Ihloon) (f e : Fld) (v i j : Nat), e.reg.at j ≠ f.reg.at i → (x.wr f v i).rd e j = x.rd e j := fun x f e v i j hn => RegFile.fld_setFld_other _ _ _ _ _ _ hn
  have a1 : h1.rd F.CBLT_SRC_STAT_SET n = 1 := by
    refine (RegFile.fld_setFld_disjoint _ F.CBLT_SRC_STAT_COUNT F.CBLT_SRC_STAT_SET _ n rfl (by decide) (by decide)).trans ?_
    refine (RegFile.fld_setFld_disjoint _ F.CBLT_SRC_STAT_CAUSE F.CBLT_SRC_STAT_SET _ n rfl (by decide) (by decide)).trans ?_
    exact RegFile.fld_setFld_same _ _ _ _ (by decide)
  have a2 : h1.rd F.CBLT_SRC_STAT_CAUSE n = 1 := by
    refine (RegFile.fld_setFld_disjoint _ F.CBLT_SRC_STAT_COUNT F.CBLT_SRC_STAT_CAUSE _ n rfl (by decide) (by decide)).trans ?_
    exact RegFile.fld_setFld_same _ _ _ _ (by decide)
  have a3 : h1.rd F.CBLT_SRC_STAT_COUNT n = min (h.rd F.CBLT_SRC_STAT_COUNT n + 1) 65535 := by
    refine (RegFile.fld_addSat_same _ F.CBLT_SRC_STAT_COUNT _ _ (by decide)).trans ?_
    have : (((g.up F.CBLT_SRC_STAT_SET n).up F.CBLT_SRC_STAT_CAUSE n).regs).fld F.CBLT_SRC_STAT_COUNT n = h.rd F.CBLT_SRC_STAT_COUNT n :=
      ((RegFile.fld_setFld_disjoint _ F.CBLT_SRC_STAT_CAUSE F.CBLT_SRC_STAT_COUNT _ n rfl (by decide) (by decide)).trans
      (RegFile.fld_setFld_disjoint _ F.CBLT_SRC_STAT_SET F.CBLT_SRC_STAT_COUNT _ n rfl (by decide) (by decide))).trans (rdg _ _)
    exact congrArg (fun x => min (x + 1) 65535) this
  have a5 : h1.rd F.CBLT_SRC_FIRST_STK n = h.rd F.CBLT_SRC_FIRST_STK n := by
    have ne : R.CBLT_SRC_FIRST.at n ≠ R.CBLT_SRC_STAT.at n := Reg.at_ne_of_stride _ _ _ rfl rfl (by decide)
    exact ((RegFile.fld_addSat_other _ _ _ _ _ _ ne).trans ((oth _ _ _ _ _ _ ne).trans (oth _ _ _ _ _ _ ne))).trans (rdg _ _)
  have b : ∀ e ∈ [F.CBLT_SRC_STAT_SET, F.CBLT_SRC_STAT_CAUSE, F.CBLT_SRC_STAT_COUNT], h3.rd e n = h1.rd e n := by
    intro e he
    have hr : e.reg = R.CBLT_SRC_STAT := by
      simp only [List.mem_cons, List.not_mem_nil, or_false] at he
      rcases he with rfl | rfl | rfl <;> rfl
    have : h3.rd e n = h2.rd e n := oth _ _ _ _ _ _ (by rw [hr]; exact Reg.at_ne_of_stride _ _ _ rfl rfl (by decide))
    rw [this]
    show (if first = true then _ else h1 : Ihloon).rd e n = _
    split
    · exact oth _ _ _ _ _ _ (by rw [hr]; exact Reg.at_ne_of_stride _ _ _ rfl rfl (by decide))
    · rfl
  have h1s : h1.stroke = h.stroke := hst
  have h2s : h2.stroke = h.stroke := by
    show (if first = true then _ else h1 : Ihloon).stroke = _
    split <;> exact hst
  have b4 : h3.rd F.CBLT_SRC_LAST_STK n = h.stroke % 2 ^ 32 := by
    refine (RegFile.fld_setFld_same _ _ _ _ (by decide)).trans ?_
    rw [h2s]; exact Nat.mod_mod_of_dvd _ ⟨1, rfl⟩
  have b5 : h3.rd F.CBLT_SRC_FIRST_STK n = (if h.rd F.CBLT_SRC_STAT_COUNT n = 0 then h.stroke % 2 ^ 32 else h.rd F.CBLT_SRC_FIRST_STK n) := by
    have : h3.rd F.CBLT_SRC_FIRST_STK n = h2.rd F.CBLT_SRC_FIRST_STK n := oth _ _ _ _ _ _ (Reg.at_ne_of_stride _ _ _ rfl rfl (by decide))
    rw [this]
    have hf : first = (h.rd F.CBLT_SRC_STAT_COUNT n == 0) := congrArg (· == 0) (rdg _ _)
    show (if first = true then _ else h1 : Ihloon).rd F.CBLT_SRC_FIRST_STK n = _
    rw [hf]
    by_cases hz : h.rd F.CBLT_SRC_STAT_COUNT n = 0
    · rw [if_pos (by simp [hz]), if_pos hz]
      refine (RegFile.fld_setFld_same _ _ _ _ (by decide)).trans ?_
      rw [h1s]; exact Nat.mod_mod_of_dvd _ ⟨1, rfl⟩
    · rw [if_neg (by simp [hz]), if_neg hz]; exact a5
  have fin : ∀ (e : Fld), e.reg.stride = 16 → 0x7014 ≤ e.reg.addr → ∀ y : Ihloon, (y = h3.markChanged n ∨ y = (h3.wr F.CBLT_EVCNT_EVCNT (h3.rd F.CBLT_EVCNT_EVCNT + 1)).markChanged n) → y.rd e n = h3.rd e n := by
    intro e he ha y hy
    have ne : ∀ q : Reg, q.stride = 0 → q.addr < 0x7014 → e.reg.at n ≠ q.at 0 := fun q h0 h1 => Reg.at_ne_of_low _ _ _ _ h0 (by omega)
    have m : ∀ x : Ihloon, (x.markChanged n).rd e n = x.rd e n := by
      intro x
      unfold Ihloon.markChanged
      split
      · exact (oth _ _ _ _ _ _ (ne _ rfl (by decide))).trans (oth _ _ _ _ _ _ (ne _ rfl (by decide)))
      · exact (oth _ _ _ _ _ _ (ne _ rfl (by decide))).trans (oth _ _ _ _ _ _ (ne _ rfl (by decide)))
    rcases hy with rfl | rfl
    · exact m _
    · exact (m _).trans (oth _ _ _ _ _ _ (ne _ rfl (by decide)))
  have c : ∀ e : Fld, e.reg.stride = 16 → 0x7014 ≤ e.reg.addr → ((if (h3.on F.CBLT_SRC_CFG_EN n && decide (h3.rd F.CBLT_SRC_CFG_CLASS n < 2)) = true then
      h3.wr F.CBLT_EVCNT_EVCNT (h3.rd F.CBLT_EVCNT_EVCNT + 1) else h3).markChanged n).rd e n = h3.rd e n := by
    intro e h1 h2
    split
    · exact fin e h1 h2 _ (Or.inr rfl)
    · exact fin e h1 h2 _ (Or.inl rfl)
  refine ⟨(c _ rfl (by decide)).trans ((b _ (by simp)).trans a1), (c _ rfl (by decide)).trans ((b _ (by simp)).trans a2), (c _ rfl (by decide)).trans ((b _ (by simp)).trans a3), (c _ rfl (by decide)).trans b4, (c _ rfl (by decide)).trans b5⟩

end Sys2Proof.Machine
end

