-- ==== Sys2Proof/Laws/Commands.lean ====
section
/-!
SUPPORT. Laws of the operations that choose what a command does: the next word of a loop lane, messages over a link, accesses
of the host to registers.
-/

namespace Sys2Proof.Machine

/-- A loop word executes as the next word of its lane. -/
theorem Gloesk.laneNext_at (g : Gloesk) (lane : Nat) (win : LoopWindow) (ln : LaneState) (n op : Nat)
    (h : g.laneAt lane win ln n op) : g.laneNext lane (· == op) = g.laneStep win lane ln n := by
  obtain ⟨h1, h2, h3, h4⟩ := h
  simp [Gloesk.laneNext, h1, h2, h3, h4]

/-- A message over an open link acts; over one that is not open it is discarded (R404, R411, R428). -/
theorem Gloesk.linked_open (g : Gloesk) (l : Nat) (f : Gloesk → Gloesk) (h : g.linkOpen l = true) : g.linked l f = f g := by
  unfold Gloesk.linked; rw [h]; rfl
theorem Gloesk.linked_shut (g : Gloesk) (l : Nat) (f : Gloesk → Gloesk) (h : g.linkOpen l = false) : g.linked l f = g := by
  unfold Gloesk.linked; rw [h]; rfl
theorem Stanak.linked_open (h : Stanak) (l : Nat) (f : Stanak → Stanak) (e : h.linkOpen l = true) : h.linked l f = f h := if_pos e
theorem Stanak.linked_shut (h : Stanak) (l : Nat) (f : Stanak → Stanak) (e : h.linkOpen l = false) : h.linked l f = h :=
  if_neg (by simp [e])

/-- A message at a cell port that is UP acts if it is framed and its tag verifies, and is counted otherwise (R170-R172). -/
theorem Stanak.hears_good (h : Stanak) (c : Nat) (m : LinkMsg) (f : Stanak → Stanak) (e : h.rd F.HLNK_LK_STAT_RXST c = 3)
    (k : m.recent h.stroke = true) : h.hears c m f = f h := by
  unfold Stanak.hears; rw [if_neg (by simp [e]), if_pos k]
theorem Stanak.hears_bad (h : Stanak) (c : Nat) (m : LinkMsg) (f : Stanak → Stanak) (e : h.rd F.HLNK_LK_STAT_RXST c = 3)
    (k : m.recent h.stroke = false) : h.hears c m f = h.inc F.HLNK_LK_CNT1_MDISC c := by
  unfold Stanak.hears; rw [if_neg (by simp [e]), if_neg (by simp [k])]

namespace State

/-- A command that is a message over a link of the Gloesk. -/
theorem onG_linked (s : State) (l : Nat) (f : Gloesk → Gloesk) (hb : s.gk.blocksRun = true) :
    (s.gk.linkOpen l = true → s.onG (·.linked l f) = s.gkNext (f s.gk)) ∧
    (s.gk.linkOpen l = false → s.onG (·.linked l f) = s.gkNext s.gk) :=
  ⟨fun h => (onG_run s hb _).trans (congrArg s.gkNext (Gloesk.linked_open _ _ _ h)),
    fun h => (onG_run s hb _).trans (congrArg s.gkNext (Gloesk.linked_shut _ _ _ h))⟩

/-- A command that is a message over a link of the hub. -/
theorem onH_linked (s : State) (l : Nat) (f : Stanak → Stanak) :
    (s.sk.linkOpen l = true → s.onH (·.linked l f) = s.skNext (f s.sk)) ∧
    (s.sk.linkOpen l = false → s.onH (·.linked l f) = s.skNext s.sk) :=
  ⟨fun h => congrArg s.skNext (Stanak.linked_open _ _ _ h), fun h => congrArg s.skNext (Stanak.linked_shut _ _ _ h)⟩

theorem registerWrite_held (s : State) (a v be hit : Nat) (h : heldBlock a = true) :
    s.registerWrite a v be hit = s.onP (·.hostWrite a v be hit) := by
  unfold State.registerWrite
  rw [if_pos h]

theorem registerWrite_open (s : State) (a v be hit : Nat) (h : heldBlock a = false) :
    s.registerWrite a v be hit = s.onG (·.hostWrite a v be hit) := by
  unfold State.registerWrite
  rw [if_neg (by simp [h])]

theorem registerRead_debug (s : State) (a : Nat) (hit : Option Nat) (h : (Gloesk.debugAt a).isSome = true) :
    s.registerRead 0 a hit = s.onG (fun g => let r := g.hostRead a; r.1.answer 0 [r.2]) := by
  unfold State.registerRead
  rw [if_pos ⟨rfl, h⟩]

theorem registerRead_held (s : State) (who a : Nat) (hit : Option Nat) (hw : who ≠ 0 ∨ Gloesk.debugAt a = none)
    (h : heldBlock a = true) : s.registerRead who a hit = s.onP (·.readClear who a hit) := by
  unfold State.registerRead
  rw [if_neg (by rcases hw with hw | hw <;> simp [hw]), if_pos h]

theorem registerRead_open (s : State) (who a : Nat) (hit : Option Nat) (hw : who ≠ 0 ∨ Gloesk.debugAt a = none)
    (h : heldBlock a = false) : s.registerRead who a hit = s.onG (·.readClear who a hit) := by
  unfold State.registerRead
  rw [if_neg (by rcases hw with hw | hw <;> simp [hw]), if_neg (by simp [h])]

end State

end Sys2Proof.Machine
end

