-- ==== Sys2Proof/Laws/Loop.lean ====
section
/-!
SUPPORT. Laws of the Loop Engine: what one word of a lane leaves alone, and what it writes.
-/

namespace Sys2Proof.Machine.Gloesk

/-- Program, coefficients, buffer, locals, computed outputs, time and Ruling: what the words of a lane read and write. -/
def loopKeep (g : Gloesk) : Tab (BitVec 64) × Tab (BitVec 18) × Tab Word × Tab Word × Tab Word × TimeState × RulingState :=
  (g.lpe.prog, g.lpe.coef, g.lpe.buffer, g.lpe.locals, g.lpe.yc, g.time, g.rul)

theorem loopKeep_iff (g : Gloesk) (c : Bool) (f : Gloesk → Gloesk) (h : c = true → (f g).loopKeep = g.loopKeep) :
    (g.iff c f).loopKeep = g.loopKeep := by
  cases c
  · rfl
  · exact h rfl

@[simp] theorem loopKeep_wrSlotBit (g : Gloesk) (a b : Fld) (s : Nat) (x : Bool) : (g.wrSlotBit a b s x).loopKeep = g.loopKeep := by
  unfold wrSlotBit; split <;> rfl

@[simp] theorem loopKeep_slotSat (g : Gloesk) (s : Nat) : (g.slotSat s).loopKeep = g.loopKeep := by
  unfold slotSat
  rw [loopKeep_iff _ _ _ (fun _ => rfl)]
  exact loopKeep_wrSlotBit _ _ _ _ _

@[simp] theorem loopKeep_tapCapture (g : Gloesk) (t k v f : Nat) : (g.tapCapture t k v f).loopKeep = g.loopKeep := by
  unfold tapCapture
  dsimp only
  split
  · rfl
  · split <;> rfl

theorem loopKeep_taps (l : List Nat) (k v f : Nat) :
    ∀ g : Gloesk, (g.each l (fun g t => g.tapCapture t k v f)).loopKeep = g.loopKeep := by
  induction l with
  | nil => exact fun _ => rfl
  | cons t l ih => exact fun g => (ih _).trans (loopKeep_tapCapture g t k v f)

@[simp] theorem loopKeep_slotEnd (g : Gloesk) (win : LoopWindow) (s : Nat) : (g.slotEnd win s).1.loopKeep = g.loopKeep := by
  unfold slotEnd
  exact loopKeep_iff _ _ _ (fun _ => rfl)

@[simp] theorem loopKeep_setLane (g : Gloesk) (win : LoopWindow) (l : Nat) (ln : LaneState) :
    (g.setLane win l ln).loopKeep = g.loopKeep := rfl

/-- What a word delivers to its local, before saturation (R102, R103). -/
def delivers (g : Gloesk) (win : LoopWindow) (ln : LaneState) (s : Nat) : Option (Int × Bool) :=
  let f := loopFields (g.loopWordAt (g.rd F.LPE_SLOT_CFG0_START s + ln.pc))
  if 0 < ln.skip then none else (g.wordResult win ln s f).1

theorem delivers_out (g : Gloesk) (win : LoopWindow) (ln : LaneState) (s : Nat)
    (h : (loopFields (g.loopWordAt (g.rd F.LPE_SLOT_CFG0_START s + ln.pc))).op = 0x12) : g.delivers win ln s = none := by
  unfold delivers wordResult
  simp only [h]
  split <;> rfl

/-- A word of a lane writes the saturated result to its local, OUT the computed output, and nothing else of what words read
and write. -/
theorem laneStep_keep (g : Gloesk) (win : LoopWindow) (lane : Nat) (ln : LaneState) (s : Nat) :
    (g.laneStep win lane ln s).loopKeep =
      (let f := loopFields (g.loopWordAt (g.rd F.LPE_SLOT_CFG0_START s + ln.pc))
       if f.op = 0x12 then (if 0 < ln.skip then g else g.wordOut s (g.operand win ln s f.a)).loopKeep
       else match g.delivers win ln s with
        | some x => (g.setLoc s f.d (satS f.w x.1)).loopKeep
        | none => g.loopKeep) := by
  have hd := delivers_out g win ln s
  unfold delivers at hd
  unfold laneStep delivers
  dsimp only at hd ⊢
  generalize loopFields (g.loopWordAt (g.rd F.LPE_SLOT_CFG0_START s + ln.pc)) = f at hd ⊢
  rw [apply_ite loopKeep, loopKeep_setLane, loopKeep_setLane, loopKeep_slotEnd, ite_self]
  rw [loopKeep_iff _ _ _ (fun _ => loopKeep_tapCapture _ _ _ _ _), loopKeep_taps,
    loopKeep_iff _ _ _ (fun _ => rfl)]
  by_cases hop : f.op = 0x12
  · have hr : (if decide (0 < ln.skip) = true then ((none : Option (Int × Bool)), ln.acc) else g.wordResult win ln s f).1 = none := by
      rw [← hd hop]; split <;> simp_all
    simp only [hr, Option.map_none, hop, if_true]
    by_cases hs : 0 < ln.skip
    · simp [hs, Gloesk.iff]
    · simp [hs, Gloesk.iff]
  · rw [loopKeep_iff _ _ _ (fun h => absurd h (by simp [hop])), loopKeep_iff _ _ _ (fun _ => rfl),
      loopKeep_iff _ _ _ (fun _ => loopKeep_slotSat _ _), if_neg hop]
    by_cases hs : 0 < ln.skip
    · simp [hs]
    · simp only [hs, decide_false, if_false, Bool.false_eq_true]
      cases (g.wordResult win ln s f).1 with
      | none => rfl
      | some x => rfl

end Sys2Proof.Machine.Gloesk
end

