-- ==== Sys2Proof/Laws/Memory.lean ====
section
/-!
SUPPORT. Laws of memory: every operation keeps the canonical form, a read after a write gives what was written, and bytes
outside a write stay as they were.
-/

namespace Sys2Proof.Machine.Memory

theorem wf_empty : wf [] = true := rfl

theorem wf_setByte (m : Tab Byte) (a : Nat) (b : Byte) (h : wf m = true) : wf (setByte m a b) = true :=
  Tab.wf_set _ _ _ _ h

theorem wf_write (n : Nat) : ∀ (m : Tab Byte) (a v : Nat), wf m = true → wf (write m a n v) = true := by
  induction n with
  | zero => exact fun _ _ _ h => h
  | succ n ih => exact fun m a v h => ih _ _ _ (wf_setByte m a _ h)

theorem wf_copy (src : Tab Byte) (n : Nat) : ∀ (a : Nat) (dst : Tab Byte) (b : Nat), wf dst = true → wf (copy src a dst b n) = true := by
  induction n with
  | zero => exact fun _ _ _ h => h
  | succ n ih => exact fun a dst b h => ih _ _ _ (wf_setByte dst b _ h)

theorem wf_writeList (vs : List Nat) : ∀ (m : Tab Byte) (a : Nat), wf m = true → wf (writeList m a vs) = true := by
  induction vs with
  | nil => exact fun _ _ h => h
  | cons v vs ih => exact fun m a h => ih _ _ (wf_setByte m a _ h)

@[simp] theorem byte_setByte_same (m : Tab Byte) (a : Nat) (b : Byte) : byte (setByte m a b) a = b :=
  Tab.get_set_same _ _ _ _

theorem byte_setByte_other (m : Tab Byte) (a c : Nat) (b : Byte) (h : c ≠ a) : byte (setByte m a b) c = byte m c :=
  Tab.get_set_other _ _ _ _ _ _ h

/-- Bytes outside a write stay as they were. -/
theorem byte_write_outside (n : Nat) : ∀ (m : Tab Byte) (a v c : Nat), c < a ∨ a + n ≤ c →
    byte (write m a n v) c = byte m c := by
  induction n with
  | zero => exact fun _ _ _ _ _ => rfl
  | succ n ih =>
    intro m a v c h
    show byte (write (setByte m a _) (a + 1) n (v / 256)) c = _
    rw [ih _ _ _ _ (by omega), byte_setByte_other _ _ _ _ (by omega)]

/-- Each byte of a write. -/
theorem byte_write_inside (n : Nat) : ∀ (m : Tab Byte) (a v i : Nat), i < n →
    byte (write m a n v) (a + i) = BitVec.ofNat 8 (v / 256 ^ i) := by
  induction n with
  | zero => intro _ _ _ _ h; omega
  | succ n ih =>
    intro m a v i h
    show byte (write (setByte m a _) (a + 1) n (v / 256)) (a + i) = _
    cases i with
    | zero => rw [byte_write_outside _ _ _ _ _ (by omega)]; simp
    | succ i =>
      have : a + (i + 1) = a + 1 + i := by omega
      rw [this, ih _ _ _ _ (by omega), Nat.div_div_eq_div_mul, pow_succ, Nat.mul_comm]

theorem read_congr (m m' : Tab Byte) (n : Nat) : ∀ a, (∀ i, i < n → byte m (a + i) = byte m' (a + i)) →
    read m a n = read m' a n := by
  induction n with
  | zero => exact fun _ _ => rfl
  | succ n ih =>
    intro a h
    have h0 := h 0 (by omega)
    simp only [Nat.add_zero] at h0
    show (byte m a).toNat + 256 * read m (a + 1) n = _
    rw [h0, ih (a + 1) (fun i hi => by have := h (i + 1) (by omega); rwa [show a + 1 + i = a + (i + 1) by omega])]
    rfl

/-- A read of the bytes just written. -/
theorem read_write_same (n : Nat) : ∀ (m : Tab Byte) (a v : Nat), read (write m a n v) a n = v % 256 ^ n := by
  induction n with
  | zero => intro m a v; simp [read, Nat.mod_one]
  | succ n ih =>
    intro m a v
    show (byte (write (setByte m a _) (a + 1) n (v / 256)) a).toNat + 256 * read (write (setByte m a _) (a + 1) n (v / 256)) (a + 1) n = _
    rw [ih, byte_write_outside _ _ _ _ _ (by omega), byte_setByte_same, pow_succ, Nat.mul_comm (256 ^ n) 256,
      Nat.mod_mul]
    simp

/-- A read of bytes outside a write. -/
theorem read_write_outside (m : Tab Byte) (a n v b k : Nat) (h : b + k ≤ a ∨ a + n ≤ b) :
    read (write m a n v) b k = read m b k :=
  read_congr _ _ _ _ (fun i hi => byte_write_outside n m a v (b + i) (by omega))

theorem read_lt (m : Tab Byte) (n : Nat) : ∀ a, read m a n < 256 ^ n := by
  induction n with
  | zero => intro a; simp [read]
  | succ n ih =>
    intro a
    have h1 := (byte m a).isLt
    have h2 := ih (a + 1)
    show (byte m a).toNat + 256 * read m (a + 1) n < _
    rw [pow_succ]
    omega

end Sys2Proof.Machine.Memory
end

