-- ==== Sys2Proof/Laws/Nib.lean ====
section
/-!
SUPPORT. Laws of the cell's island: edges of sources write nothing below the cell's Blotter, what the island shows changes
neither the nib module nor the latches, and a latch that blocks takes the outputs low.
-/

namespace Sys2Proof.Machine.Ihloon

/-- `f` writes no register of another address than those from 0x7000 up. -/
theorem rd_wr_far (c : Ihloon) (f e : Fld) (v i j : Nat) (h : e.reg.at j ≠ f.reg.at i) : (c.wr f v i).rd e j = c.rd e j :=
  RegFile.fld_setFld_other _ _ _ _ _ _ h

theorem rd_inc_far (c : Ihloon) (f e : Fld) (n i j : Nat) (h : e.reg.at j ≠ f.reg.at i) : (c.inc f i n).rd e j = c.rd e j :=
  RegFile.fld_addSat_other _ _ _ _ _ _ h

/-- A field below the cell's Blotter keeps its value when one of its registers is written. -/
theorem low_ne (e : Fld) (j : Nat) (r : Reg) (i : Nat) (h : e.reg.at j < 0x7000) (hr : 0x7000 ≤ r.addr) : e.reg.at j ≠ r.at i := by
  have : r.addr ≤ r.at i := Nat.le_add_right _ _
  omega

theorem rd_markChanged (c : Ihloon) (n : Nat) (e : Fld) (j : Nat) (h : e.reg.at j < 0x7000) :
    (c.markChanged n).rd e j = c.rd e j := by
  unfold markChanged
  split
  · exact (rd_wr_far _ _ _ _ _ _ (low_ne e j _ _ h (by decide))).trans (rd_wr_far _ _ _ _ _ _ (low_ne e j _ _ h (by decide)))
  · exact (rd_wr_far _ _ _ _ _ _ (low_ne e j _ _ h (by decide))).trans (rd_wr_far _ _ _ _ _ _ (low_ne e j _ _ h (by decide)))

theorem rd_rise (c : Ihloon) (n : Nat) (e : Fld) (j : Nat) (h : e.reg.at j < 0x7000) : (c.rise n).rd e j = c.rd e j := by
  have far : ∀ (c : Ihloon) (f : Fld) (v i : Nat), 0x7000 ≤ f.reg.addr → (c.wr f v i).rd e j = c.rd e j :=
    fun c f v i hf => rd_wr_far _ _ _ _ _ _ (low_ne e j _ _ h hf)
  unfold rise
  split
  · rfl
  · extract_lets first c1 c2 c3 c4
    have h1 : c1.rd e j = c.rd e j :=
      ((rd_inc_far _ _ _ _ _ _ (low_ne e j _ _ h (by decide))).trans (far _ _ _ _ (by decide))).trans (far _ _ _ _ (by decide))
    have h2 : c2.rd e j = c.rd e j := by
      show (if first = true then _ else c1 : Ihloon).rd e j = _
      split
      · exact (far _ _ _ _ (by decide)).trans h1
      · exact h1
    have h3 : c3.rd e j = c.rd e j := (far _ _ _ _ (by decide)).trans h2
    rw [rd_markChanged _ _ _ _ h]
    show (if _ then _ else c3 : Ihloon).rd e j = _
    split
    · exact (far _ _ _ _ (by decide)).trans h3
    · exact h3

theorem rd_level (c : Ihloon) (n : Nat) (x : Bool) (e : Fld) (j : Nat) (h : e.reg.at j < 0x7000) :
    (c.level n x).rd e j = c.rd e j := by
  cases x
  · show (c.lower n).rd e j = _
    unfold lower
    extract_lets b c1
    split
    · have far (x : Ihloon) (f : Fld) (v : Nat) (hf : 0x7000 ≤ f.reg.addr) : (x.wr f v n).rd e j = x.rd e j :=
        rd_wr_far _ _ _ _ _ _ (low_ne e j _ _ h hf)
      have set : ∀ (x : Bool) (d : Ihloon), (d.iff x (·.down F.CBLT_SRC_STAT_SET n)).rd e j = d.rd e j
        | true, d => far d _ _ (by decide)
        | false, _ => rfl
      exact (rd_markChanged _ _ _ _ h).trans ((set _ _).trans ((far c1 _ _ (by decide)).trans rfl))
    · rfl
  · show (c.raise n).rd e j = _
    unfold raise
    rw [rd_rise _ _ _ _ h]
    dsimp only
    split <;> rfl

/-- The cell beside its registers, its Blotter and the levels its auxiliary outputs hold. -/
def core0 (c : Ihloon) : Ihloon := (c.onIsl (fun s => { s with aux0 := 0, aux1 := 0 })).rest

theorem core0_rest (c d : Ihloon) (h : c.rest = d.rest) : c.core0 = d.core0 := by
  have e : ∀ x : Ihloon, x.core0 = x.rest.core0 := fun _ => rfl
  rw [e c, e d, h]

@[simp] theorem core0_wr (c : Ihloon) (f : Fld) (v i : Nat) : (c.wr f v i).core0 = c.core0 := rfl
@[simp] theorem core0_level (c : Ihloon) (n : Nat) (x : Bool) : (c.level n x).core0 = c.core0 := core0_rest _ _ (rest_level c n x)
@[simp] theorem core0_showAux (c : Ihloon) : c.showAux.core0 = c.core0 := rfl

theorem each_ind {P : Ihloon → Prop} (f : Ihloon → Nat → Ihloon) (hf : ∀ c n, P c → P (f c n)) :
    ∀ (l : List Nat) (c : Ihloon), P c → P (c.each l f) := by
  intro l
  induction l with
  | nil => exact fun _ h => h
  | cons n l ih => exact fun c h => ih _ (hf c n h)

/-- What the island shows changes registers, Blotter and auxiliary levels alone. -/
@[simp] theorem core0_showPrt (c : Ihloon) : c.showPrt.core0 = c.core0 := by
  unfold showPrt
  extract_lets b c1 c2 c3
  have h1 : c1.core0 = c.core0 := rfl
  have h2 : c2.core0 = c.core0 :=
    each_ind (P := fun x => x.core0 = c.core0) _ (fun x n hx => (core0_level x n _).trans hx) _ _ h1
  rw [core0_showAux, core0_level, core0_level]
  show (((c2.level 4 _).level 5 _).level 6 _).core0 = _
  rw [core0_level, core0_level, core0_level, h2]

/-- A field below the Blotter that is none of the bits shown keeps its value. -/
theorem rd_showPrt (c : Ihloon) (e : Fld) (j : Nat) (h : e.reg.at j < 0x7000)
    (hs : ∀ f ∈ [F.PRT_STAT_SAFE_ACT, F.PRT_STAT_LBLK, F.PRT_STAT_BYPF], ∀ (c : Ihloon) (v : Nat), (c.wr f v).rd e j = c.rd e j) :
    c.showPrt.rd e j = c.rd e j := by
  unfold showPrt
  extract_lets b c1 c2 c3
  have h1 : c1.rd e j = c.rd e j :=
    ((hs _ (by simp) _ _).trans (hs _ (by simp) _ _)).trans (hs _ (by simp) _ _)
  have h2 : c2.rd e j = c.rd e j :=
    each_ind (P := fun x => x.rd e j = c.rd e j) _ (fun x n hx => (rd_level x n _ e j h).trans hx) _ _ h1
  have ha : ∀ c : Ihloon, c.showAux.rd e j = c.rd e j := fun _ => rfl
  rw [ha, rd_level _ _ _ _ _ h, rd_level _ _ _ _ _ h]
  show (((c2.level 4 _).level 5 _).level 6 _).rd e j = _
  rw [rd_level _ _ _ _ _ h, rd_level _ _ _ _ _ h, rd_level _ _ _ _ _ h, h2]

/-- The keeper's registers lie from 0x5080 on. -/
theorem showKeeper_spec (c : Ihloon) :
    { c.showKeeper with regs := c.regs } = c ∧ (∀ (e : Fld) (j : Nat), e.reg.at j < 0x5080 → c.showKeeper.rd e j = c.rd e j) := by
  have far : ∀ (e : Fld) (j : Nat) (r : Reg) (i : Nat), e.reg.at j < 0x5080 → 0x5080 ≤ r.addr → e.reg.at j ≠ r.at i := by
    intro e j r i h hr
    have : r.addr ≤ r.at i := Nat.le_add_right _ _
    omega
  let P : Ihloon → Prop := fun x => { x with regs := c.regs } = c ∧ (∀ (e : Fld) (j : Nat), e.reg.at j < 0x5080 → x.rd e j = c.rd e j)
  have pw : ∀ (x : Ihloon) (f : Fld) (v i : Nat), 0x5080 ≤ f.reg.addr → P x → P (x.wr f v i) := fun x f v i hf hx =>
    ⟨hx.1, fun e j h => (rd_wr_far x f e v i j (far e j _ i h hf)).trans (hx.2 e j h)⟩
  have ps : ∀ (x : Ihloon) (r : Reg) (v : Nat), 0x5080 ≤ r.addr → P x → P (x.setReg r v) := fun x r v hr hx =>
    ⟨hx.1, fun e j h => (congrArg e.ofWord
      (RegFile.reg_setReg_other x.regs r e.reg 0 j (BitVec.ofNat 32 v) (far e j _ 0 h hr))).trans (hx.2 e j h)⟩
  have pf : ∀ (l : List (Reg × Nat)) (ws : List Nat) (x : Ihloon), (∀ e ∈ l, 0x5080 ≤ e.1.addr) → P x →
      P (l.foldl (fun (c : Ihloon) e => c.setReg e.1 (nth 0 ws e.2)) x) := by
    intro l ws
    induction l with
    | nil => exact fun x _ h => h
    | cons a l ih => exact fun x hl h => ih _ (fun e he => hl e (List.mem_cons_of_mem _ he)) (ps _ _ _ (hl a (List.mem_cons_self ..)) h)
  have pt : ∀ (l : List ((Nat × Nat) × Nat)) (g : Nat → Nat) (x : Ihloon), P x →
      P (l.foldl (fun (c : Ihloon) e => (c.wr F.RSV_KLOG_LO_CTR e.1.1 (g e.2)).wr F.RSV_KLOG_HI_CAUSE e.1.2 (g e.2)) x) := by
    intro l g
    induction l with
    | nil => exact fun x h => h
    | cons a l ih => exact fun x h => ih _ (pw _ _ _ _ (by decide) (pw _ _ _ _ (by decide) h))
  unfold showKeeper
  extract_lets k put c1 c2 n
  have h1 : P c1 := pf _ _ _ (by decide) (pf _ _ _ (by decide) ⟨rfl, fun _ _ _ => rfl⟩)
  have h2 : P c2 := pw _ _ _ _ (by decide) (pw _ _ _ _ (by decide) (pw _ _ _ _ (by decide) h1))
  exact pt _ (fun i => (k.tamperTotal + 16 * n - n + i) % 16) _ h2

end Sys2Proof.Machine.Ihloon
end

