-- ==== Sys2Proof/Laws/Quill.lean ====
section
/-!
SUPPORT. Laws of a core: sign extension, registers after a write, results.
-/

namespace Sys2Proof.Machine

/-- Sign extension as a word and as a number. -/
theorem signExtend_mod (w : Nat) (hw : w ≤ 32) (x : BitVec w) : ((x.signExtend 32).toNat : Int) % 2 ^ 32 = toS w x.toNat % 2 ^ 32 := by
  have h1 : (x.signExtend 32).toInt = x.toInt := BitVec.toInt_signExtend_of_le hw
  have h2 : toS w x.toNat = x.toInt := by
    rw [BitVec.toInt_eq_toNat_cond]
    unfold toS
    rw [Nat.mod_eq_of_lt x.isLt]
  rw [h2, ← h1, BitVec.toInt_eq_toNat_cond]
  split
  · rfl
  · omega

/-- The sign extension of a 16-bit immediate. -/
theorem Core.sext_eq (x : BitVec 16) : Core.sext 16 x.toNat = (x.signExtend 32).toNat := by
  have := signExtend_mod 16 (by decide) x
  have h3 := (x.signExtend 32).isLt
  unfold Core.sext ofS
  omega

/-- A register after a write; w0 discards (R259). -/
theorem Core.reg_setReg (k : Core) (rd v n : Nat) (hv : v < 2 ^ 32) : (k.setReg rd v).reg n = if n = rd ∧ rd ≠ 0 then v else k.reg n := by
  unfold Core.setReg Core.reg
  by_cases h : rd = 0
  · simp [h]
  · rw [if_neg h]
    by_cases hn : n = rd
    · subst hn
      simp [h, Tab.get_set_same]; omega
    · simp [hn, Tab.get_set_other _ _ _ _ _ _ hn]

/-- A result goes to its register and to the flags, and nowhere else. -/
theorem Core.result_spec (k : Core) (rd v : Nat) : (k.result rd v).w = (k.setReg rd v).w ∧ (k.result rd v).pc = k.pc ∧
    (k.result rd v).mem = k.mem ∧ (k.result rd v).acc = k.acc := by
  unfold Core.result Core.setReg
  split <;> exact ⟨rfl, rfl, rfl, rfl⟩

/-- A write to a register changes no other state of the core. -/
theorem Core.setReg_spec (k : Core) (rd v : Nat) : (k.setReg rd v).pc = k.pc ∧ (k.setReg rd v).mem = k.mem ∧
    (k.setReg rd v).acc = k.acc := by
  unfold Core.setReg
  split <;> exact ⟨rfl, rfl, rfl⟩

end Sys2Proof.Machine
end

