-- ==== Sys2Proof/Laws/Records.lean ====
section
/-!
SUPPORT. Laws of staged records and of the Ruling: whose records a command changes, and what a fabric clock leaves.
-/

namespace Sys2Proof.Machine.Gloesk

@[simp] theorem stagedOf_finish (g : Gloesk) (b : Blk) : g.finish.stagedOf b = g.stagedOf b := by
  unfold stagedOf
  rw [finish_staged]

/-- The staged state of a block after a function of it. -/
theorem stagedOf_onStaged_same (g : Gloesk) (b : Blk) (f : Staged → Staged) : (g.onStaged b f).stagedOf b = f (g.stagedOf b) := by
  unfold onStaged stagedOf
  dsimp only
  cases b <;> exact Tab.get_set_same _ _ _ _

/-- The staged state of every other block stays. -/
theorem stagedOf_onStaged_other (g : Gloesk) (b b' : Blk) (f : Staged → Staged) (h : b'.idx ≠ b.idx) :
    (g.onStaged b f).stagedOf b' = g.stagedOf b' := by
  unfold onStaged stagedOf
  dsimp only
  cases b <;> exact Tab.get_set_other _ _ _ _ _ _ h

/-- What staging leaves alone. -/
def unstaged (g : Gloesk) : TimeState × RulingState × RankState × SviState × LoopState := (g.time, g.rul, g.rank, g.svi, g.lpe)

@[simp] theorem unstaged_onStaged (g : Gloesk) (b : Blk) (f : Staged → Staged) : (g.onStaged b f).unstaged = g.unstaged := by
  cases b <;> rfl

@[simp] theorem unstaged_finish (g : Gloesk) : g.finish.unstaged = g.unstaged := by
  unfold unstaged
  rw [finish_time, finish_rul, finish_rank, finish_svi, finish_lpe]

/-- What the compare channels leave alone. -/
def clockKeep (g : Gloesk) : TimeState × LoopState × SviState × Int × Int := (g.time, g.lpe, g.svi, g.rul.acc, g.rul.vel)

@[simp] theorem clockKeep_finish (g : Gloesk) : g.finish.clockKeep = g.clockKeep := by
  unfold clockKeep
  rw [finish_time, finish_lpe, finish_svi, finish_rul]

@[simp] theorem clockKeep_compareChannel (g : Gloesk) (o n : Int) (i : Nat) : (g.compareChannel o n i).clockKeep = g.clockKeep := by
  unfold compareChannel
  dsimp only
  split
  · rfl
  · split
    · rfl
    · split
      · rfl
      · split <;> split <;> split <;> rfl

/-- A fabric clock moves Baseline time and the accumulator; the compare channels change neither (R47, R51). -/
theorem clockKeep_fabricClock (g : Gloesk) : g.fabricClock.clockKeep =
    ((g.moveTime g.clockInc).time, g.lpe, g.svi, g.rul.acc + g.rul.vel * 2 ^ 16, g.rul.vel) := by
  have h : ∀ (l : List Nat) (o : Int) (g : Gloesk), (g.each l (fun g i => g.compareChannel o g.theta i)).clockKeep = g.clockKeep := by
    intro l o
    induction l with
    | nil => exact fun _ => rfl
    | cons i l ih => exact fun g => (ih _).trans (clockKeep_compareChannel g o g.theta i)
  unfold fabricClock
  extract_lets
  rw [h]
  rfl

end Sys2Proof.Machine.Gloesk
end

