-- ==== Sys2Proof/Laws/Security.lean ====
section
/-!
SUPPORT. Laws of identity and keys: what a part shows of them, and what a reset of the hub leaves.
-/

namespace Sys2Proof.Machine

namespace Stanak

/-- What the hub shows of its keys changes registers alone. -/
theorem showTrust_rest (h : Stanak) : { h.showTrust with regs := [] } = { h with regs := [] } := by
  have e : ∀ (fp : Nat) (l : List Nat) (h : Stanak),
      { (h.each l (fun h w => h.wr F.HSEC_ID_FP (fp / 2 ^ (32 * w)) w)) with regs := [] } = { h with regs := [] } := by
    intro fp l
    induction l with
    | nil => exact fun _ => rfl
    | cons n l ih => exact fun h => (ih _).trans rfl
  unfold showTrust
  extract_lets fp h1
  exact (e _ _ _).trans rfl

/-- Of the hub, a reset keeps life-cycle state, key slots, security version, counters, tamper log and stroke (R472). -/
theorem hubReset_rest (h : Stanak) : { h.hubReset with regs := [] } =
    { Stanak.reset with
      regs := [], sent := h.sent, fresh := h.fresh, stroke := h.stroke, trust := { PartSec.reset with
        lcs := h.trust.lcs, slots := h.trust.slots, svn := h.trust.svn, pufOk := h.trust.pufOk,
        entropyBad := h.trust.entropyBad, seqs := h.trust.seqs, drawn := h.trust.drawn, counter := h.trust.counter,
        tamper := h.trust.tamper } } := by
  have e : ∀ (h : Stanak) (f : Fld) (v i : Nat), { h.wr f v i with regs := [] } = { h with regs := [] } := fun _ _ _ _ => rfl
  unfold hubReset
  extract_lets p trust n
  rw [e, e]
  exact showTrust_rest _

/-- The registers below HSEC are untouched by what the hub shows of its keys. -/
theorem showTrust_rd (h : Stanak) (e : Fld) (j : Nat) (hl : e.reg.at j < R.HSEC_ATT.addr) :
    h.showTrust.rd e j = h.rd e j := by
  have far : ∀ (r : Reg) (i : Nat), R.HSEC_ATT.addr ≤ r.addr → e.reg.at j ≠ r.at i := by
    intro r i hr
    have : r.addr ≤ r.at i := Nat.le_add_right _ _
    omega
  have each : ∀ (fp : Nat) (l : List Nat) (h : Stanak),
      (h.each l (fun h w => h.wr F.HSEC_ID_FP (fp / 2 ^ (32 * w)) w)).rd e j = h.rd e j := by
    intro fp l
    induction l with
    | nil => exact fun _ => rfl
    | cons n l ih => exact fun h => (ih _).trans (RegFile.fld_setFld_other _ _ _ _ _ _ (far _ _ (by decide)))
  unfold showTrust
  extract_lets fp h1
  exact (each _ _ _).trans ((RegFile.fld_setFld_other _ _ _ _ _ _ (far _ _ (by decide))).trans
    (RegFile.fld_setFld_other _ _ _ _ _ _ (far _ _ (by decide))))

end Stanak

namespace Ihloon

/-- What the cell shows of its keys changes registers alone. -/
theorem showTrust_rest (c : Ihloon) : { c.showTrust with regs := [] } = { c with regs := [] } := by
  have e : ∀ (fp : Nat) (l : List Nat) (c : Ihloon),
      { (c.each l (fun c w => c.wr F.CSEC_ID_FP (fp / 2 ^ (32 * w)) w)) with regs := [] } = { c with regs := [] } := by
    intro fp l
    induction l with
    | nil => exact fun _ => rfl
    | cons n l ih => exact fun c => (ih _).trans rfl
  unfold showTrust
  extract_lets fp c1
  exact (e _ _ _).trans rfl

end Ihloon

end Sys2Proof.Machine
end

