-- ==== Sys2Proof/Laws/Time.lean ====
section
/-!
SUPPORT. Laws of bits in words and of followers of Baseline time.
-/

namespace Sys2Proof.Machine

/-- A bit after it is set. -/
theorem bit_setBit (x n : Nat) (v : Bool) : bit (setBit x n v) n = v := by
  unfold bit setBit
  split
  · assumption
  · rename_i h
    rw [Nat.testBit_eq_decide_div_mod_eq] at *
    cases v
    · simp at h ⊢
      have h1 : 2 ^ n ≤ x := by
        by_contra hc
        rw [Nat.div_eq_of_lt (by omega)] at h
        omega
      have : (x - 2 ^ n) / 2 ^ n = x / 2 ^ n - 1 := by
        have := Nat.sub_mul_div x (2 ^ n) 1
        rwa [Nat.mul_one] at this
      omega
    · simp at h ⊢
      omega

/-- An exchange moves an unlocked follower over its side, keeps a phase for a locked one, and leaves it alone over the other
side (R41). -/
theorem Follower.exchange_spec (f : Follower) (l : FollowLimits) (side : Nat) (ofs : Int) :
    (side ≠ f.side → (f.exchange l side ofs).applied = f.applied ∧ (f.exchange l side ofs).phase = f.phase ∧
      (f.exchange l side ofs).locked = f.locked) ∧
    (side = f.side → f.locked = false → (f.exchange l side ofs).applied = f.applied + ofs ∧
      (f.exchange l side ofs).phase = 0) ∧
    (side = f.side → f.locked = true → (f.exchange l side ofs).applied = f.applied ∧
      (f.exchange l side ofs).phase = ofs) := by
  unfold Follower.exchange
  dsimp only
  generalize hg : (if side = 0 then { f with ofs0 := ofs, has0 := true }
    else { f with ofs1 := ofs, has1 := true } : Follower) = g
  have h1 : g.side = f.side := by rw [← hg]; split <;> rfl
  have h2 : g.locked = f.locked := by rw [← hg]; split <;> rfl
  have h3 : g.applied = f.applied := by rw [← hg]; split <;> rfl
  have h4 : g.phase = f.phase := by rw [← hg]; split <;> rfl
  by_cases hsd : side = f.side
  · rw [if_neg (by simp [h1, hsd])]
    cases hl : f.locked
    · simp only [h2, hl, Bool.false_eq_true, if_false]
      refine ⟨fun h => absurd hsd h, fun _ _ => ?_, fun _ h => absurd h (by simp)⟩
      constructor <;> (repeat' split) <;> simp [h3]
    · simp only [h2, hl, if_true]
      refine ⟨fun h => absurd hsd h, fun _ h => absurd h (by simp), fun _ _ => ?_⟩
      constructor <;> (repeat' split) <;> simp [h3]
  · rw [if_pos (by rw [h1]; exact hsd)]
    exact ⟨fun _ => ⟨h3, h4, h2⟩, fun h => absurd h hsd, fun h => absurd h hsd⟩

end Sys2Proof.Machine
end

