-- ==== Sys2Proof/Laws/Ways.lean ====
section
/-!
SUPPORT. How a command acts on the whole state: each on one part and through one way, whatever the state; said once, so that
statements about all commands need no other look at them.
-/

namespace Sys2Proof.Machine

/-- The ways a command acts: on the Gloesk, waiting for its blocks or not; on the hub, which sees the stroke period, the
limits of failed tags and sections and the asymmetry of its lane; on the cell; on nothing; on the Gloesk or the cell. -/
inductive Way (c : Instr) : Prop where
  | gk (h : Part.gloesk ∈ c.site) (w : ∀ s : State, (∃ f, exec c s = .next (s.onG f)) ∨
      (c.waitsForBlocks = false ∧ ∃ f, exec c s = .next (s.onP f)))
  | sk (h : Part.stanak ∈ c.site) (w : ∃ f : Nat → Nat → Nat → Int → Stanak → Stanak, ∀ s : State, exec c s =
      .next (s.onH (f s.period s.tagLimit (s.gk.rd F.SEC_LIM_GCMF) (s.gk.laneAsym s.sk.lane))))
  | ih (h : Part.ihloon ∈ c.site) (w : ∀ s : State, ∃ f, exec c s = .next (s.onC f))
  | idle (w : ∀ s : State, exec c s = .next s)
  | both (h : Part.gloesk ∈ c.site) (h' : Part.ihloon ∈ c.site)
      (w : ∀ s : State, (∃ f, exec c s = .next (s.onG f)) ∨ ∃ f, exec c s = .next (s.onC f))

namespace State

theorem quillCore_q (s : State) (n : Fin 16) (w fe : Nat) (f : Core → Core) : ∃ g, s.quillCore (.q n) w fe f = s.onG g := ⟨_, rfl⟩
theorem quillCore_s (s : State) (w fe : Nat) (f : Core → Core) : ∃ g, s.quillCore .s w fe f = s.onC g :=
  ⟨fun T c => c.quillSCore T w fe f, rfl⟩
theorem quillBoth_q (s : State) (n : Fin 16) (w fe : Nat) (fg : Gloesk → Nat → Option Gloesk) (fc : Nat → Ihloon → Ihloon) :
    ∃ g, s.quillBoth (.q n) w fe fg fc = s.onG g := ⟨_, rfl⟩
theorem quillBoth_s (s : State) (w fe : Nat) (fg : Gloesk → Nat → Option Gloesk) (fc : Nat → Ihloon → Ihloon) :
    ∃ g, s.quillBoth .s w fe fg fc = s.onC g := ⟨fun T c => c.quillS T w fe (fc T), rfl⟩
theorem onCore_q (s : State) (n : Fin 16) (f : Core → Core) (fc : Nat → Ihloon → Ihloon) : ∃ g, s.onCore (.q n) f fc = s.onG g :=
  ⟨_, rfl⟩
theorem onCore_s (s : State) (f : Core → Core) (fc : Nat → Ihloon → Ihloon) : ∃ g, s.onCore .s f fc = s.onC g := ⟨fc, rfl⟩

theorem onPart_ih (s : State) (fg : Gloesk → Gloesk) (fh : Nat → Stanak → Stanak) (fc : Nat → Ihloon → Ihloon) :
    ∃ g, s.onPart .ihloon fg fh fc = s.onC g := ⟨fun T c => if c.mainRuns then fc T c else c, rfl⟩

end State

theorem nextG {s t : State} (h : ∃ f, t = s.onG f) : ∃ f, (Host.Outcome.next t : Host.Outcome State Fault Refusal) = .next (s.onG f) :=
  h.imp fun _ e => congrArg _ e

theorem nextC {s t : State} (h : ∃ f, t = s.onC f) : ∃ f, (Host.Outcome.next t : Host.Outcome State Fault Refusal) = .next (s.onC f) :=
  h.imp fun _ e => congrArg _ e

theorem way_quillCore (mk : CoreId → Instr) {w fe : Nat} {f : Core → Core} (hs : ∀ u, (mk u).site = u.part)
    (e : ∀ u s, exec (mk u) s = .next (s.quillCore u w fe f)) (u : CoreId) : Way (mk u) := by
  cases u with
  | q n => exact .gk (by rw [hs]; exact .head _) (fun s => .inl (by rw [e]; exact nextG (s.quillCore_q ..)))
  | s => exact .ih (by rw [hs]; exact .head _) (fun s => by rw [e]; exact nextC (s.quillCore_s ..))

theorem way_quillBoth (mk : CoreId → Instr) {w fe : Nat} {fg : Gloesk → Nat → Option Gloesk} {fc : Nat → Ihloon → Ihloon}
    (hs : ∀ u, (mk u).site = u.part) (e : ∀ u s, exec (mk u) s = .next (s.quillBoth u w fe fg fc)) (u : CoreId) : Way (mk u) := by
  cases u with
  | q n => exact .gk (by rw [hs]; exact .head _) (fun s => .inl (by rw [e]; exact nextG (s.quillBoth_q ..)))
  | s => exact .ih (by rw [hs]; exact .head _) (fun s => by rw [e]; exact nextC (s.quillBoth_s ..))

theorem way_onCore (mk : CoreId → Instr) {f : Core → Core} {fc : Nat → Ihloon → Ihloon} (hs : ∀ u, (mk u).site = u.part)
    (e : ∀ u s, exec (mk u) s = .next (s.onCore u f fc)) (u : CoreId) : Way (mk u) := by
  cases u with
  | q n => exact .gk (by rw [hs]; exact .head _) (fun s => .inl (by rw [e]; exact nextG (s.onCore_q ..)))
  | s => exact .ih (by rw [hs]; exact .head _) (fun s => by rw [e]; exact nextC (s.onCore_s ..))

namespace State

theorem onEnd_gl (s : State) (n : Fin 68) (gl : Gloesk → Nat → Gloesk) (up port : Stanak → Nat → Stanak) (lk : Ihloon → Nat → Ihloon) :
    s.onEnd (.gl n) gl up port lk = s.onG (fun g => gl g n) := rfl
theorem onEnd_up (s : State) (n : Fin 2) (gl : Gloesk → Nat → Gloesk) (up port : Stanak → Nat → Stanak) (lk : Ihloon → Nat → Ihloon) :
    s.onEnd (.up n) gl up port lk = s.onH (fun h => up h n) := rfl
theorem onEnd_port (s : State) (n : Fin 192) (gl : Gloesk → Nat → Gloesk) (up port : Stanak → Nat → Stanak) (lk : Ihloon → Nat → Ihloon) :
    s.onEnd (.port n) gl up port lk = s.onH (fun h => port h n) := rfl
theorem onEnd_lk (s : State) (n : Fin 2) (gl : Gloesk → Nat → Gloesk) (up port : Stanak → Nat → Stanak) (lk : Ihloon → Nat → Ihloon) :
    s.onEnd (.lk n) gl up port lk = s.onC (fun _ c => lk c n) := rfl

end State

theorem way_onEnd (mk : LaneEnd → Instr) {gl : Gloesk → Nat → Gloesk} {up port : Stanak → Nat → Stanak}
    {lk : Ihloon → Nat → Ihloon} (hs : ∀ e, (mk e).site = e.part)
    (h : ∀ e s, exec (mk e) s = .next (s.onEnd e gl up port lk)) (e : LaneEnd) : Way (mk e) := by
  cases e with
  | gl n => exact .gk (by rw [hs]; exact .head _) (fun s => .inl ⟨_, (h _ s).trans (congrArg _ (s.onEnd_gl n ..))⟩)
  | up n => exact .sk (by rw [hs]; exact .head _) ⟨fun _ _ _ _ h => up h n, fun s => (h _ s).trans (congrArg _ (s.onEnd_up n ..))⟩
  | port n => exact .sk (by rw [hs]; exact .head _) ⟨fun _ _ _ _ h => port h n, fun s => (h _ s).trans (congrArg _ (s.onEnd_port n ..))⟩
  | lk n => exact .ih (by rw [hs]; exact .head _) (fun s => ⟨_, (h _ s).trans (congrArg _ (s.onEnd_lk n ..))⟩)

theorem way_rxStep (mk : LaneEnd → Instr) {a b a' b' : Nat} (hs : ∀ e, (mk e).site = e.part)
    (h : ∀ e s, exec (mk e) s = .next (s.rxStep e a b a' b')) (e : LaneEnd) : Way (mk e) :=
  way_onEnd mk hs (fun e s => (h e s).trans (congrArg _ (by unfold State.rxStep; rfl))) e

theorem way_codeword (e : LaneEnd) (line : List (Fin 4)) (tags : List (Bool × Bool)) : Way (.codeword e line tags) := by
  have h : ∀ s, exec (.codeword e line tags) s = .next (s.codeword e (line.map (·.val)) tags) := fun _ => rfl
  generalize line.map (·.val) = l at h
  unfold State.codeword at h
  cases e with
  | gl n => exact .gk (.head _) (fun s => .inl ⟨(·.codeword n l tags), (h s).trans (congrArg _ (s.onEnd_gl n ..))⟩)
  | up n => exact .sk (.head _) ⟨fun _ _ m _ h => h.codeword m n l tags, fun s => (h s).trans (congrArg _ (s.onEnd_up n ..))⟩
  | port n => exact .sk (.head _) ⟨fun _ _ _ _ h => h, fun s => (h s).trans (congrArg _ (s.onEnd_port n ..))⟩
  | lk n => exact .ih (.head _) (fun s => ⟨fun _ c => c, (h s).trans (congrArg _ (s.onEnd_lk n ..))⟩)

theorem way_timeFrame (p : Part) (lane : Fin 65) (twin : Fin 2) (claim : Fin 65536) (reply : Bool) (seq : Fin 256)
    (t1 t2 t3 t4 : Int) : Way (.timeFrameReceived p lane twin claim reply seq t1 t2 t3 t4) := by
  cases p with
  | gloesk => exact .gk (.head _) (fun _ => .inl ⟨_, rfl⟩)
  | stanak =>
    by_cases h : lane.val < 2
    · refine .sk (.head _) ⟨fun _ _ _ a h => h.linked lane (·.timeFrame lane reply seq t1 t2 t3 t4 a), fun s => ?_⟩
      exact congrArg Host.Outcome.next (if_pos h)
    · exact .idle (fun s => congrArg Host.Outcome.next (if_neg h))
  | ihloon => exact .idle (fun _ => rfl)

theorem way_timeMessage (p : Part) (link : Fin 192) (m : LinkMsg) (reply : Bool) (seq : Fin 256) (t1 t2 t3 t4 : Int)
    (hubLocked : Bool) : Way (.timeMessage p link m reply seq t1 t2 t3 t4 hubLocked) := by
  cases p with
  | gloesk => exact .idle (fun _ => rfl)
  | stanak => exact .sk (.head _) ⟨fun _ _ _ _ h => h.timeMessage link m, fun _ => rfl⟩
  | ihloon =>
    by_cases h : link.val < 2
    · exact .ih (.head _) (fun s => ⟨_, congrArg Host.Outcome.next (if_pos h)⟩)
    · exact .idle (fun s => congrArg Host.Outcome.next (if_neg h))

theorem way_mgmtWrite (p : Fin 2) (m : LinkMsg) (tick : Fin 16777216) (tid : Fin 256) (addr : BitVec 16) (ws : List Word) (obj : Option (Envelope × Delivery)) :
    Way (.mgmtWriteRequest p m tick tid addr ws obj) := by
  refine .both (.head _) (.tail _ (.head _)) (fun s => ?_)
  show (∃ f, Host.Outcome.next (s.mgmtWrite p m tick tid addr.toNat (natsOf ws) obj) = _) ∨ ∃ f, Host.Outcome.next (s.mgmtWrite p m tick tid addr.toNat (natsOf ws) obj) = _
  unfold State.mgmtWrite
  extract_lets bad
  cases bad
  · exact .inr ⟨_, congrArg Host.Outcome.next (if_neg Bool.false_ne_true)⟩
  · exact .inl ⟨_, congrArg Host.Outcome.next (if_pos rfl)⟩

theorem way_registerWrite (a : BitVec 24) (v : Word) (be : Fin 16) (hit : Word) : Way (.registerWrite a v be hit) := by
  refine .gk (.head _) (fun s => ?_)
  cases h : State.heldBlock a.toNat
  · exact .inl ⟨_, congrArg Host.Outcome.next (State.registerWrite_open s _ _ _ _ h)⟩
  · refine .inr ⟨?_, _, congrArg Host.Outcome.next (State.registerWrite_held s _ _ _ _ h)⟩
    show (!(State.heldBlock a.toNat)) = false
    rw [h]; rfl

theorem way_registerRead (who : Fin 17) (a : BitVec 24) (hit : Option Nat) : Way (.registerReadClear who a hit) := by
  refine .gk (.head _) (fun s => ?_)
  show (∃ f, Host.Outcome.next (s.registerRead who a.toNat hit) = _) ∨ (_ ∧ ∃ f, Host.Outcome.next (s.registerRead who a.toNat hit) = _)
  unfold State.registerRead
  split
  · exact .inl ⟨_, rfl⟩
  · split
    · exact .inr ⟨rfl, _, rfl⟩
    · exact .inl ⟨_, rfl⟩

theorem way_strokeBoundary (p : Part) : Way (.strokeBoundary p) := by
  cases p with
  | gloesk => exact .gk (.head _) (fun _ => .inl ⟨_, rfl⟩)
  | stanak => exact .sk (.head _) ⟨fun T _ _ _ h => h.strokeBoundary T, fun _ => rfl⟩
  | ihloon => exact .ih (.head _) (fun _ => ⟨fun T c => c.strokeBoundary T, rfl⟩)

theorem way_timeMarker (p : Part) (link : Fin 192) (t1 : Int) : Way (.timeMarker p link t1) := by
  cases p with
  | gloesk => exact .gk (.head _) (fun _ => .inl ⟨_, rfl⟩)
  | stanak => exact .sk (.head _) ⟨fun _ _ _ _ h => h.timeMarker link t1, fun _ => rfl⟩
  | ihloon => exact .idle (fun _ => rfl)

theorem way_mgmtReadResponse (engine : Option (Fin 8192)) (port : Fin 192) (tid : Fin 256) (m : LinkMsg) (ws : List Word) : Way (.mgmtReadResponse engine port tid m ws) := by
  cases engine with
  | some x => exact .gk (.head _) (fun _ => .inl ⟨_, rfl⟩)
  | none => exact .sk (.head _) ⟨fun _ l _ _ h => h.hears port m (·.readResponse port tid (natsOf ws)), fun _ => rfl⟩

theorem way_mgmtError (engine : Option (Fin 8192)) (port : Fin 192) (tid : Fin 256) (m : LinkMsg) (code : Fin 256) (block : Option (Fin 65536)) : Way (.mgmtError engine port tid m code block) := by
  cases engine with
  | some x => exact .gk (.head _) (fun _ => .inl ⟨_, rfl⟩)
  | none => exact .sk (.head _) ⟨fun _ l _ _ h => h.hears port m (·.mgmtError port tid code (block.map (·.val))), fun _ => rfl⟩

theorem way_aqSlot (cell : Bool) (ins : List Int) : Way (.aqSlot cell ins) := by
  cases cell with
  | true => exact .ih (.head _) (fun _ => ⟨_, congrArg Host.Outcome.next (if_pos rfl)⟩)
  | false => exact .gk (.head _) (fun _ => .inl ⟨_, congrArg Host.Outcome.next (if_neg Bool.false_ne_true)⟩)

theorem way_aqResult (cell : Bool) : Way (.aqResult cell) := by
  cases cell with
  | true => exact .ih (.head _) (fun _ => ⟨_, congrArg Host.Outcome.next (if_pos rfl)⟩)
  | false => exact .gk (.head _) (fun _ => .inl ⟨_, congrArg Host.Outcome.next (if_neg Bool.false_ne_true)⟩)

theorem way_urgentRequest (cell : Bool) (input : Fin 32) (tick : Fin 16777216) : Way (.urgentRequest cell input tick) := by
  cases cell with
  | true => exact .ih (.head _) (fun _ => ⟨_, congrArg Host.Outcome.next (if_pos rfl)⟩)
  | false => exact .gk (.head _) (fun _ => .inl ⟨_, congrArg Host.Outcome.next (if_neg Bool.false_ne_true)⟩)

theorem way_urgentResult (cell : Bool) : Way (.urgentResult cell) := by
  cases cell with
  | true => exact .ih (.head _) (fun _ => ⟨_, congrArg Host.Outcome.next (if_pos rfl)⟩)
  | false => exact .gk (.head _) (fun _ => .inl ⟨_, congrArg Host.Outcome.next (if_neg Bool.false_ne_true)⟩)

theorem way_aqEnable (cell en : Bool) : Way (.aqEnable cell en) := by
  cases cell with
  | true => exact .ih (.head _) (fun _ => ⟨_, congrArg Host.Outcome.next (if_pos rfl)⟩)
  | false => exact .gk (.head _) (fun _ => .inl ⟨_, congrArg Host.Outcome.next (if_neg Bool.false_ne_true)⟩)

theorem way_sliceCalibrated (cell beyond : Bool) : Way (.sliceCalibrated cell beyond) := by
  cases cell with
  | true => exact .ih (.head _) (fun _ => ⟨_, congrArg Host.Outcome.next (if_pos rfl)⟩)
  | false => exact .gk (.head _) (fun _ => .inl ⟨_, congrArg Host.Outcome.next (if_neg Bool.false_ne_true)⟩)

theorem way_driftClear (cell hard : Bool) : Way (.driftClear cell hard) := by
  cases cell with
  | true => exact .ih (.head _) (fun _ => ⟨_, congrArg Host.Outcome.next (if_pos rfl)⟩)
  | false => exact .gk (.head _) (fun _ => .inl ⟨_, congrArg Host.Outcome.next (if_neg Bool.false_ne_true)⟩)

theorem way_refSelect (cell : Bool) : Way (.refSelect cell) := by
  cases cell with
  | true => exact .ih (.head _) (fun _ => ⟨_, congrArg Host.Outcome.next (if_pos rfl)⟩)
  | false => exact .gk (.head _) (fun _ => .inl ⟨_, congrArg Host.Outcome.next (if_neg Bool.false_ne_true)⟩)

theorem way_xoff (cell : Bool) : Way (.xoff cell) := by
  cases cell with
  | true => exact .ih (.head _) (fun _ => ⟨_, congrArg Host.Outcome.next (if_pos rfl)⟩)
  | false => exact .gk (.head _) (fun _ => .inl ⟨_, congrArg Host.Outcome.next (if_neg Bool.false_ne_true)⟩)

theorem way_aqRes0Read (cell : Bool) (who : Fin 17) : Way (.aqRes0Read cell who) := by
  cases cell with
  | true => exact .ih (.head _) (fun _ => ⟨_, congrArg Host.Outcome.next (if_pos rfl)⟩)
  | false => exact .gk (.head _) (fun _ => .inl ⟨_, congrArg Host.Outcome.next (if_neg Bool.false_ne_true)⟩)

theorem way_aqUres0Read (cell : Bool) (who : Fin 17) : Way (.aqUres0Read cell who) := by
  cases cell with
  | true => exact .ih (.head _) (fun _ => ⟨_, congrArg Host.Outcome.next (if_pos rfl)⟩)
  | false => exact .gk (.head _) (fun _ => .inl ⟨_, congrArg Host.Outcome.next (if_neg Bool.false_ne_true)⟩)

theorem way_causeRise (p : Part) (n : Fin 512) (who : Who) : Way (.causeRise p n who) := by
  cases p with
  | gloesk => exact .gk (.head _) (fun _ => .inl ⟨(·.raise n who), rfl⟩)
  | stanak => exact .sk (.head _) ⟨fun _ _ _ _ h => h.raise n, fun _ => rfl⟩
  | ihloon => exact .ih (.head _) (fun s => nextC (s.onPart_ih (·.raise n who) (fun _ h => h.raise n) (fun _ c => c.raise n)))

theorem way_causeFall (p : Part) (n : Fin 512) (who : Who) : Way (.causeFall p n who) := by
  cases p with
  | gloesk => exact .gk (.head _) (fun _ => .inl ⟨(·.lower n who), rfl⟩)
  | stanak => exact .sk (.head _) ⟨fun _ _ _ _ h => h.lower n, fun _ => rfl⟩
  | ihloon => exact .ih (.head _) (fun s => nextC (s.onPart_ih (·.lower n who) (fun _ h => h.lower n) (fun _ c => c.lower n)))

theorem way_eventCauseExpiry (p : Part) (n : Fin 512) : Way (.eventCauseExpiry p n) := by
  cases p with
  | gloesk => exact .gk (.head _) (fun _ => .inl ⟨_, rfl⟩)
  | stanak => exact .sk (.head _) ⟨fun _ _ _ _ h => h.eventExpiry n, fun _ => rfl⟩
  | ihloon => exact .ih (.head _) (fun s => nextC (s.onPart_ih ..))

theorem way_sourceClear (p : Part) (n : Fin 512) : Way (.sourceClear p n) := by
  cases p with
  | gloesk => exact .gk (.head _) (fun _ => .inl ⟨_, rfl⟩)
  | stanak => exact .sk (.head _) ⟨fun _ _ _ _ h => h.sourceClear n, fun _ => rfl⟩
  | ihloon => exact .ih (.head _) (fun s => nextC (s.onPart_ih ..))

theorem way_sourceForce (p : Part) (n : Fin 512) (x : Bool) : Way (.sourceForce p n x) := by
  cases p with
  | gloesk => exact .gk (.head _) (fun _ => .inl ⟨_, rfl⟩)
  | stanak => exact .sk (.head _) ⟨fun _ _ _ _ h => h.sourceForce n x, fun _ => rfl⟩
  | ihloon => exact .ih (.head _) (fun s => nextC (s.onPart_ih ..))

theorem way_changedBitmapRead (cell : Bool) (w : Fin 4) : Way (.changedBitmapRead cell w) := by
  cases cell with
  | true => exact .ih (.head _) (fun _ => ⟨_, congrArg Host.Outcome.next (if_pos rfl)⟩)
  | false => exact .sk (.head _) ⟨fun _ _ _ _ => _, fun _ => congrArg Host.Outcome.next (if_neg Bool.false_ne_true)⟩

theorem way_attestChallenge (p : Part) (link : Fin 2) (certOk : Bool) : Way (.attestChallenge p link certOk) := by
  cases p with
  | gloesk => exact .gk (.head _) (fun _ => .inl ⟨_, rfl⟩)
  | stanak => exact .sk (.head _) ⟨fun _ _ _ _ h => h.attestChallenge link certOk, fun _ => rfl⟩
  | ihloon => exact .ih (.head _) (fun s => nextC (s.onPart_ih ..))

theorem way_attestEvidence (hub : Bool) (pos : Fin 8192) (plane : Fin 2) (ev : Evidence) (other : Bool) : Way (.attestEvidence hub pos plane ev other) := by
  cases hub with
  | true => exact .sk (.head _) ⟨fun _ _ _ _ => _, fun _ => congrArg Host.Outcome.next (if_pos rfl)⟩
  | false => exact .gk (.head _) (fun _ => .inl ⟨_, congrArg Host.Outcome.next (if_neg Bool.false_ne_true)⟩)

theorem way_attestRetry (hub : Bool) (pos : Fin 8192) : Way (.attestRetry hub pos) := by
  cases hub with
  | true => exact .sk (.head _) ⟨fun _ _ _ _ => _, fun _ => congrArg Host.Outcome.next (if_pos rfl)⟩
  | false => exact .gk (.head _) (fun _ => .inl ⟨_, congrArg Host.Outcome.next (if_neg Bool.false_ne_true)⟩)

theorem way_provisioningWrite (p : Part) (usage : Fin 256) : Way (.provisioningWrite p usage) := by
  cases p with
  | gloesk => exact .gk (.head _) (fun _ => .inl ⟨_, rfl⟩)
  | stanak => exact .sk (.head _) ⟨fun _ _ _ _ h => h.provision usage, fun _ => rfl⟩
  | ihloon => exact .ih (.head _) (fun s => nextC (s.onPart_ih ..))

theorem way_epochTimer (hub : Bool) : Way (.epochTimer hub) := by
  cases hub with
  | true => exact .sk (.head _) ⟨fun _ _ _ _ => _, fun _ => congrArg Host.Outcome.next (if_pos rfl)⟩
  | false => exact .gk (.head _) (fun _ => .inl ⟨_, congrArg Host.Outcome.next (if_neg Bool.false_ne_true)⟩)

theorem way_debugToken (p : Part) (e : Envelope) (nonce perm : Nat) : Way (.debugToken p e nonce perm) := by
  cases p with
  | gloesk => exact .gk (.head _) (fun _ => .inl ⟨_, rfl⟩)
  | stanak => exact .sk (.head _) ⟨fun T _ _ _ h => h.deliver T e (.token nonce perm), fun _ => rfl⟩
  | ihloon => exact .ih (.head _) (fun s => nextC (s.onPart_ih ..))

theorem way_debugClose (p : Part) : Way (.debugClose p) := by
  cases p with
  | gloesk => exact .gk (.head _) (fun _ => .inl ⟨_, rfl⟩)
  | stanak => exact .sk (.head _) ⟨fun _ _ _ _ h => h.debugClose, fun _ => rfl⟩
  | ihloon => exact .ih (.head _) (fun s => nextC (s.onPart_ih ..))

theorem way_debugExpiry (p : Part) : Way (.debugExpiry p) := by
  cases p with
  | gloesk => exact .gk (.head _) (fun _ => .inl ⟨_, rfl⟩)
  | stanak => exact .sk (.head _) ⟨fun _ _ _ _ h => h.debugClose, fun _ => rfl⟩
  | ihloon => exact .ih (.head _) (fun s => nextC (s.onPart_ih ..))

theorem way_dbgchalRead (p : Part) (who : Fin 17) : Way (.dbgchalRead p who) := by
  cases p with
  | gloesk => exact .gk (.head _) (fun _ => .inl ⟨_, rfl⟩)
  | stanak => exact .sk (.head _) ⟨fun _ _ _ _ h => h.newNonce, fun _ => rfl⟩
  | ihloon => exact .ih (.head _) (fun s => nextC (s.onPart_ih ..))

theorem way_entropyFailure (p : Part) : Way (.entropyFailure p) := by
  cases p with
  | gloesk => exact .gk (.head _) (fun _ => .inl ⟨_, rfl⟩)
  | stanak => exact .sk (.head _) ⟨fun _ _ _ _ h => h.entropyFailure, fun _ => rfl⟩
  | ihloon => exact .ih (.head _) (fun s => nextC (s.onPart_ih ..))

theorem way_railFault (hub bad : Bool) : Way (.railFault hub bad) := by
  cases hub with
  | true => exact .sk (.head _) ⟨fun _ _ _ _ => _, fun _ => congrArg Host.Outcome.next (if_pos rfl)⟩
  | false => exact .gk (.head _) (fun _ => .inr ⟨rfl, _, congrArg Host.Outcome.next (if_neg Bool.false_ne_true)⟩)

theorem way_thermalSample (hub : Bool) (tj : Int) (sensor : Fin 16) : Way (.thermalSample hub tj sensor) := by
  cases hub with
  | true => exact .sk (.head _) ⟨fun _ _ _ _ => _, fun _ => congrArg Host.Outcome.next (if_pos rfl)⟩
  | false => exact .gk (.head _) (fun _ => .inr ⟨rfl, _, congrArg Host.Outcome.next (if_neg Bool.false_ne_true)⟩)

/-- Every command acts in one of the ways. -/
theorem way (c : Instr) : Way c := by
  cases c with
  | strokeBoundary p => exact way_strokeBoundary p
  | fabricClock => exact .gk (.head _) (fun _ => .inl ⟨_, rfl⟩)
  | sync port twoStep seq stamp origin corr negLog => exact .gk (.head _) (fun _ => .inl ⟨_, rfl⟩)
  | followUp port seq origin corr => exact .gk (.head _) (fun _ => .inl ⟨_, rfl⟩)
  | announce port a utc => exact .gk (.head _) (fun _ => .inl ⟨_, rfl⟩)
  | pdelayReq port seq rx tx => exact .gk (.head _) (fun _ => .inl ⟨_, rfl⟩)
  | pdelayResp port seq kind rx turn => exact .gk (.head _) (fun _ => .inl ⟨_, rfl⟩)
  | ptpDiscard kind => exact .gk (.head _) (fun _ => .inl ⟨_, rfl⟩)
  | transparentForward port isSync rx tx corr => exact .gk (.head _) (fun _ => .inl ⟨_, rfl⟩)
  | syncTimeout => exact .gk (.head _) (fun _ => .inl ⟨_, rfl⟩)
  | holdspecExpiry => exact .gk (.head _) (fun _ => .inl ⟨_, rfl⟩)
  | masterSyncTransmit port => exact .gk (.head _) (fun _ => .inl ⟨_, rfl⟩)
  | announceTransmit port => exact .gk (.head _) (fun _ => .inl ⟨_, rfl⟩)
  | stepReq => exact .gk (.head _) (fun _ => .inl ⟨_, rfl⟩)
  | ptpPeriodWrite v => exact .gk (.head _) (fun _ => .inl ⟨_, rfl⟩)
  | ptpRateWrite v => exact .gk (.head _) (fun _ => .inl ⟨_, rfl⟩)
  | ptpTime0Read who => exact .gk (.head _) (fun _ => .inl ⟨_, rfl⟩)
  | ptpStroke0Read who => exact .gk (.head _) (fun _ => .inl ⟨_, rfl⟩)
  | twinTimeExchange t1 t2 t3 t4 freq => exact .gk (.head _) (fun _ => .inl ⟨_, rfl⟩)
  | timeMarker p link t1 => exact way_timeMarker p link t1
  | timeFrameReceived p lane twin claim reply seq t1 t2 t3 t4 =>
    exact way_timeFrame p lane twin claim reply seq t1 t2 t3 t4
  | timeMessage p link m reply seq t1 t2 t3 t4 hubLocked =>
    exact way_timeMessage p link m reply seq t1 t2 t3 t4 hubLocked
  | rulAngleWrite v => exact .gk (.head _) (fun _ => .inl ⟨_, rfl⟩)
  | rulAngleRead who => exact .gk (.head _) (fun _ => .inl ⟨_, rfl⟩)
  | rulEncPosRead who n => exact .gk (.head _) (fun _ => .inl ⟨_, rfl⟩)
  | recordCommit b lo => exact .gk (.head _) (fun _ => .inl ⟨_, rfl⟩)
  | recordCancel b => exact .gk (.head _) (fun _ => .inl ⟨_, rfl⟩)
  | recordReceived b target writes verdict => exact .gk (.head _) (fun _ => .inl ⟨_, rfl⟩)
  | segmentArm => exact .gk (.head _) (fun _ => .inl ⟨_, rfl⟩)
  | segmentAbort => exact .gk (.head _) (fun _ => .inl ⟨_, rfl⟩)
  | gearArm => exact .gk (.head _) (fun _ => .inl ⟨_, rfl⟩)
  | gearCancel => exact .gk (.head _) (fun _ => .inl ⟨_, rfl⟩)
  | encoderCount n a b held => exact .gk (.head _) (fun _ => .inl ⟨_, rfl⟩)
  | encoderIndex n z held => exact .gk (.head _) (fun _ => .inl ⟨_, rfl⟩)
  | idxZero n => exact .gk (.head _) (fun _ => .inl ⟨_, rfl⟩)
  | encoderModeWrite n mode => exact .gk (.head _) (fun _ => .inl ⟨_, rfl⟩)
  | svFrame port f => exact .gk (.head _) (fun _ => .inl ⟨_, rfl⟩)
  | gooseFrame port m => exact .gk (.head _) (fun _ => .inl ⟨_, rfl⟩)
  | pbOtherFrame port kind srcMac tag own fcsBad => exact .gk (.head _) (fun _ => .inl ⟨_, rfl⟩)
  | supervisionFrameSend pair => exact .gk (.head _) (fun _ => .inl ⟨_, rfl⟩)
  | duplicateForget pair => exact .gk (.head _) (fun _ => .inl ⟨_, rfl⟩)
  | portLinkDown port => exact .gk (.head _) (fun _ => .inl ⟨_, rfl⟩)
  | xfeed item sim rx arrival => exact .gk (.head _) (fun _ => .inl ⟨_, rfl⟩)
  | reportFrame lane k twin claim keyOk remOk overrun keys rems => exact .gk (.head _) (fun _ => .inl ⟨_, rfl⟩)
  | keysumSend k => exact .gk (.head _) (fun _ => .inl ⟨_, rfl⟩)
  | keysum k b => exact .gk (.head _) (fun _ => .inl ⟨_, rfl⟩)
  | keyAgreement k ce ue => exact .gk (.head _) (fun _ => .inl ⟨_, rfl⟩)
  | svCutoff k => exact .gk (.head _) (fun _ => .inl ⟨_, rfl⟩)
  | svFreeze k => exact .gk (.head _) (fun _ => .inl ⟨_, rfl⟩)
  | svsum k b => exact .gk (.head _) (fun _ => .inl ⟨_, rfl⟩)
  | insumSend k => exact .gk (.head _) (fun _ => .inl ⟨_, rfl⟩)
  | insum k b => exact .gk (.head _) (fun _ => .inl ⟨_, rfl⟩)
  | crcsum k crcs => exact .gk (.head _) (fun _ => .inl ⟨_, rfl⟩)
  | inputAgreement k ce ue flrCe pts => exact .gk (.head _) (fun _ => .inl ⟨_, rfl⟩)
  | gooseStale n => exact .gk (.head _) (fun _ => .inl ⟨_, rfl⟩)
  | gooseTrig n => exact .gk (.head _) (fun _ => .inl ⟨_, rfl⟩)
  | gooseRepeat n => exact .gk (.head _) (fun _ => .inl ⟨_, rfl⟩)
  | loopTierBarrier => exact .gk (.head _) (fun _ => .inl ⟨_, rfl⟩)
  | loopWriteback k => exact .gk (.head _) (fun _ => .inl ⟨_, rfl⟩)
  | loopNop lane => exact .gk (.head _) (fun _ => .inl ⟨_, rfl⟩)
  | loopMov lane => exact .gk (.head _) (fun _ => .inl ⟨_, rfl⟩)
  | loopAdd lane => exact .gk (.head _) (fun _ => .inl ⟨_, rfl⟩)
  | loopSub lane => exact .gk (.head _) (fun _ => .inl ⟨_, rfl⟩)
  | loopMulc lane => exact .gk (.head _) (fun _ => .inl ⟨_, rfl⟩)
  | loopMulv lane => exact .gk (.head _) (fun _ => .inl ⟨_, rfl⟩)
  | loopMac0 lane => exact .gk (.head _) (fun _ => .inl ⟨_, rfl⟩)
  | loopMac lane => exact .gk (.head _) (fun _ => .inl ⟨_, rfl⟩)
  | loopInt lane => exact .gk (.head _) (fun _ => .inl ⟨_, rfl⟩)
  | loopMax lane => exact .gk (.head _) (fun _ => .inl ⟨_, rfl⟩)
  | loopMin lane => exact .gk (.head _) (fun _ => .inl ⟨_, rfl⟩)
  | loopLim lane => exact .gk (.head _) (fun _ => .inl ⟨_, rfl⟩)
  | loopAbs lane => exact .gk (.head _) (fun _ => .inl ⟨_, rfl⟩)
  | loopNeg lane => exact .gk (.head _) (fun _ => .inl ⟨_, rfl⟩)
  | loopAsh lane => exact .gk (.head _) (fun _ => .inl ⟨_, rfl⟩)
  | loopTrig lane => exact .gk (.head _) (fun _ => .inl ⟨_, rfl⟩)
  | loopLdc lane => exact .gk (.head _) (fun _ => .inl ⟨_, rfl⟩)
  | loopSkp lane => exact .gk (.head _) (fun _ => .inl ⟨_, rfl⟩)
  | loopOut lane => exact .gk (.head _) (fun _ => .inl ⟨_, rfl⟩)
  | loopWr lane => exact .gk (.head _) (fun _ => .inl ⟨_, rfl⟩)
  | frd lane => exact .gk (.head _) (fun _ => .inl ⟨_, rfl⟩)
  | frdi lane => exact .gk (.head _) (fun _ => .inl ⟨_, rfl⟩)
  | fst lane => exact .gk (.head _) (fun _ => .inl ⟨_, rfl⟩)
  | trc lane => exact .gk (.head _) (fun _ => .inl ⟨_, rfl⟩)
  | loopOpen slot => exact .gk (.head _) (fun _ => .inl ⟨_, rfl⟩)
  | loopClose slot => exact .gk (.head _) (fun _ => .inl ⟨_, rfl⟩)
  | coefWrite v => exact .gk (.head _) (fun _ => .inl ⟨_, rfl⟩)
  | paramWrite p v => exact .gk (.head _) (fun _ => .inl ⟨_, rfl⟩)
  | lpeXdataWrite v => exact .gk (.head _) (fun _ => .inl ⟨_, rfl⟩)
  | lpeXdata0Read who => exact .gk (.head _) (fun _ => .inl ⟨_, rfl⟩)
  | flourishClr t => exact .gk (.head _) (fun _ => .inl ⟨_, rfl⟩)
  | tapStart t => exact .gk (.head _) (fun _ => .inl ⟨_, rfl⟩)
  | tapTrig t => exact .gk (.head _) (fun _ => .inl ⟨_, rfl⟩)
  | tapEnable t v => exact .gk (.head _) (fun _ => .inl ⟨_, rfl⟩)
  | traceEntryDeadline t => exact .gk (.head _) (fun _ => .inl ⟨_, rfl⟩)
  | rankComplete a => exact .gk (.head _) (fun _ => .inl ⟨_, rfl⟩)
  | holdOut x => exact .gk (.head _) (fun _ => .inl ⟨_, rfl⟩)
  | cellReturn x => exact .gk (.head _) (fun _ => .inl ⟨_, rfl⟩)
  | rnkCxdata0Read who => exact .gk (.head _) (fun _ => .inl ⟨_, rfl⟩)
  | rnkCxdata0Write v => exact .gk (.head _) (fun _ => .inl ⟨_, rfl⟩)
  | wordFrameStart k => exact .gk (.head _) (fun _ => .inl ⟨_, rfl⟩)
  | digest k d => exact .gk (.head _) (fun _ => .inl ⟨_, rfl⟩)
  | cellReport c r m late => exact .sk (.head _) ⟨fun _ l _ _ h => h.linked (2 + c) (·.cellReport l c r.toNat m late), fun _ => rfl⟩
  | reportFrameSend k => exact .sk (.head _) ⟨fun _ _ _ _ => _, fun _ => rfl⟩
  | echo lane k twin claim e => exact .gk (.head _) (fun _ => .inl ⟨_, rfl⟩)
  | wordFrame u t claim twin gcmOk ws => exact .sk (.head _) ⟨fun _ _ _ _ => _, fun _ => rfl⟩
  | strokeWord plane w m late => exact .ih (.head _) (fun _ => ⟨_, rfl⟩)
  | armingDeadline => exact .ih (.head _) (fun _ => ⟨_, rfl⟩)
  | safeAction => exact .ih (.head _) (fun _ => ⟨_, rfl⟩)
  | cellReportSend => exact .ih (.head _) (fun _ => ⟨_, rfl⟩)
  | mgmtReadRequest p m tid addr cnt => exact .ih (.head _) (fun _ => ⟨_, rfl⟩)
  | mgmtWriteRequest p m tick tid addr ws obj =>
    exact way_mgmtWrite p m tick tid addr ws obj
  | mgmtReadResponse engine port tid m ws => exact way_mgmtReadResponse engine port tid m ws
  | mgmtWriteAck port tid m => exact .sk (.head _) ⟨fun _ _ _ _ => _, fun _ => rfl⟩
  | mgmtError engine port tid m code block => exact way_mgmtError engine port tid m code block
  | imageBlock p m tid idx cnt data => exact .ih (.head _) (fun _ => ⟨_, rfl⟩)
  | hubMgmtRequest u op tid count target port addr ws map => exact .sk (.head _) ⟨fun _ _ _ _ => _, fun _ => rfl⟩
  | cellMgmtTimeout port => exact .sk (.head _) ⟨fun _ _ _ _ => _, fun _ => rfl⟩
  | clrSafe => exact .ih (.head _) (fun _ => ⟨_, rfl⟩)
  | stkStart => exact .gk (.head _) (fun _ => .inl ⟨_, rfl⟩)
  | stkStop => exact .gk (.head _) (fun _ => .inl ⟨_, rfl⟩)
  | nibDisable tick => exact .ih (.head _) (fun _ => ⟨_, rfl⟩)
  | nibEnable => exact .ih (.head _) (fun _ => ⟨_, rfl⟩)
  | nibEdge => exact .ih (.head _) (fun _ => ⟨_, rfl⟩)
  | trip n tick => exact .ih (.head _) (fun _ => ⟨_, rfl⟩)
  | blankingEnd ch tick => exact .ih (.head _) (fun _ => ⟨_, rfl⟩)
  | latchClear b => exact .ih (.head _) (fun _ => ⟨_, rfl⟩)
  | ilockClear => exact .ih (.head _) (fun _ => ⟨_, rfl⟩)
  | overvoltage tick => exact .ih (.head _) (fun _ => ⟨_, rfl⟩)
  | ovpRelease => exact .ih (.head _) (fun _ => ⟨_, rfl⟩)
  | linkSilence tick => exact .ih (.head _) (fun _ => ⟨_, rfl⟩)
  | freeze tick clockStop => exact .ih (.head _) (fun _ => ⟨_, rfl⟩)
  | freezeResume => exact .ih (.head _) (fun _ => ⟨_, rfl⟩)
  | interlock tick => exact .ih (.head _) (fun _ => ⟨_, rfl⟩)
  | bypassPulseEnd => exact .ih (.head _) (fun _ => ⟨_, rfl⟩)
  | rearm => exact .ih (.head _) (fun _ => ⟨_, rfl⟩)
  | signedSettingsApply => exact .ih (.head _) (fun _ => ⟨_, rfl⟩)
  | coreReset tick => exact .ih (.head _) (fun _ => ⟨_, rfl⟩)
  | timerPulseEnd ch => exact .ih (.head _) (fun _ => ⟨_, rfl⟩)
  | oscCheck good => exact .ih (.head _) (fun _ => ⟨_, rfl⟩)
  | aqSlot cell ins => exact way_aqSlot cell ins
  | aqResult cell => exact way_aqResult cell
  | urgentRequest cell input tick => exact way_urgentRequest cell input tick
  | urgentResult cell => exact way_urgentResult cell
  | aqEnable cell en => exact way_aqEnable cell en
  | sliceCalibrated cell beyond => exact way_sliceCalibrated cell beyond
  | driftClear cell hard => exact way_driftClear cell hard
  | refSelect cell => exact way_refSelect cell
  | xoff cell => exact way_xoff cell
  | aqRes0Read cell who => exact way_aqRes0Read cell who
  | aqUres0Read cell who => exact way_aqUres0Read cell who
  | arbiterStart x d => exact .gk (.head _) (fun _ => .inl ⟨_, rfl⟩)
  | arbiterTimeout a => exact .gk (.head _) (fun _ => .inl ⟨_, rfl⟩)
  | arbiterHoldOut a => exact .gk (.head _) (fun _ => .inl ⟨_, rfl⟩)
  | holdupConversion code tick => exact .ih (.head _) (fun _ => ⟨_, rfl⟩)
  | ledgerPlan tick => exact .ih (.head _) (fun _ => ⟨_, rfl⟩)
  | brownOut tick supply => exact .ih (.head _) (fun _ => ⟨_, rfl⟩)
  | vddIoLoss => exact .ih (.head _) (fun _ => ⟨_, rfl⟩)
  | islandResetRelease => exact .ih (.head _) (fun _ => ⟨_, rfl⟩)
  | mainResetRelease lost => exact .ih (.head _) (fun _ => ⟨_, rfl⟩)
  | lfrClear => exact .ih (.head _) (fun _ => ⟨_, rfl⟩)
  | lfrf0Read who first => exact .ih (.head _) (fun _ => ⟨_, rfl⟩)
  | fwErase => exact .ih (.head _) (fun _ => ⟨_, rfl⟩)
  | eraseComplete => exact .ih (.head _) (fun _ => ⟨_, rfl⟩)
  | fwVerify => exact .ih (.head _) (fun _ => ⟨_, rfl⟩)
  | fwActivate tick => exact .ih (.head _) (fun _ => ⟨_, rfl⟩)
  | fwConfirm => exact .ih (.head _) (fun _ => ⟨_, rfl⟩)
  | trialTimeout tick => exact .ih (.head _) (fun _ => ⟨_, rfl⟩)
  | qAdd u rd ra rb fe => exact way_quillCore (.qAdd · rd ra rb fe) (fun _ => rfl) (fun _ _ => rfl) u
  | qSub u rd ra rb fe => exact way_quillCore (.qSub · rd ra rb fe) (fun _ => rfl) (fun _ _ => rfl) u
  | qAddc u rd ra rb fe => exact way_quillCore (.qAddc · rd ra rb fe) (fun _ => rfl) (fun _ _ => rfl) u
  | qSubc u rd ra rb fe => exact way_quillCore (.qSubc · rd ra rb fe) (fun _ => rfl) (fun _ _ => rfl) u
  | qAnd u rd ra rb fe => exact way_quillCore (.qAnd · rd ra rb fe) (fun _ => rfl) (fun _ _ => rfl) u
  | qOr u rd ra rb fe => exact way_quillCore (.qOr · rd ra rb fe) (fun _ => rfl) (fun _ _ => rfl) u
  | qXor u rd ra rb fe => exact way_quillCore (.qXor · rd ra rb fe) (fun _ => rfl) (fun _ _ => rfl) u
  | qShl u rd ra rb fe => exact way_quillCore (.qShl · rd ra rb fe) (fun _ => rfl) (fun _ _ => rfl) u
  | qShr u rd ra rb fe => exact way_quillCore (.qShr · rd ra rb fe) (fun _ => rfl) (fun _ _ => rfl) u
  | qSha u rd ra rb fe => exact way_quillCore (.qSha · rd ra rb fe) (fun _ => rfl) (fun _ _ => rfl) u
  | qShli u rd ra sh fe => exact way_quillCore (.qShli · rd ra sh fe) (fun _ => rfl) (fun _ _ => rfl) u
  | qShri u rd ra sh fe => exact way_quillCore (.qShri · rd ra sh fe) (fun _ => rfl) (fun _ _ => rfl) u
  | qShai u rd ra sh fe => exact way_quillCore (.qShai · rd ra sh fe) (fun _ => rfl) (fun _ _ => rfl) u
  | qSlt u rd ra rb fe => exact way_quillCore (.qSlt · rd ra rb fe) (fun _ => rfl) (fun _ _ => rfl) u
  | qSltu u rd ra rb fe => exact way_quillCore (.qSltu · rd ra rb fe) (fun _ => rfl) (fun _ _ => rfl) u
  | qMin u rd ra rb fe => exact way_quillCore (.qMin · rd ra rb fe) (fun _ => rfl) (fun _ _ => rfl) u
  | qMax u rd ra rb fe => exact way_quillCore (.qMax · rd ra rb fe) (fun _ => rfl) (fun _ _ => rfl) u
  | qMul u rd ra rb fe => exact way_quillCore (.qMul · rd ra rb fe) (fun _ => rfl) (fun _ _ => rfl) u
  | qMulh u rd ra rb fe => exact way_quillCore (.qMulh · rd ra rb fe) (fun _ => rfl) (fun _ _ => rfl) u
  | qMulhu u rd ra rb fe => exact way_quillCore (.qMulhu · rd ra rb fe) (fun _ => rfl) (fun _ _ => rfl) u
  | qDiv u rd ra rb fe => exact way_quillCore (.qDiv · rd ra rb fe) (fun _ => rfl) (fun _ _ => rfl) u
  | qDivu u rd ra rb fe => exact way_quillCore (.qDivu · rd ra rb fe) (fun _ => rfl) (fun _ _ => rfl) u
  | qRem u rd ra rb fe => exact way_quillCore (.qRem · rd ra rb fe) (fun _ => rfl) (fun _ _ => rfl) u
  | qRemu u rd ra rb fe => exact way_quillCore (.qRemu · rd ra rb fe) (fun _ => rfl) (fun _ _ => rfl) u
  | qAdds u rd ra rb fe => exact way_quillCore (.qAdds · rd ra rb fe) (fun _ => rfl) (fun _ _ => rfl) u
  | qSubs u rd ra rb fe => exact way_quillCore (.qSubs · rd ra rb fe) (fun _ => rfl) (fun _ _ => rfl) u
  | qAbss u rd ra fe => exact way_quillCore (.qAbss · rd ra fe) (fun _ => rfl) (fun _ _ => rfl) u
  | qNegs u rd ra fe => exact way_quillCore (.qNegs · rd ra fe) (fun _ => rfl) (fun _ _ => rfl) u
  | qAdds14 u rd ra rb fe => exact way_quillCore (.qAdds14 · rd ra rb fe) (fun _ => rfl) (fun _ _ => rfl) u
  | qSubs14 u rd ra rb fe => exact way_quillCore (.qSubs14 · rd ra rb fe) (fun _ => rfl) (fun _ _ => rfl) u
  | qMuls14 u rd ra rb fe => exact way_quillCore (.qMuls14 · rd ra rb fe) (fun _ => rfl) (fun _ _ => rfl) u
  | qSat14 u rd ra fe => exact way_quillCore (.qSat14 · rd ra fe) (fun _ => rfl) (fun _ _ => rfl) u
  | qSats u rd ra rb fe => exact way_quillCore (.qSats · rd ra rb fe) (fun _ => rfl) (fun _ _ => rfl) u
  | qClz u rd ra fe => exact way_quillCore (.qClz · rd ra fe) (fun _ => rfl) (fun _ _ => rfl) u
  | qAddi u rd ra imm fe => exact way_quillCore (.qAddi · rd ra imm fe) (fun _ => rfl) (fun _ _ => rfl) u
  | qAndi u rd ra imm fe => exact way_quillCore (.qAndi · rd ra imm fe) (fun _ => rfl) (fun _ _ => rfl) u
  | qOri u rd ra imm fe => exact way_quillCore (.qOri · rd ra imm fe) (fun _ => rfl) (fun _ _ => rfl) u
  | qXori u rd ra imm fe => exact way_quillCore (.qXori · rd ra imm fe) (fun _ => rfl) (fun _ _ => rfl) u
  | qLui u rd imm fe => exact way_quillCore (.qLui · rd imm fe) (fun _ => rfl) (fun _ _ => rfl) u
  | qSlti u rd ra imm fe => exact way_quillCore (.qSlti · rd ra imm fe) (fun _ => rfl) (fun _ _ => rfl) u
  | qLdw u rd ra imm fe de => exact way_quillBoth (.qLdw · rd ra imm fe de) (fun _ => rfl) (fun _ _ => rfl) u
  | qLdh u rd ra imm fe de => exact way_quillBoth (.qLdh · rd ra imm fe de) (fun _ => rfl) (fun _ _ => rfl) u
  | qLdhu u rd ra imm fe de => exact way_quillBoth (.qLdhu · rd ra imm fe de) (fun _ => rfl) (fun _ _ => rfl) u
  | qLdb u rd ra imm fe de => exact way_quillBoth (.qLdb · rd ra imm fe de) (fun _ => rfl) (fun _ _ => rfl) u
  | qLdbu u rd ra imm fe de => exact way_quillBoth (.qLdbu · rd ra imm fe de) (fun _ => rfl) (fun _ _ => rfl) u
  | qStw u rd ra imm fe tick => exact way_quillBoth (.qStw · rd ra imm fe tick) (fun _ => rfl) (fun _ _ => rfl) u
  | qSth u rd ra imm fe tick => exact way_quillBoth (.qSth · rd ra imm fe tick) (fun _ => rfl) (fun _ _ => rfl) u
  | qStb u rd ra imm fe tick => exact way_quillBoth (.qStb · rd ra imm fe tick) (fun _ => rfl) (fun _ _ => rfl) u
  | qBeq u ra rb ofs fe => exact way_quillCore (.qBeq · ra rb ofs fe) (fun _ => rfl) (fun _ _ => rfl) u
  | qBne u ra rb ofs fe => exact way_quillCore (.qBne · ra rb ofs fe) (fun _ => rfl) (fun _ _ => rfl) u
  | qBlt u ra rb ofs fe => exact way_quillCore (.qBlt · ra rb ofs fe) (fun _ => rfl) (fun _ _ => rfl) u
  | qBge u ra rb ofs fe => exact way_quillCore (.qBge · ra rb ofs fe) (fun _ => rfl) (fun _ _ => rfl) u
  | qBltu u ra rb ofs fe => exact way_quillCore (.qBltu · ra rb ofs fe) (fun _ => rfl) (fun _ _ => rfl) u
  | qBgeu u ra rb ofs fe => exact way_quillCore (.qBgeu · ra rb ofs fe) (fun _ => rfl) (fun _ _ => rfl) u
  | qBfl u cond ofs fe => exact way_quillCore (.qBfl · cond ofs fe) (fun _ => rfl) (fun _ _ => rfl) u
  | qJal u rd ofs fe => exact way_quillCore (.qJal · rd ofs fe) (fun _ => rfl) (fun _ _ => rfl) u
  | qJalr u rd ra imm fe => exact way_quillCore (.qJalr · rd ra imm fe) (fun _ => rfl) (fun _ _ => rfl) u
  | qMacz u acc ra rb fe => exact way_quillCore (.qMacz · acc ra rb fe) (fun _ => rfl) (fun _ _ => rfl) u
  | qMac u acc ra rb fe => exact way_quillCore (.qMac · acc ra rb fe) (fun _ => rfl) (fun _ _ => rfl) u
  | qMsu u acc ra rb fe => exact way_quillCore (.qMsu · acc ra rb fe) (fun _ => rfl) (fun _ _ => rfl) u
  | qMacv u acc ra rb fe => exact way_quillCore (.qMacv · acc ra rb fe) (fun _ => rfl) (fun _ _ => rfl) u
  | qAccw u acc ra rb fe => exact way_quillCore (.qAccw · acc ra rb fe) (fun _ => rfl) (fun _ _ => rfl) u
  | qAccadd u acc ra sh fe => exact way_quillCore (.qAccadd · acc ra sh fe) (fun _ => rfl) (fun _ _ => rfl) u
  | qAccrr u rd acc sh fe => exact way_quillCore (.qAccrr · rd acc sh fe) (fun _ => rfl) (fun _ _ => rfl) u
  | qAccrd u rd acc sh fe => exact way_quillCore (.qAccrd · rd acc sh fe) (fun _ => rfl) (fun _ _ => rfl) u
  | qAccr14 u rd acc sh fe => exact way_quillCore (.qAccr14 · rd acc sh fe) (fun _ => rfl) (fun _ _ => rfl) u
  | qAcclo u rd acc fe => exact way_quillCore (.qAcclo · rd acc fe) (fun _ => rfl) (fun _ _ => rfl) u
  | qAcchi u rd acc fe => exact way_quillCore (.qAcchi · rd acc fe) (fun _ => rfl) (fun _ _ => rfl) u
  | qVadd u rd ra rb fe => exact way_quillCore (.qVadd · rd ra rb fe) (fun _ => rfl) (fun _ _ => rfl) u
  | qVsub u rd ra rb fe => exact way_quillCore (.qVsub · rd ra rb fe) (fun _ => rfl) (fun _ _ => rfl) u
  | qVmul u rd ra rb fe => exact way_quillCore (.qVmul · rd ra rb fe) (fun _ => rfl) (fun _ _ => rfl) u
  | qVmin u rd ra rb fe => exact way_quillCore (.qVmin · rd ra rb fe) (fun _ => rfl) (fun _ _ => rfl) u
  | qVmax u rd ra rb fe => exact way_quillCore (.qVmax · rd ra rb fe) (fun _ => rfl) (fun _ _ => rfl) u
  | qVabs u rd ra fe => exact way_quillCore (.qVabs · rd ra fe) (fun _ => rfl) (fun _ _ => rfl) u
  | qVneg u rd ra fe => exact way_quillCore (.qVneg · rd ra fe) (fun _ => rfl) (fun _ _ => rfl) u
  | qVpack u rd ra rb fe => exact way_quillCore (.qVpack · rd ra rb fe) (fun _ => rfl) (fun _ _ => rfl) u
  | qVsum u rd ra fe => exact way_quillCore (.qVsum · rd ra fe) (fun _ => rfl) (fun _ _ => rfl) u
  | qVdot u rd ra rb fe => exact way_quillCore (.qVdot · rd ra rb fe) (fun _ => rfl) (fun _ _ => rfl) u
  | qCsrr u rd csr fe => exact way_quillBoth (.qCsrr · rd csr fe) (fun _ => rfl) (fun _ _ => rfl) u
  | qCsrw u ra csr fe => exact way_quillBoth (.qCsrw · ra csr fe) (fun _ => rfl) (fun _ _ => rfl) u
  | qCsrs u rd ra csr fe => exact way_quillBoth (.qCsrs · rd ra csr fe) (fun _ => rfl) (fun _ _ => rfl) u
  | qCsrc u rd ra csr fe => exact way_quillBoth (.qCsrc · rd ra csr fe) (fun _ => rfl) (fun _ _ => rfl) u
  | qWaits u rd ra imm fe ce => exact way_quillBoth (.qWaits · rd ra imm fe ce) (fun _ => rfl) (fun _ _ => rfl) u
  | qWaita u rd ra imm fe ce => exact way_quillBoth (.qWaita · rd ra imm fe ce) (fun _ => rfl) (fun _ _ => rfl) u
  | qPost u rd ra fe => exact way_quillBoth (.qPost · rd ra fe) (fun _ => rfl) (fun _ _ => rfl) u
  | qLock u rd ra fe ce => exact way_quillBoth (.qLock · rd ra fe ce) (fun _ => rfl) (fun _ _ => rfl) u
  | qTrylk u rd ra fe => exact way_quillBoth (.qTrylk · rd ra fe) (fun _ => rfl) (fun _ _ => rfl) u
  | qUnlock u ra fe => exact way_quillBoth (.qUnlock · ra fe) (fun _ => rfl) (fun _ _ => rfl) u
  | qYield u fe ce => exact way_quillBoth (.qYield · fe ce) (fun _ => rfl) (fun _ _ => rfl) u
  | qExit u fe => exact way_quillBoth (.qExit · fe) (fun _ => rfl) (fun _ _ => rfl) u
  | qFence u fe => exact way_quillBoth (.qFence · fe) (fun _ => rfl) (fun _ _ => rfl) u
  | qTrap u imm fe => exact way_quillBoth (.qTrap · imm fe) (fun _ => rfl) (fun _ _ => rfl) u
  | qBrk u fe => exact way_quillBoth (.qBrk · fe) (fun _ => rfl) (fun _ _ => rfl) u
  | qXret u fe => exact way_quillBoth (.qXret · fe) (fun _ => rfl) (fun _ _ => rfl) u
  | qMvin u rd ra rb tag fe => exact way_quillBoth (.qMvin · rd ra rb tag fe) (fun _ => rfl) (fun _ _ => rfl) u
  | qMvout u rd ra rb tag fe => exact way_quillBoth (.qMvout · rd ra rb tag fe) (fun _ => rfl) (fun _ _ => rfl) u
  | qMvwait u rd tag fe => exact way_quillBoth (.qMvwait · rd tag fe) (fun _ => rfl) (fun _ _ => rfl) u
  | qInklw u rd ra fe de => exact way_quillBoth (.qInklw · rd ra fe de) (fun _ => rfl) (fun _ _ => rfl) u
  | qInksw u rd ra fe => exact way_quillBoth (.qInksw · rd ra fe) (fun _ => rfl) (fun _ _ => rfl) u
  | moveComplete q mv status done => exact .gk (.head _) (fun _ => .inl ⟨_, rfl⟩)
  | quillSInterrupt n => exact .ih (.head _) (fun _ => ⟨_, rfl⟩)
  | lockstepMismatch q => exact .gk (.head _) (fun _ => .inl ⟨_, rfl⟩)
  | debugHalt u tick => exact way_onCore (.debugHalt · tick) (fun _ => rfl) (fun _ _ => rfl) u
  | debugResume u => exact way_onCore (.debugResume) (fun _ => rfl) (fun _ _ => rfl) u
  | debugStep u tick => exact way_onCore (.debugStep · tick) (fun _ => rfl) (fun _ _ => rfl) u
  | qdbgAccRead q n => exact .gk (.head _) (fun _ => .inl ⟨_, rfl⟩)
  | taskPostCmd t => exact .gk (.head _) (fun _ => .inl ⟨_, rfl⟩)
  | taskKill t => exact .gk (.head _) (fun _ => .inl ⟨_, rfl⟩)
  | taskDisable t => exact .gk (.head _) (fun _ => .inl ⟨_, rfl⟩)
  | taskEnable t => exact .gk (.head _) (fun _ => .inl ⟨_, rfl⟩)
  | preemption q ce => exact .gk (.head _) (fun _ => .inl ⟨_, rfl⟩)
  | budgetExceeded t => exact .gk (.head _) (fun _ => .inl ⟨_, rfl⟩)
  | lockWaitTimeout t => exact .gk (.head _) (fun _ => .inl ⟨_, rfl⟩)
  | coreEnableWrite v => exact .gk (.head _) (fun _ => .inl ⟨_, rfl⟩)
  | coreReturn v => exact .gk (.head _) (fun _ => .inl ⟨_, rfl⟩)
  | selfTestComplete q good => exact .gk (.head _) (fun _ => .inl ⟨_, rfl⟩)
  | scrubStep singles doubles => exact .gk (.head _) (fun _ => .inl ⟨_, rfl⟩)
  | spareReq rbank => exact .gk (.head _) (fun _ => .inl ⟨_, rfl⟩)
  | spareCopyComplete => exact .gk (.head _) (fun _ => .inl ⟨_, rfl⟩)
  | layoutLock => exact .gk (.head _) (fun _ => .inl ⟨_, rfl⟩)
  | resizeQueue part size => exact .gk (.head _) (fun _ => .inl ⟨_, rfl⟩)
  | rinv all rgn => exact .gk (.head _) (fun _ => .inl ⟨_, rfl⟩)
  | heartbeatSend => exact .gk (.head _) (fun _ => .inl ⟨_, rfl⟩)
  | heart path lane hubTwin hubClaim tagOk b => exact .gk (.head _) (fun _ => .inl ⟨_, rfl⟩)
  | hubHeartRelay u b => exact .sk (.head _) ⟨fun _ _ _ _ => _, fun _ => rfl⟩
  | handoverCmd => exact .gk (.head _) (fun _ => .inl ⟨_, rfl⟩)
  | handoverDeadline k => exact .gk (.head _) (fun _ => .inl ⟨_, rfl⟩)
  | drill => exact .gk (.head _) (fun _ => .inl ⟨_, rfl⟩)
  | revert => exact .gk (.head _) (fun _ => .inl ⟨_, rfl⟩)
  | joinRequest view => exact .gk (.head _) (fun _ => .inl ⟨_, rfl⟩)
  | stateFrame o => exact .gk (.head _) (fun _ => .inl ⟨_, rfl⟩)
  | joinTimeout => exact .gk (.head _) (fun _ => .inl ⟨_, rfl⟩)
  | bundleCommit slot lo => exact .gk (.head _) (fun _ => .inl ⟨_, rfl⟩)
  | causeRise p n who => exact way_causeRise p n who
  | causeFall p n who => exact way_causeFall p n who
  | eventCauseExpiry p n => exact way_eventCauseExpiry p n
  | persistenceMet n => exact .gk (.head _) (fun _ => .inl ⟨_, rfl⟩)
  | actionNotice a => exact .gk (.head _) (fun _ => .inl ⟨_, rfl⟩)
  | alertPulseEnd n => exact .gk (.head _) (fun _ => .inl ⟨_, rfl⟩)
  | alertRel n => exact .gk (.head _) (fun _ => .inl ⟨_, rfl⟩)
  | alertPinFault n => exact .gk (.head _) (fun _ => .inl ⟨_, rfl⟩)
  | bltRelWrite arms trip => exact .gk (.head _) (fun _ => .inl ⟨_, rfl⟩)
  | bltCrel x => exact .gk (.head _) (fun _ => .inl ⟨_, rfl⟩)
  | sourceClear p n => exact way_sourceClear p n
  | sourceForce p n x => exact way_sourceForce p n x
  | hubBlotterRead cell rs => exact .sk (.head _) ⟨fun _ _ _ _ => _, fun _ => rfl⟩
  | blotterReadRetry c => exact .sk (.head _) ⟨fun _ _ _ _ => _, fun _ => rfl⟩
  | blotterBlock rs => exact .gk (.head _) (fun _ => .inl ⟨_, rfl⟩)
  | changedBitmapRead cell w => exact way_changedBitmapRead cell w
  | logPop => exact .gk (.head _) (fun _ => .inl ⟨_, rfl⟩)
  | log0Read who => exact .gk (.head _) (fun _ => .inl ⟨_, rfl⟩)
  | sourceFirstRead who n last => exact .gk (.head _) (fun _ => .inl ⟨_, rfl⟩)
  | cbdataRead who => exact .gk (.head _) (fun _ => .inl ⟨_, rfl⟩)
  | incidentClear => exact .gk (.head _) (fun _ => .inl ⟨_, rfl⟩)
  | folioArm n => exact .gk (.head _) (fun _ => .inl ⟨_, rfl⟩)
  | folioTrig n => exact .gk (.head _) (fun _ => .inl ⟨_, rfl⟩)
  | folioFree n => exact .gk (.head _) (fun _ => .inl ⟨_, rfl⟩)
  | folioAbort n => exact .gk (.head _) (fun _ => .inl ⟨_, rfl⟩)
  | triginEdge p rise tenths => exact .gk (.head _) (fun _ => .inl ⟨_, rfl⟩)
  | finalisationComplete n => exact .gk (.head _) (fun _ => .inl ⟨_, rfl⟩)
  | streamUnit => exact .gk (.head _) (fun _ => .inl ⟨_, rfl⟩)
  | srrptrWrite v => exact .gk (.head _) (fun _ => .inl ⟨_, rfl⟩)
  | folTts0Read who p => exact .gk (.head _) (fun _ => .inl ⟨_, rfl⟩)
  | txSettleDone e => exact way_onEnd (.txSettleDone) (fun _ => rfl) (fun _ _ => rfl) e
  | trainEnd e => exact way_onEnd (.trainEnd) (fun _ => rfl) (fun _ _ => rfl) e
  | signalDetect e => exact way_rxStep (.signalDetect) (fun _ => rfl) (fun _ _ => rfl) e
  | cdrLock e => exact way_rxStep (.cdrLock) (fun _ => rfl) (fun _ _ => rfl) e
  | pilotLock e seen => exact way_onEnd (.pilotLock · seen) (fun _ => rfl) (fun _ _ => rfl) e
  | laneUp e devid step => exact way_onEnd (.laneUp · devid step) (fun _ => rfl) (fun _ _ => rfl) e
  | codeword e line tags => exact way_codeword e line tags
  | lossOfSignal e => exact way_onEnd (.lossOfSignal) (fun _ => rfl) (fun _ _ => rfl) e
  | signalReturn e => exact way_rxStep (.signalReturn) (fun _ => rfl) (fun _ _ => rfl) e
  | holdTimeout e => exact way_onEnd (.holdTimeout) (fun _ => rfl) (fun _ _ => rfl) e
  | fomRefresh e mu sd => exact way_onEnd (.fomRefresh · mu sd) (fun _ => rfl) (fun _ _ => rfl) e
  | calRequest n => exact .gk (.head _) (fun _ => .inl ⟨_, rfl⟩)
  | calWindowStart e => exact way_onEnd (.calWindowStart) (fun _ => rfl) (fun _ _ => rfl) e
  | calWindowEnd e => exact way_onEnd (.calWindowEnd) (fun _ => rfl) (fun _ _ => rfl) e
  | hubCalPoll lane gneed uneed => exact .gk (.head _) (fun _ => .inl ⟨_, rfl⟩)
  | hubCalGrant port => exact .sk (.head _) ⟨fun _ _ _ _ => _, fun _ => rfl⟩
  | ucwSecond n => exact .gk (.head _) (fun _ => .inl ⟨_, rfl⟩)
  | cellLinkUp e fom => exact way_onEnd (.cellLinkUp · fom) (fun _ => rfl) (fun _ _ => rfl) e
  | cellLinkDown e viol disp disc silent => exact way_onEnd (.cellLinkDown · viol disp disc silent) (fun _ => rfl) (fun _ _ => rfl) e
  | ihloonTxWindow => exact .ih (.head _) (fun _ => ⟨_, rfl⟩)
  | ihloonTxWindowEnd => exact .ih (.head _) (fun _ => ⟨_, rfl⟩)
  | attestChallenge p link certOk => exact way_attestChallenge p link certOk
  | attestEvidence hub pos plane ev other => exact way_attestEvidence hub pos plane ev other
  | attestRetry hub pos => exact way_attestRetry hub pos
  | evidenceRecord pos plane ev verdict sentAt => exact .gk (.head _) (fun _ => .inl ⟨_, rfl⟩)
  | bundleLoad slot ecdsa mldsa digest hash body => exact .gk (.head _) (fun _ => .inl ⟨_, rfl⟩)
  | loadComplete => exact .gk (.head _) (fun _ => .inl ⟨_, rfl⟩)
  | provisioningWrite p usage => exact way_provisioningWrite p usage
  | epochTimer hub => exact way_epochTimer hub
  | debugToken p e nonce perm => exact way_debugToken p e nonce perm
  | debugClose p => exact way_debugClose p
  | debugExpiry p => exact way_debugExpiry p
  | dbgchalRead p who => exact way_dbgchalRead p who
  | posdataRead who => exact .gk (.head _) (fun _ => .inl ⟨_, rfl⟩)
  | entropyFailure p => exact way_entropyFailure p
  | endpointReset perst => exact .gk (.head _) (fun _ => .inr ⟨rfl, _, rfl⟩)
  | pcieLinkDown => exact .gk (.head _) (fun _ => .inr ⟨rfl, _, rfl⟩)
  | registerWrite a v be hit => exact way_registerWrite a v be hit
  | hubWindowRead n ofs count shapeOk => exact .gk (.head _) (fun _ => .inl ⟨_, rfl⟩)
  | hubWindowWrite n ofs ws shapeOk => exact .gk (.head _) (fun _ => .inl ⟨_, rfl⟩)
  | hubWindowResponse n twin claim tid code ws => exact .gk (.head _) (fun _ => .inl ⟨_, rfl⟩)
  | hubWindowTimeout n => exact .gk (.head _) (fun _ => .inl ⟨_, rfl⟩)
  | herrClear => exact .gk (.head _) (fun _ => .inr ⟨rfl, _, rfl⟩)
  | dataPortWrite x ws => exact .gk (.head _) (fun _ => .inl ⟨_, rfl⟩)
  | dataPortRead x n find => exact .gk (.head _) (fun _ => .inl ⟨_, rfl⟩)
  | dataPortAdv => exact .gk (.head _) (fun _ => .inr ⟨rfl, _, rfl⟩)
  | dataPortTimeout isRead x n => exact .gk (.head _) (fun _ => .inr ⟨rfl, _, rfl⟩)
  | dpstatRead who => exact .gk (.head _) (fun _ => .inr ⟨rfl, _, rfl⟩)
  | doorbell v => exact .gk (.head _) (fun _ => .inr ⟨rfl, _, rfl⟩)
  | msixUnmask v => exact .gk (.head _) (fun _ => .inr ⟨rfl, _, rfl⟩)
  | partReset cause => exact .gk (.head _) (fun _ => .inr ⟨rfl, _, rfl⟩)
  | reboot => exact .gk (.head _) (fun _ => .inr ⟨rfl, _, rfl⟩)
  | bootRelease => exact .gk (.head _) (fun _ => .inr ⟨rfl, _, rfl⟩)
  | imageVerified e entry sections => exact .gk (.head _) (fun _ => .inr ⟨rfl, _, rfl⟩)
  | railFault hub bad => exact way_railFault hub bad
  | refclkFault => exact .gk (.head _) (fun _ => .inr ⟨rfl, _, rfl⟩)
  | plannerTick power floor energy => exact .gk (.head _) (fun _ => .inr ⟨rfl, _, rfl⟩)
  | shedStep thermal => exact .gk (.head _) (fun _ => .inr ⟨rfl, _, rfl⟩)
  | thermalSample hub tj sensor => exact way_thermalSample hub tj sensor
  | thermalTrip => exact .gk (.head _) (fun _ => .inr ⟨rfl, _, rfl⟩)
  | qgateWrite v => exact .gk (.head _) (fun _ => .inr ⟨rfl, _, rfl⟩)
  | dxdataRead who => exact .gk (.head _) (fun _ => .inr ⟨rfl, _, rfl⟩)
  | flashCommand port op mode len => exact .gk (.head _) (fun _ => .inr ⟨rfl, _, rfl⟩)
  | flashCommandDone data => exact .gk (.head _) (fun _ => .inr ⟨rfl, _, rfl⟩)
  | hubReset => exact .sk (.head _) ⟨fun _ _ _ _ => _, fun _ => rfl⟩
  | imageFrame u cell port ofs data last => exact .sk (.head _) ⟨fun _ _ _ _ => _, fun _ => rfl⟩
  | hubImageVerify e => exact .sk (.head _) ⟨fun _ _ _ _ => _, fun _ => rfl⟩
  | hubFailWait => exact .sk (.head _) ⟨fun _ _ _ _ => _, fun _ => rfl⟩
  | cellLoadQueue x => exact .gk (.head _) (fun _ => .inl ⟨_, rfl⟩)
  | hubRestart => exact .sk (.head _) ⟨fun _ _ _ _ => _, fun _ => rfl⟩
  | pdelayReqTransmit port tx => exact .gk (.head _) (fun _ => .inl ⟨_, rfl⟩)
  | tripInputRelease n => exact .ih (.head _) (fun _ => ⟨_, rfl⟩)
  | pcieLinkUp width speed => exact .gk (.head _) (fun _ => .inr ⟨rfl, _, rfl⟩)
  | portLinkUp port speed => exact .gk (.head _) (fun _ => .inl ⟨_, rfl⟩)
  | secureBootDone ok => exact .ih (.head _) (fun _ => ⟨_, rfl⟩)
  | fwVerifyDone e => exact .ih (.head _) (fun _ => ⟨_, rfl⟩)
  | registerReadClear who a hit => exact way_registerRead who a hit
  | synthesiserDrift e => exact way_onEnd (.synthesiserDrift) (fun _ => rfl) (fun _ _ => rfl) e

end Sys2Proof.Machine
end

