-- ==== Sys2Proof/Tests/Slice0.lean ====
section
/-!
SUPPORT. Tests: ill-formed commands that the check of well-formedness refuses, worked examples of the manual, and for every
statement with hypotheses a state and operands that meet them.
-/

namespace Sys2Proof.Tests

open Sys2Proof Sys2Proof.Machine

/-! ### Small states -/

/-- The reset state with the Gloesk changed. -/
def gk (f : Gloesk → Gloesk) : State := { State.reset with gk := f State.reset.gk }
/-- The reset state with the hub changed. -/
def sk (f : Stanak → Stanak) : State := { State.reset with sk := f State.reset.sk }
/-- The reset state with the cell changed. -/
def ih (f : Ihloon → Ihloon) : State := { State.reset with ih := f State.reset.ih }

/-- The blocks of the Gloesk held in reset by the thermal trip. -/
def held : State := gk (·.onPwr (fun p => { p with phase := .held }))

/-- Pair 0 runs, with the word `w` at its pc. -/
def quillAt (w : Nat) : State := gk (·.onPair 0 (fun k => { k with mem := Memory.write k.mem k.pc 4 w, busy := true }))

/-- The main domain of the cell runs. -/
def cellUp : State := ih (·.onRsv (fun r => { r with main := true, clocks := true }))

/-- The Quill-S runs, with the word `w` at its pc. -/
def cellAt (w : Nat) : State := ih (fun c => (c.onRsv (fun r => { r with main := true, clocks := true, booted := true })).onCore
  (fun k => { k with mem := Memory.write k.mem k.pc 4 w, w := Tab.set 0 k.w 1 0x1FFFC, xstat := 1 }))

/-- The lane of a window at word 0 of slot 0. -/
def laneZero : LaneState := { LaneState.idle with slot := some 0 }
/-- A window with lane 0 at slot 0. -/
def windowZero : LoopWindow := ⟨0, 0, [laneZero], [], [], [], []⟩
/-- Loop lane 0 is at a word with opcode `op`. -/
def loopAt (op : Nat) : State :=
  gk (fun g => { g with lpe := { g.lpe with window := some windowZero, prog := Tab.set 0 g.lpe.prog 0 (BitVec.ofNat 64 (op * 2 ^ 58)) } })

/-- A framed message made in stroke 0. -/
def good : LinkMsg := ⟨true, true, some 0⟩

/-- Lane 0 and a twin lane are UP with keys in place, as are uplink 0 and cell port 191 of the hub. -/
def linkedUp : State :=
  { State.reset with
    gk := (State.reset.gk.onTrust (fun p => { p with keyed := [0, 64] })).wr F.LAN_L_STAT_RXST 4 0 |>.wr F.LAN_UP2_UP 1
    sk := (State.reset.sk.onTrust (fun p => { p with keyed := [0, 193] })).wr F.HLAN_L_STAT_RXST 4 0
      |>.wr F.HLNK_LK_STAT_RXST 3 191 |>.wr F.HUB_SLOT5_POP (2 ^ 31) }

/-- A command waits. -/
def queued : State := { State.reset with pending := [.lfrClear] }

/-! ### Well-formed commands, and one that each kind of check refuses -/

theorem test_wf_sync : (Instr.followUp 0 65535 0 0).wf = true ∧ (Instr.followUp 0 65536 0 0).wf = false := by decide
theorem test_wf_utc : (Instr.announce 0 ⟨128, 6, 0x21, 0, 128, 0, 1, 0, 0⟩ (2 ^ 32)).wf = false := by decide
theorem test_wf_stroke : (Instr.keysumSend (2 ^ 48 - 1)).wf = true ∧ (Instr.keysumSend (2 ^ 48)).wf = false := by decide
theorem test_wf_record : (Instr.recordReceived .rul (2 ^ 48) [] 0).wf = false ∧ (Instr.recordReceived .rul 8 [(2 ^ 24, 0)] 0).wf = false ∧
    (Instr.recordReceived .rul 8 [(0, 2 ^ 32)] 0).wf = false := by decide
theorem test_wf_report : (Instr.reportFrame 0 1 0 0 true true 0 [0] []).wf = false ∧
    (Instr.reportFrame 0 1 0 0 true true 0 [2 ^ 32] [0]).wf = false ∧
    (Instr.reportFrame 0 1 0 0 true true 0 [0] [2 ^ 160]).wf = false := by decide
theorem test_wf_agreement : (Instr.keyAgreement 1 0 [2 ^ 13]).wf = false ∧ (Instr.inputAgreement 1 0 [64] 0 []).wf = false ∧
    (Instr.inputAgreement 1 0 [] 0 [(64, 0)]).wf = false := by decide
theorem test_wf_write : (Instr.mgmtWriteRequest 0 good 0 0 0 [] none).wf = false ∧
    (Instr.mgmtWriteRequest 0 good 0 0 0 (List.replicate 9 0) none).wf = false ∧ (Instr.mgmtReadResponse none 0 0 good []).wf = false := by decide
theorem test_wf_codeword : (Instr.codeword (.gl 0) (List.replicate 70 0) []).wf = false := by decide
theorem test_wf_fom : (Instr.fomRefresh (.gl 0) [0, 0, 0] [0, 0, 0, 0]).wf = false ∧
    (Instr.fomRefresh (.gl 0) [512, 0, 0, 0] [0, 0, 0, 0]).wf = false ∧ (Instr.fomRefresh (.gl 0) [0, 0, 0, 0] [1024, 0, 0, 0]).wf = false := by decide
theorem test_wf_thermal : (Instr.thermalSample false (-1024) 0).wf = true ∧ (Instr.thermalSample false 1024 0).wf = false := by decide
theorem test_wf_flash : (Instr.flashCommandDone (List.replicate 65 0)).wf = false := by decide

/-! ### Worked examples of the manual -/

/-- R285: encodings of the worked example, and of the canonical no-operation (R265). -/
theorem test_encodings : Enc.r 0x1D 7 5 6 0x001 = 0x002629DD ∧ Enc.r 0x1D 8 5 6 0x003 = 0x00662A1D ∧ Enc.a 0x1C 0 0 0 1 0x05 = 0x0A40001C ∧
    Enc.a 0x1C 0 5 6 1 0x04 = 0x0846281C ∧ Enc.a 0x1C 9 0 13 1 0x07 = 0x0E4D025C ∧ Enc.s 0x1E 3 4 0 0x4 = 0x400020DE ∧
    Enc.i 0x03 0 0 0 = 3 ∧ Enc.legal true 3 = true ∧ Enc.legal true 0 = false := by decide

/-- R285: the registers of the worked example. -/
def example285 : Core := (Core.reset.setReg 5 0xF4481770).setReg 6 0xE8900FA0

theorem test_vadd : (example285.vadd 7 5 6).reg 7 = 0xE0001FFF ∧ (example285.vadd 7 5 6).flags.q = true := by decide
theorem test_vmul : (example285.vmul 8 5 6).reg 8 = 0x08950B72 := by decide
theorem test_macv : (((example285.accw 1 0 0).macv 1 5 6).accrr 9 1 13).reg 9 = 5127 := by decide

/-- R41: the cell of the example runs ahead by 0.620 ns, in units of 1/13107200 ns, up to the units of its stamps. -/
theorem test_exchange : (exchangeOffset (200 * 65536) (690300 * 65536 / 1000) (900 * 65536) (1389 * 65536) 6 - 8126464).natAbs < 200 := by decide

/-- R416: the three eyes of lane HL7, and the trial step that is reverted. -/
theorem test_fom : figureOfMerit [-300, -100, 100, 300] [8, 9, 9, 7] = 31 ∧ figureOfMerit [-300, -100, 100, 300] [8, 9, 12, 7] = 22 := by decide

/-! ### Witnesses: the whole machine -/

theorem witness_EmptyQueueIdles : State.reset.pending = [] := rfl
theorem witness_StepKeepsInv : queued.Inv ∧ ∃ t, step queued = .next t :=
  ⟨⟨⟨rfl, rfl⟩, by intro c hc; simp [queued] at hc; subst hc; rfl⟩, _, rfl⟩
theorem witness_CommandsStayOnTheirParts : Part.gloesk ∉ Instr.lfrClear.site ∧ Part.stanak ∉ Instr.lfrClear.site ∧ Part.ihloon ∉ Instr.stkStart.site := by
  decide
theorem witness_RunsStayOnTheirParts : (∃ t, run 1 queued = .next t) ∧ (∀ c ∈ queued.pending, Part.gloesk ∉ c.site) ∧
    (∀ c ∈ queued.pending, Part.stanak ∉ c.site) ∧ ∀ c ∈ { State.reset with pending := [.stkStart] : State }.pending, Part.ihloon ∉ c.site :=
  ⟨⟨_, rfl⟩, by simp [queued, Instr.site], by simp [queued, Instr.site], by simp [Instr.site]⟩
theorem witness_HubSeesOnlyItsOwn : State.reset.sk = cellUp.sk ∧ State.reset.period = cellUp.period ∧ State.reset.tagLimit = cellUp.tagLimit ∧
    State.reset.gk.rd F.SEC_LIM_GCMF = cellUp.gk.rd F.SEC_LIM_GCMF ∧ (∃ t, exec .hubReset State.reset = .next t) ∧
    ∃ t, exec .hubReset cellUp = .next t := ⟨rfl, rfl, rfl, rfl, ⟨_, rfl⟩, _, rfl⟩
theorem witness_HeldBlocksDoNothing : Instr.stkStart.waitsForBlocks = true ∧ held.gk.blocksRun = false := by decide
theorem witness_FieldsReadBack : F.RUL_STATUS_SRC_ACT.lo + F.RUL_STATUS_SRC_ACT.wid ≤ 32 ∧ R.RUL_STATUS.at 0 ≠ R.RUL_ERRCNT.at 0 ∧
    (F.RUL_STATUS_SRC_ACT.lo + F.RUL_STATUS_SRC_ACT.wid ≤ F.RUL_STATUS_SET_REJ.lo ∨
      F.RUL_STATUS_SET_REJ.lo + F.RUL_STATUS_SET_REJ.wid ≤ F.RUL_STATUS_SRC_ACT.lo) := by decide
theorem witness_MemoryReadsBack : Memory.wf [] = true ∧ (0 : Nat) < 1 := by decide

/-! ### Witnesses: completion -/

theorem witness_blocksRun : State.reset.gk.blocksRun = true := rfl
theorem witness_LoopCommandsComplete : ∀ op ∈ List.range 64, (loopAt op).gk.laneAt 0 windowZero laneZero 0 op ∧ (loopAt op).gk.blocksRun = true := by
  unfold Gloesk.laneAt; decide
theorem witness_coreAt : ∀ w ∈ [Enc.r 0x00 1 2 3 0x001, Enc.r 0x1D 31 31 31 0x00A, Enc.i 0x0D 1 2 0xFFFF, Enc.a 0x1C 9 0 47 7 0x07, Enc.s 0x1E 0 0 0 0xA,
    Enc.s 0x1E 0 0 0 0xB, Enc.s 0x1E 3 4 0 0x5, Enc.m 0x1F 1 2 3 3 0x1, Enc.m 0x1F 1 0 0 3 0x3], (quillAt w).gk.coreAt 0 w := by
  unfold Gloesk.coreAt; decide
theorem witness_cellCoreAt : ∀ w ∈ [Enc.r 0x00 1 2 3 0x001, Enc.r 0x00 31 31 0 0x022, Enc.i 0x0D 1 2 0xFFFF, Enc.s 0x1E 3 4 0 0x4, Enc.s 0x1E 0 0 0 0xF],
    (cellAt w).ih.coreAt w := by unfold Ihloon.coreAt; decide
theorem witness_QuillWaits : (∃ g, (quillAt 0).gk.waits 0 1 2 0 0 = some g) ∧ (∃ g, (quillAt 0).gk.waita 0 1 2 0 0 = some g) ∧
    (∃ g, (quillAt 0).gk.lock 0 1 2 0 = some g) ∧ (∃ g, (quillAt 0).gk.yieldRun 0 0 = some g) ∧ (∃ g, (quillAt 0).gk.exitRun 0 = some g) ∧
    (∃ g, ((quillAt 0).gk.fence 0).map (·.qnext 0) = some g) ∧ (∃ g, (quillAt 0).gk.move 0 1 2 3 0 true = some g) ∧
    (∃ g, (quillAt 0).gk.mvwait 0 1 0 = some g) := by
  refine ⟨?_, ?_, ?_, ?_, ?_, ?_, ?_, ?_⟩ <;> exact Option.isSome_iff_exists.1 rfl
theorem witness_linkOpen : linkedUp.gk.linkOpen (0 : Fin 64) = true ∧ linkedUp.gk.linkOpen 64 = true ∧ State.reset.gk.linkOpen 64 = false ∧
    linkedUp.sk.linkOpen (0 : Fin 2) = true ∧ linkedUp.sk.linkOpen (2 + (191 : Fin 192)) = true ∧ State.reset.sk.linkOpen 2 = false ∧
    linkedUp.gk.blocksRun = true := by decide
theorem witness_hears : linkedUp.sk.rd F.HLNK_LK_STAT_RXST (191 : Fin 192) = 3 ∧ linkedUp.sk.populated (191 : Fin 192) = true ∧
    good.recent linkedUp.sk.stroke = true ∧ (⟨true, true, none⟩ : LinkMsg).recent linkedUp.sk.stroke = false := by decide
theorem witness_mainRuns : cellUp.ih.mainRuns = true := rfl
theorem witness_populated : (sk (·.wr F.HUB_SLOT5_POP (2 ^ 31))).sk.populated (191 : Fin 192) = true := by decide
theorem witness_HostCommandsComplete : State.heldBlock 0x1FFFC = true ∧ State.heldBlock 0x20000 = false ∧ Gloesk.debugAt 0x20000 = none ∧
    (Gloesk.debugAt 0x100000).isSome = true ∧ (Gloesk.debugAt 0x4FFFFC).isSome = true := by decide

/-! ### Witnesses: results -/

theorem witness_AnnounceCarriesTheClockClass : ∀ st ∈ [0, 1, 2, 3, 4], ∀ b ∈ [true, false],
    let s := gk (fun g => { ((g.up F.PTP_CTRL_EN).wr F.PTP_P_CFG_ROLE 2 3).wr F.PTP_STATUS_STATE st with time := { g.time with holdExc := b } })
    s.gk.blocksRun = true ∧ s.gk.on F.PTP_CTRL_EN = true ∧ s.gk.rd F.PTP_P_CFG_ROLE (3 : Fin 4) = 2 ∧ s.gk.rd F.PTP_STATUS_STATE = st ∧
    s.gk.time.holdExc = b := by decide
theorem witness_PeriodWriteIsGuarded : State.reset.gk.running = false ∧ (gk (·.up F.STK_STATUS_RUN)).gk.running = true ∧
    1000000000 % 500 = 0 ∧ 1000000000 % 20000 = 0 ∧ 1000000000 % 501 ≠ 0 := by decide
theorem witness_ExchangeMovesTheHub : linkedUp.sk.linkOpen (0 : Fin 65) = true ∧ linkedUp.sk.follow.side = 0 ∧ linkedUp.sk.follow.locked = false ∧
    ({ State.reset.sk.follow with locked := true } : Follower).locked = true ∧ (1 : Fin 65).val ≠ State.reset.sk.follow.side := by decide
theorem witness_AngleWriteIsGuarded : State.reset.gk.running = false ∧ State.reset.gk.rd F.RUL_STATUS_SRC_ACT = 0 ∧
    (gk (·.up F.STK_STATUS_RUN)).gk.running = true ∧ (gk (·.wr F.RUL_STATUS_SRC_ACT 1)).gk.rd F.RUL_STATUS_SRC_ACT ≠ 0 := by decide
theorem witness_CancelDropsPendingRecords : Blk.lpe.idx ≠ Blk.rul.idx := by decide
theorem witness_LoopWordsWriteTheirLocal : laneZero.skip = 0 ∧ ∀ op ∈ [0x01, 0x02, 0x03, 0x09, 0x0A, 0x0C, 0x0D, 0x12, 0x32],
    (loopAt op).gk.laneAt 0 windowZero laneZero 0 op := by unfold Gloesk.laneAt; decide
theorem witness_OutClampsTheOutput : (loopAt 0x12).gk.rdS F.LPE_SLOT_YMIN_YMIN 0 ≤ (loopAt 0x12).gk.rdS F.LPE_SLOT_YMAX_YMAX 0 ∧
    0 < ({ laneZero with skip := 1 } : LaneState).skip := by decide
theorem witness_HoldOutJoinsTheShadow : (gk (·.up F.STK_STATUS_RUN)).gk.running = true ∧
    (gk (·.up F.STK_STATUS_RUN)).gk.stagedFull .rnk R.RNK_HOCMD.addr = false := by decide
theorem witness_InterlockBlocks : (let c := (ih (·.onIsl (fun i => { i with power := true }))).ih
    c.cell.isl.power = true ∧ c.fired = false) ∧
    (let c := (ih (fun c => (c.onIsl (fun i => { i with power := true })).up F.PRT_BYP_FIRED)).ih
     c.cell.isl.power = true ∧ c.fired = true) := by decide
theorem witness_IlockClearsOnlyDisabled : State.reset.ih.nibOn = false ∧ State.reset.ih.on F.PRT_STAT_ILOCK = false ∧
    (let c := (ih (fun c => (c.up F.NIB_STAT_EN_ACT).up F.PRT_STAT_ILOCK)).ih
     c.nibOn = true ∧ c.on F.PRT_STAT_ILOCK = true) := by decide
theorem witness_QuillIntegerResults : ∀ w ∈ [Enc.r 0x00 1 2 3 0x001, Enc.r 0x00 0 2 3 0x012, Enc.i 0x01 1 2 0x8000, Enc.i 0x05 1 0 0xFFFF],
    (cellAt w).ih.coreAt w := by unfold Ihloon.coreAt; decide
theorem witness_StoreWritesItsFourBytes : (∀ w ∈ [Enc.i 0x0D 1 1 0, Enc.i 0x0D 1 1 0xFFFF], (cellAt w).ih.coreAt w) ∧
    (cellAt 0).ih.cell.core.reg 1 % 4 = 0 ∧ (cellAt 0).ih.cell.core.reg 1 < 0x20000 ∧ ((cellAt 0).ih.cell.core.reg 1 + 2 ^ 32 - 1) % 4 ≠ 0 ∧
    bit (cellAt 0).ih.cell.core.xstat 0 = true := by unfold Ihloon.coreAt; decide
theorem witness_KillMakesATaskDormant : (gk (·.wr F.DUC_TASK_STAT_STATE 2 255)).gk.tstate (255 : Fin 256) ≠ 0 ∧ State.reset.gk.tstate 255 = 0 := by decide
theorem witness_LockTakesOnlyALegalLayout : (gk (·.up F.INK_STATUS_LOCKED)).gk.on F.INK_STATUS_LOCKED = true ∧
    State.reset.gk.on F.INK_STATUS_LOCKED = false := by decide
theorem witness_layoutIllegal : State.reset.gk.layoutOk (fun _ => 2 ^ 20) = false := by decide
theorem witness_RiseStampsTheSource : State.reset.sk.rd F.HBLT_SRC_STAT_CAUSE 127 = 0 ∧ cellUp.ih.rd F.CBLT_SRC_STAT_CAUSE 63 = 0 ∧
    (127 : Fin 512).val < 128 ∧ (63 : Fin 512).val < 64 ∧ (sk (·.wr F.HBLT_SRC_STAT_COUNT 65535 127)).sk.rd F.HBLT_SRC_STAT_COUNT 127 ≠ 0 := by decide
theorem witness_ClearNeedsACauseAtRest : State.reset.sk.rd F.HBLT_SRC_STAT_CAUSE 0 = 0 ∧
    (sk (·.wr F.HBLT_SRC_STAT_CAUSE 1 0)).sk.rd F.HBLT_SRC_STAT_CAUSE 0 ≠ 0 := by decide
theorem witness_FreeAndAbortReturnToIdle : (gk (·.wr F.FOL_F_STAT_STATE 4 7)).gk.rd F.FOL_F_STAT_STATE 7 = 4 ∧ (State.reset.gk.folio 7).streamed = none ∧
    State.reset.gk.rd F.FOL_F_STAT_STATE 7 ≠ 4 ∧ (0 : Fin 8) ≠ 7 := by decide
theorem witness_UplinkReceiverStates : ∀ st ∈ [0, 1, 2, 4, 5], (sk (·.wr F.HLAN_L_STAT_RXST st 1)).sk.rd F.HLAN_L_STAT_RXST (1 : Fin 2) = st := by decide
theorem witness_pilots : LineRx.ofPilots (pilots false) = some LineRx.reset ∧ LineRx.ofPilots [] = none := by decide
theorem witness_ProvisioningOnlyInBlank : State.reset.sk.trust.lcs ≠ 0 ∧ (sk (·.onTrust (fun p => { p with lcs := 0 }))).sk.trust.lcs = 0 ∧
    cellUp.ih.trust.lcs ≠ 0 ∧ ({ cellUp.ih.trust with lcs := 0 } : PartSec).lcs = 0 := by decide
theorem witness_DoorbellSendsVectorFive : bit State.reset.gk.hst.msixMask 5 = true ∧ bit ({ State.reset.gk.hst with msixMask := 0 } : HostState).msixMask 5 = false := by
  decide
theorem witness_WordsMapOntoStates : State.reset.ih.rd F.NIB_CTRL_TYPE = 0 ∧ (ih (·.up F.NIB_CTRL_TYPE)).ih.rd F.NIB_CTRL_TYPE = 1 ∧ (3999 : Nat) < 4000 ∧
    (4000 : Nat) ≤ 4000 := by decide

end Sys2Proof.Tests
end

section
/-!
PROOFS. The scope chapter (R4-R6, R13): registers and fields read back what was written, and what every part holds right
after reset.
-/

namespace Sys2Proof.Machine

/-! ### The field tables -/

/-- The field table of the Gloesk, block by block. -/
theorem FieldList.gloesk_fits_word : ∀ f ∈ FieldList.gloesk, f.lo + f.wid ≤ 32 := by
  simp only [FieldList.gloesk, List.forall_mem_append]
  and_intros <;> decide

/-- The field table of the Stanak, block by block. -/
theorem FieldList.stanak_fits_word : ∀ f ∈ FieldList.stanak, f.lo + f.wid ≤ 32 := by
  simp only [FieldList.stanak, List.forall_mem_append]
  and_intros <;> decide

/-- The field table of the Ihloon, block by block. -/
theorem FieldList.ihloon_fits_word : ∀ f ∈ FieldList.ihloon, f.lo + f.wid ≤ 32 := by
  simp only [FieldList.ihloon, List.forall_mem_append]
  and_intros <;> decide

/-- Settles O11: the write rules of one field (R4, R6) and the three field tables. -/
theorem fieldsReadBack : Obligations.FieldsReadBack := by
  refine ⟨fun rf f v i hf => ⟨?same, ?saturates, ?otherRegister, ?otherBits⟩, ?tables⟩
  case same => exact RegFile.fld_setFld_same rf f v i hf
  case saturates => exact RegFile.fld_addSat_same rf f v i hf
  case otherRegister => exact fun e j hreg => RegFile.fld_setFld_other rf f e v i j hreg
  case otherBits => exact fun e hreg he hbits => RegFile.fld_setFld_disjoint rf f e v i hreg he hbits
  case tables =>
    simp only [List.forall_mem_append]
    exact ⟨⟨FieldList.gloesk_fits_word, FieldList.stanak_fits_word⟩, FieldList.ihloon_fits_word⟩

/-! ### Reset -/

/-- A register file that lists nothing holds the reset value of every register (R4). -/
@[simp] theorem RegFile.reg_nil (r : Reg) (i : Nat) : RegFile.reg [] r i = r.reset i := Tab.get_nil _ _

/-- The full part number keeps the reset values of the register tables; the GK-9632 differs in its device ID (R1). -/
theorem Gloesk.reg_reset_gk9664 (r : Reg) (i : Nat) : (Gloesk.reset .gk9664).reg r i = (r.reset i).toNat :=
  congrArg BitVec.toNat (RegFile.reg_nil r i)

theorem Stanak.reg_reset (r : Reg) (i : Nat) : Stanak.reset.reg r i = (r.reset i).toNat :=
  congrArg BitVec.toNat (RegFile.reg_nil r i)

theorem Ihloon.reg_reset (r : Reg) (i : Nat) : Ihloon.reset.reg r i = (r.reset i).toNat :=
  congrArg BitVec.toNat (RegFile.reg_nil r i)

/-- Under the empty station map the arm of every cell is 15, which is no arm (R13, log entry 7). -/
theorem Gloesk.armOf_reset (v : Variant) (x : Nat) : (Gloesk.reset v).armOf x = 15 := Tab.get_nil _ _

theorem Gloesk.assigned_reset (v : Variant) (x : Nat) : (Gloesk.reset v).assigned x = false := by
  simp [Gloesk.assigned, Gloesk.armOf_reset]

/-- Inkwell holds no written byte (log entry 2). -/
theorem Gloesk.byte_reset (v : Variant) (a : Nat) : Memory.byte (Gloesk.reset v).ink.mem a = Memory.blank := Tab.get_nil _ _

/-- With no command waiting, every command that waits is well-formed. -/
theorem State.queueOk_of_pending_nil {s : State} (h : s.pending = []) : s.queueOk := by
  simp [State.queueOk, h]

/-- The invariant holds at reset: nothing waits for another step, and the queue is empty. -/
theorem State.reset_inv : State.reset.Inv := ⟨⟨rfl, rfl⟩, State.queueOk_of_pending_nil rfl⟩

/-- Settles O3, part by part: the register files (R4), the station map (R13), the memory, and what each part has sent. -/
theorem resetLeavesResetValues : Obligations.ResetLeavesResetValues := by
  refine ⟨State.reset_inv, rfl, ?gloesk, ?stanak, ?ihloon, ?map, ?memory, rfl, rfl, rfl⟩
  case gloesk => exact Gloesk.reg_reset_gk9664
  case stanak => exact Stanak.reg_reset
  case ihloon => exact Ihloon.reg_reset
  case map => exact Gloesk.assigned_reset .gk9664
  case memory => exact Gloesk.byte_reset .gk9664

end Sys2Proof.Machine
end

section
/-!
PROOFS. Station time (R28, R29, R35, R41, R42, R435): what a command makes of the hub, the clockClass of an Announce, the
guard of PTP_PERIOD, and what a time exchange does to the hub.
-/

namespace Sys2Proof.Machine

/-! ### What the hub depends on -/

/-- Every command has one function of the hub and four values outside it that gives the hub afterwards: the command's own
function where it acts on the hub, the identity where it acts elsewhere. -/
theorem Way.hub_function {c : Instr} (w : Way c) : ∃ f : Nat → Nat → Nat → Int → Stanak → Stanak, ∀ s : State,
    ∃ t, exec c s = .next t ∧
      t.sk = f s.period s.tagLimit (s.gk.rd F.SEC_LIM_GCMF) (s.gk.laneAsym s.sk.lane) s.sk := by
  cases w with
  | sk _ w =>
    obtain ⟨f, hf⟩ := w
    exact ⟨f, fun s => ⟨_, hf s, rfl⟩⟩
  | gk _ w =>
    refine ⟨fun _ _ _ _ => id, fun s => ?_⟩
    obtain ⟨_, h⟩ | ⟨-, _, h⟩ := w s
    · exact ⟨_, h, rfl⟩
    · exact ⟨_, h, rfl⟩
  | ih _ w =>
    refine ⟨fun _ _ _ _ => id, fun s => ?_⟩
    obtain ⟨_, h⟩ := w s
    exact ⟨_, h, rfl⟩
  | idle w => exact ⟨fun _ _ _ _ => id, fun s => ⟨s, w s, rfl⟩⟩
  | both _ _ w =>
    refine ⟨fun _ _ _ _ => id, fun s => ?_⟩
    obtain ⟨_, h⟩ | ⟨_, h⟩ := w s
    · exact ⟨_, h, rfl⟩
    · exact ⟨_, h, rfl⟩

/-- Settles O8: the function of `Way.hub_function` gets equal arguments from the two states. That hub and cell take period
and limits from the Gloesk is the model's reading (log entries 39 and 40). -/
theorem hubSeesOnlyItsOwn : Obligations.HubSeesOnlyItsOwn := by
  intro c s s' t t' hsk hperiod htag hgcm hasym h h'
  obtain ⟨f, hf⟩ := (way c).hub_function
  obtain ⟨u, hu, husk⟩ := hf s
  obtain ⟨u', hu', husk'⟩ := hf s'
  cases hu.symm.trans h
  cases hu'.symm.trans h'
  rw [husk, husk', ← hsk, hperiod, htag, hgcm, hasym]

/-! ### PTP of the Gloesk -/

namespace Gloesk

/-- A field of the Gloesk after a write of it. -/
theorem rd_wr_same (g : Gloesk) (f : Fld) (v i : Nat) (hf : f.lo + f.wid ≤ 32) : (g.wr f v i).rd f i = v % 2 ^ f.wid :=
  RegFile.fld_setFld_same _ _ _ _ hf

/-- A counter leaves the fields of other registers. -/
theorem rd_inc_far (g : Gloesk) (f e : Fld) (n i j : Nat) (h : e.reg.at j ≠ f.reg.at i) : (g.inc f i n).rd e j = g.rd e j :=
  RegFile.fld_addSat_other _ _ _ _ _ _ h

/-! The rows of R35's table. -/

theorem clockClass_locked (g : Gloesk) (h : g.servoState = stLocked) : g.clockClass = g.time.gmClass := by
  simp [clockClass, h]

theorem clockClass_holdover (g : Gloesk) (h : g.servoState = stHoldover) :
    g.clockClass = if g.time.holdExc then 52 else 7 := by
  simp [clockClass, h, stHoldover, stLocked]

theorem clockClass_suspect (g : Gloesk) (h : g.servoState = stSuspect) : g.clockClass = 52 := by
  simp [clockClass, h, stSuspect, stHoldover, stLocked]

theorem clockClass_unsynchronised (g : Gloesk) (h : g.servoState = stFree ∨ g.servoState = stAcquire) :
    g.clockClass = 255 := by
  rcases h with h | h <;> simp [clockClass, h, stFree, stAcquire, stFollow, stSuspect, stHoldover, stLocked]

theorem announceTransmit_master (g : Gloesk) (port : Nat) (hen : g.on F.PTP_CTRL_EN = true)
    (hrole : g.rd F.PTP_P_CFG_ROLE port = 2) : g.announceTransmit port =
      (g.send .ptpAnnounce [port, g.seqOf (4 + port), g.clockClass, g.reg R.PTP_UTC]).seqNext (4 + port) 65536 := by
  simp [announceTransmit, hen, hrole]

theorem periodLegal_iff (t : Nat) : periodLegal t = true ↔ 500 ≤ t ∧ t ≤ 20000 ∧ 1000000000 % t = 0 := by
  simp [periodLegal, and_assoc]

/-- A legal period fits the 15 bits of its field. -/
theorem period_periodWrite_legal (g : Gloesk) (t : Nat) (hrun : g.running = false) (ht : periodLegal t = true) :
    (g.periodWrite t).period = t := by
  have hw : g.periodWrite t = (g.wr F.PTP_PERIOD_PERIOD t).syncStroke := by simp [periodWrite, hrun, ht]
  have hmax := ((periodLegal_iff t).1 ht).2.1
  calc (g.periodWrite t).period
    _ = (g.wr F.PTP_PERIOD_PERIOD t).rd F.PTP_PERIOD_PERIOD := by rw [hw]; rfl
    _ = t % 2 ^ 15 := rd_wr_same g F.PTP_PERIOD_PERIOD t 0 (by decide)
    _ = t := Nat.mod_eq_of_lt (by omega)

theorem periodWrite_refused (g : Gloesk) (t : Nat) (h : g.running = true ∨ periodLegal t = false) :
    g.periodWrite t = g.inc F.PTP_ERRCNT_REJ := by
  rcases h with h | h <;> simp [periodWrite, h]

end Gloesk

/-- Settles O33: the Announce of a master port, and R35's table row by row. -/
theorem announceCarriesTheClockClass : Obligations.AnnounceCarriesTheClockClass := by
  intro s port hblocks hen hrole
  refine ⟨s.gk.clockClass, ?sent, ?locked, ?within, ?after, ?suspect, ?unsynchronised⟩
  case sent =>
    rw [← Gloesk.announceTransmit_master s.gk port hen hrole]
    exact congrArg Host.Outcome.next (s.onG_run hblocks _)
  case locked => exact s.gk.clockClass_locked
  case within => exact fun h hexc => by rw [s.gk.clockClass_holdover h, hexc]; rfl
  case after => exact fun h hexc => by rw [s.gk.clockClass_holdover h, hexc]; rfl
  case suspect => exact s.gk.clockClass_suspect
  case unsynchronised => exact s.gk.clockClass_unsynchronised

/-- Settles O34: both cases of the guard (R28, R29). -/
theorem periodWriteIsGuarded : Obligations.PeriodWriteIsGuarded := by
  intro s v hblocks
  refine ⟨s.gk.periodWrite v.toNat, congrArg Host.Outcome.next (s.onG_run hblocks _), ?accepted, ?refused⟩
  case accepted =>
    rintro ⟨hrun, hlegal⟩
    exact s.gk.period_periodWrite_legal _ hrun ((Gloesk.periodLegal_iff _).2 hlegal)
  case refused =>
    intro h
    have hbad : s.gk.running = true ∨ Gloesk.periodLegal v.toNat = false := by
      refine h.imp_right fun h => ?_
      rw [← Bool.not_eq_true, Gloesk.periodLegal_iff]
      omega
    have hrej := s.gk.periodWrite_refused _ hbad
    refine ⟨?_, hrej⟩
    rw [hrej]
    exact Gloesk.rd_inc_far s.gk F.PTP_ERRCNT_REJ F.PTP_PERIOD_PERIOD 1 0 0 (by decide)

/-! ### Time exchanges of the hub -/

/-- In a stroke a follower moves by its phase, limited on both sides, and what it moves by is taken off the phase (R41). -/
theorem Follower.slewStroke_spec (f : Follower) (l : FollowLimits) :
    (f.slewStroke l).applied + (f.slewStroke l).phase = f.applied + f.phase ∧
    ((f.slewStroke l).applied - f.applied).natAbs = min f.phase.natAbs l.slew ∧
    (f.slewStroke l).locked = f.locked ∧ (f.slewStroke l).side = f.side := by
  have hclamp : (clampI (-(l.slew : Int)) l.slew f.phase).natAbs = min f.phase.natAbs l.slew := by
    unfold clampI
    split_ifs <;> omega
  refine ⟨?sum, ?step, rfl, rfl⟩
  case sum => simp only [slewStroke]; omega
  case step => simpa [slewStroke] using hclamp

/-- R41's offset, doubled: the halved delay and the asymmetry without a division. -/
theorem two_mul_exchangeOffset (t1 t2 t3 t4 a : Int) : 2 * exchangeOffset t1 t2 t3 t4 a =
    400 * (t2 - t1) - 200 * ((t4 - t1) - (t3 - t2)) - 131072 * a := by
  unfold exchangeOffset
  ring

namespace Stanak

theorem rest_follow (h : Stanak) : h.rest.follow = h.follow := rfl

/-- A source's level changes nothing of the hub's follower. -/
@[simp] theorem level_follow (h : Stanak) (n : Nat) (x : Bool) : (h.level n x).follow = h.follow := by
  rw [← rest_follow, rest_level, rest_follow]

@[simp] theorem frameSeen_follow (h : Stanak) (u : Nat) : (h.frameSeen u).follow = h.follow := by
  rw [frameSeen, ← rest_follow, rest_lower]
  rfl

/-- A frame that is sent, kept for later or dropped changes nothing of the hub's follower. -/
@[simp] theorem frame_follow (h : Stanak) (u typ stroke nslot : Nat) (secs : List (List (Nat × Nat))) :
    (h.frame u typ stroke nslot secs).follow = h.follow := by
  unfold frame
  dsimp only
  split <;> rfl

theorem timeExchange_follow (h : Stanak) (u : Nat) (ofs : Int) :
    (h.timeExchange u ofs).follow = h.follow.exchange stanakLimits u ofs := by
  unfold timeExchange
  dsimp only
  split
  · rfl
  · exact level_follow _ _ _

/-- A marker gives the follower its exchange; answering it changes nothing more there (log entry 31). -/
theorem timeFrame_marker_follow (h : Stanak) (u seq : Nat) (t1 t2 t3 t4 a : Int) :
    (h.timeFrame u false seq t1 t2 t3 t4 a).follow = h.follow.exchange stanakLimits u (exchangeOffset t1 t2 t3 t4 a) := by
  simp only [timeFrame, Bool.false_eq_true, if_false, timeExchange_follow, frame_follow, frameSeen_follow]

end Stanak

/-- A marker over an open uplink of the hub is the hub's own step alone, with the asymmetry of its lane (R41, R42). -/
theorem State.exec_timeFrame_uplink (s : State) (u : Fin 65) (twin : Fin 2) (claim : Fin 65536) (reply : Bool)
    (seq : Fin 256) (t1 t2 t3 t4 : Int) (hu : u.val < 2) (hopen : s.sk.linkOpen u = true) :
    exec (.timeFrameReceived .stanak u twin claim reply seq t1 t2 t3 t4) s =
      .next (s.skNext (s.sk.timeFrame u reply seq t1 t2 t3 t4 (s.gk.laneAsym s.sk.lane))) :=
  congrArg Host.Outcome.next ((if_pos hu).trans ((s.onH_linked _ _).1 hopen))

/-- Settles O35: the slew is `Follower.slewStroke_spec`; the exchange is `Follower.exchange_spec` at the offset of R41. That
one command at the follower completes the exchange is the model's choice (log entry 31). -/
theorem exchangeMovesTheHub : Obligations.ExchangeMovesTheHub := by
  refine ⟨Follower.slewStroke_spec, fun s u twin claim seq t1 t2 t3 t4 hu hopen => ?_⟩
  refine ⟨_, s.exec_timeFrame_uplink u twin claim false seq t1 t2 t3 t4 hu hopen, rfl, rfl, ?_⟩
  rw [State.skNext_sk, Stanak.timeFrame_marker_follow, ← two_mul_exchangeOffset]
  obtain ⟨hother, hunlocked, hlocked⟩ := s.sk.follow.exchange_spec stanakLimits u.val
    (exchangeOffset t1 t2 t3 t4 (s.gk.laneAsym s.sk.lane))
  refine ⟨fun hside hl => ?unlocked, fun hside hl => ?locked, hother⟩
  case unlocked =>
    obtain ⟨happlied, hphase⟩ := hunlocked hside hl
    exact ⟨by rw [happlied, mul_add], hphase⟩
  case locked =>
    obtain ⟨happlied, hphase⟩ := hlocked hside hl
    exact ⟨happlied, by rw [hphase]⟩

end Sys2Proof.Machine
end

section
/-!
PROOFS. The Ruling and its staging (R47, R50, R53, R162): what a fabric clock adds, when the angle loads, and what a cancel
and a queued command do to a block's records.
-/

namespace Sys2Proof.Machine

/-- Two's complement encodings add modulo their width. -/
theorem ofS_add (w : Nat) (x y : Int) : ofS w (x + y) = (ofS w x + ofS w y) % 2 ^ w := by
  have hpos : (0 : Int) < ((2 ^ w : Nat) : Int) := by positivity
  zify
  simp only [ofS, Int.toNat_of_nonneg (Int.emod_nonneg _ hpos.ne')]
  push_cast
  exact Int.add_emod x y _

namespace Gloesk

/-! ### The angle (R50) -/

theorem angleWrite_loads (g : Gloesk) (v : Word) (hrun : g.running = false) (hsrc : g.srcAct = 0) :
    g.angleWrite v.toNat = { g with rul := { g.rul with acc := (v.toNat : Int) * 2 ^ 32 } } := by
  simp [angleWrite, hrun, hsrc, Nat.mod_eq_of_lt v.isLt]

theorem angleWrite_refused (g : Gloesk) (v : Nat) (h : g.running = true ∨ g.srcAct ≠ 0) :
    g.angleWrite v = (g.up F.RUL_STATUS_SET_REJ).inc F.RUL_ERRCNT_REJ := by
  rcases h with h | h <;> simp [angleWrite, h]

/-- Loaded or refused, a write of the angle moves neither time nor velocity. -/
theorem angleWrite_frame (g : Gloesk) (v : Nat) :
    (g.angleWrite v).time = g.time ∧ (g.angleWrite v).rul.vel = g.rul.vel := by
  unfold angleWrite
  split <;> exact ⟨rfl, rfl⟩

/-! ### Records (R53) -/

/-- What two states share that staging does not tell apart. -/
theorem unstaged_shared {g h : Gloesk} (e : g.unstaged = h.unstaged) :
    g.time = h.time ∧ g.rul = h.rul ∧ g.rank = h.rank ∧ g.svi = h.svi ∧ g.lpe = h.lpe := by
  simpa only [unstaged, Prod.mk.injEq] using e

/-- Forgetting bundle slots leaves the staging of every block. -/
@[simp] theorem stagedOf_dropPend (g : Gloesk) (rs : List StagedRec) (b : Blk) :
    (g.dropPend rs).stagedOf b = g.stagedOf b := rfl

@[simp] theorem unstaged_dropPend (g : Gloesk) (rs : List StagedRec) : (g.dropPend rs).unstaged = g.unstaged := rfl

theorem stagedOf_recordCancel_same (g : Gloesk) (b : Blk) : (g.recordCancel b).stagedOf b =
    { g.stagedOf b with pending := (g.stagedOf b).pending.filter (·.exchanged) } := by
  rw [recordCancel, stagedOf_dropPend, stagedOf_onStaged_same]

theorem stagedOf_recordCancel_other (g : Gloesk) (b b' : Blk) (h : b'.idx ≠ b.idx) :
    (g.recordCancel b).stagedOf b' = g.stagedOf b' := by
  rw [recordCancel, stagedOf_dropPend, stagedOf_onStaged_other g b b' _ h]

@[simp] theorem unstaged_recordCancel (g : Gloesk) (b : Blk) : (g.recordCancel b).unstaged = g.unstaged := by
  rw [recordCancel, unstaged_dropPend, unstaged_onStaged]

/-- While the stroke cycle runs, a write or command of a block other than RUL and STK joins the block's shadow set if that
has room (R53 item 1). -/
theorem stagedWrite_joins (g : Gloesk) (b : Blk) (a v : Nat) (hrul : b ≠ .rul) (hstk : b ≠ .stk)
    (henc : a ≠ R.RUL_ENC_CFG.addr ∧ a ≠ R.RUL_ENC_CFG.at 1) (hrun : g.running = true)
    (hroom : g.stagedFull b a = false) :
    g.stagedWrite b a v = g.onStaged b (fun s => { s with shadow := s.shadow ++ [(a, v)] }) := by
  simp [stagedWrite, hrul, hstk, henc, hrun, hroom]

/-- A command of RNK_HOCMD while the stroke cycle runs and the shadow set has room (R53, R162). -/
theorem holdCommand_joins (g : Gloesk) (v : Nat) (hrun : g.running = true)
    (hroom : g.stagedFull .rnk R.RNK_HOCMD.addr = false) :
    ((g.stagedWrite .rnk R.RNK_HOCMD.addr v).stagedOf .rnk).shadow =
      (g.stagedOf .rnk).shadow ++ [(R.RNK_HOCMD.addr, v)] ∧
    (g.stagedWrite .rnk R.RNK_HOCMD.addr v).unstaged = g.unstaged := by
  rw [g.stagedWrite_joins .rnk R.RNK_HOCMD.addr v (by decide) (by decide) (by decide) hrun hroom]
  exact ⟨by rw [stagedOf_onStaged_same], unstaged_onStaged g .rnk _⟩

end Gloesk

/-- Settles O36: the parts that the compare channels leave alone hold what R47 gives. -/
theorem clockAddsTheVelocity : Obligations.ClockAddsTheVelocity := by
  intro s hblocks
  refine ⟨_, congrArg Host.Outcome.next (s.onG_run hblocks _), State.gkNext_sk _ _, State.gkNext_ih _ _, ?_⟩
  have hkeep := s.gk.clockKeep_fabricClock
  simp only [Gloesk.clockKeep, Prod.mk.injEq] at hkeep
  obtain ⟨htime, hlpe, hsvi, hacc, hvel⟩ := hkeep
  rw [State.gkNext_gk, Gloesk.finish_rul, Gloesk.finish_time, Gloesk.finish_lpe, Gloesk.finish_svi, hacc]
  exact ⟨ofS_add 64 _ _, hvel, htime, hlpe, hsvi⟩

/-- Settles O37: both cases of the guard (R50). -/
theorem angleWriteIsGuarded : Obligations.AngleWriteIsGuarded := by
  intro s v hblocks
  refine ⟨s.gkNext (s.gk.angleWrite v.toNat), congrArg Host.Outcome.next (s.onG_run hblocks _), ?_⟩
  rw [State.gkNext_gk, Gloesk.finish_time, Gloesk.finish_rul]
  obtain ⟨htime, hvel⟩ := s.gk.angleWrite_frame v.toNat
  refine ⟨htime, hvel, State.gkNext_sk _ _, State.gkNext_ih _ _, fun hrun hsrc => ?loads, fun h => ?refused⟩
  case loads => rw [s.gk.angleWrite_loads v hrun hsrc]
  case refused =>
    rw [s.gk.angleWrite_refused v.toNat h]
    exact ⟨rfl, rfl⟩

/-- Settles O38: the staging of the block and of the others after the cancel (R53 item 7). That a block may hold several
pending records is the model's choice (log entry 43). -/
theorem cancelDropsPendingRecords : Obligations.CancelDropsPendingRecords := by
  intro s b hblocks
  refine ⟨_, congrArg Host.Outcome.next (s.onG_run hblocks _), ?_⟩
  obtain ⟨htime, hrul, -⟩ := Gloesk.unstaged_shared (s.gk.unstaged_recordCancel b)
  simp only [State.gkNext_gk, Gloesk.stagedOf_finish, Gloesk.stagedOf_recordCancel_same, Gloesk.finish_time,
    Gloesk.finish_rul, true_and]
  exact ⟨s.gk.stagedOf_recordCancel_other b, htime, hrul⟩

/-- Settles O42: ACT 1 and ACT 2 of RNK_HOCMD (R162) are one kind of command to the staging. -/
theorem holdOutJoinsTheShadow : Obligations.HoldOutJoinsTheShadow := by
  intro s x hblocks hrun hroom
  obtain ⟨hout, houtKeep⟩ := s.gk.holdCommand_joins (x.val + 2 ^ 16) hrun hroom
  obtain ⟨hret, hretKeep⟩ := s.gk.holdCommand_joins (x.val + 2 ^ 17) hrun hroom
  obtain ⟨houtTime, -, houtRank, -⟩ := Gloesk.unstaged_shared houtKeep
  obtain ⟨hretTime, -, hretRank, -⟩ := Gloesk.unstaged_shared hretKeep
  refine ⟨_, _, congrArg Host.Outcome.next (s.onG_run hblocks _), congrArg Host.Outcome.next (s.onG_run hblocks _), ?_⟩
  simp only [State.gkNext_gk, Gloesk.stagedOf_finish, Gloesk.finish_rank, Gloesk.finish_time]
  exact ⟨hout, hret, houtRank, hretRank, houtTime, hretTime⟩

end Sys2Proof.Machine
end

section
/-!
PROOFS. The words of a loop lane (R102, R103, R107, R108, R114): what a word that computes from its operands leaves in the
slot's local, and what OUT leaves as the computed output.
-/

namespace Sys2Proof.Machine

/-- What two states share that agree on what the words of a lane read and write. -/
theorem Gloesk.loopKeep_shared {g h : Gloesk} (e : g.loopKeep = h.loopKeep) :
    g.lpe.prog = h.lpe.prog ∧ g.lpe.coef = h.lpe.coef ∧ g.lpe.buffer = h.lpe.buffer ∧ g.lpe.locals = h.lpe.locals ∧
    g.lpe.yc = h.lpe.yc ∧ g.time = h.time ∧ g.rul = h.rul := by
  simpa only [Gloesk.loopKeep, Prod.mk.injEq] using e

/-- Where a lane is at a word of an opcode, the command of that opcode executes the word. -/
theorem State.onG_laneNext (s : State) {lane : Nat} {win : LoopWindow} {ln : LaneState} {n op : Nat}
    (hblocks : s.gk.blocksRun = true) (h : s.gk.laneAt lane win ln n op) :
    s.onG (·.laneNext lane (· == op)) = s.gkNext (s.gk.laneStep win lane ln n) :=
  (s.onG_run hblocks _).trans (congrArg s.gkNext (s.gk.laneNext_at lane win ln n op h))

/-! ### Words that write their local -/

namespace Gloesk

/-- The loop word at the place of a lane in slot `n`, by its fields (R102). -/
abbrev laneWord (g : Gloesk) (ln : LaneState) (n : Nat) : LoopWord :=
  loopFields (g.loopWordAt (g.rd F.LPE_SLOT_CFG0_START n + ln.pc))

theorem laneWord_op {g : Gloesk} {lane : Nat} {win : LoopWindow} {ln : LaneState} {n op : Nat}
    (h : g.laneAt lane win ln n op) : (g.laneWord ln n).op = op := h.2.2.2

theorem get_locals_setLoc (g : Gloesk) (n d : Nat) (v : Int) (j : Nat) :
    Tab.get 0 (g.setLoc n d v).lpe.locals j = if j = n * 16 + d then BitVec.ofInt 32 v else Tab.get 0 g.lpe.locals j := by
  split
  case isTrue h =>
    subst h
    exact Tab.get_set_same _ _ _ _
  case isFalse h => exact Tab.get_set_other _ _ _ _ _ _ h

/-- A word that executes and has a result writes it, saturated, to its local (R103, R107). -/
theorem laneStep_keep_of_result (g : Gloesk) (win : LoopWindow) (lane : Nat) (ln : LaneState) (n : Nat) (x : Int × Bool)
    (hskip : ln.skip = 0) (hop : (g.laneWord ln n).op ≠ 0x12) (hx : (g.wordResult win ln n (g.laneWord ln n)).1 = some x) :
    (g.laneStep win lane ln n).loopKeep =
      (g.setLoc n (g.laneWord ln n).d (satS (g.laneWord ln n).w x.1)).loopKeep := by
  have hd : g.delivers win ln n = some x := by simpa [delivers, hskip] using hx
  rw [laneStep_keep, hd]
  exact if_neg hop

end Gloesk

/-- What a command of the lane leaves where the row of its opcode in R103's table computes `x`: local D of the
slot holds `x` saturated at the width of D, and every other local, the program, the inputs and the other parts
stay (R102, R103, R107). -/
theorem State.loopWord_writes_local (s : State) {c : Instr} {lane : Nat} {win : LoopWindow} {ln : LaneState} {n op : Nat}
    {x : Int} (hblocks : s.gk.blocksRun = true) (hskip : ln.skip = 0)
    (hexec : exec c s = .next (s.onG (·.laneNext lane (· == op)))) (hop : op ≠ 0x12)
    (hrow : (s.gk.wordResult win ln n { s.gk.laneWord ln n with op := op }).1 = some (x, false))
    (hat : s.gk.laneAt lane win ln n op) :
    ∃ t, exec c s = .next t ∧
      (∀ j, Tab.get 0 t.gk.lpe.locals j = if j = n * 16 + (s.gk.laneWord ln n).d
        then BitVec.ofInt 32 (satS (s.gk.laneWord ln n).w x) else Tab.get 0 s.gk.lpe.locals j) ∧
      t.gk.lpe.prog = s.gk.lpe.prog ∧ t.gk.lpe.coef = s.gk.lpe.coef ∧ t.gk.lpe.buffer = s.gk.lpe.buffer ∧
      t.gk.time = s.gk.time ∧ t.gk.rul = s.gk.rul ∧ t.sk = s.sk ∧ t.ih = s.ih := by
  have hword := Gloesk.laneWord_op hat
  rw [← hword] at hrow
  refine ⟨_, hexec.trans (congrArg Host.Outcome.next (s.onG_laneNext hblocks hat)), ?_⟩
  obtain ⟨hprog, hcoef, hbuffer, hlocals, -, htime, hrul⟩ := Gloesk.loopKeep_shared
    (s.gk.laneStep_keep_of_result win lane ln n (x, false) hskip (hword.trans_ne hop) hrow)
  rw [State.gkNext_gk, Gloesk.finish_lpe, Gloesk.finish_time, Gloesk.finish_rul, hlocals]
  exact ⟨Gloesk.get_locals_setLoc _ _ _ _, hprog, hcoef, hbuffer, htime, hrul, s.gkNext_sk _, s.gkNext_ih _⟩

/-- Settles O39: each of the seven words is `State.loopWord_writes_local` at its row of R103's table. -/
theorem loopWordsWriteTheirLocal : Obligations.LoopWordsWriteTheirLocal := by
  intro s lane win ln n hblocks hskip f a b
  simp only [List.forall_mem_cons, List.not_mem_nil, false_imp_iff, implies_true, and_true]
  -- The two `rfl` are the opcode that the command executes and the row of that opcode.
  refine ⟨?mov, ?add, ?sub, ?max, ?min, ?abs, ?neg⟩ <;>
    exact s.loopWord_writes_local hblocks hskip rfl (by decide) rfl

/-! ### OUT (R114) -/

theorem clampFree_eq_clampI (lo hi x : Int) (h : lo ≤ hi) : clampFree lo hi x = clampI lo hi x := if_neg h.not_gt

namespace Gloesk

/-- OUT writes the computed output of its slot; the clamp state is in registers. -/
theorem loopKeep_wordOut (g : Gloesk) (n : Nat) (a : Int) : (g.wordOut n a).loopKeep =
    (g.onLpe (fun l => { l with yc := Tab.set 0 l.yc n (BitVec.ofInt 32
      (clampFree (g.rdS F.LPE_SLOT_YMIN_YMIN n) (g.rdS F.LPE_SLOT_YMAX_YMAX n) a)) })).loopKeep :=
  loopKeep_wrSlotBit _ _ _ _ _

theorem wordOut_locals (g : Gloesk) (n : Nat) (a : Int) : (g.wordOut n a).lpe.locals = g.lpe.locals := by
  obtain ⟨-, -, -, hlocals, -⟩ := loopKeep_shared (g.loopKeep_wordOut n a)
  exact hlocals

theorem wordOut_yc (g : Gloesk) (n : Nat) (a : Int) : (g.wordOut n a).lpe.yc = Tab.set 0 g.lpe.yc n (BitVec.ofInt 32
    (clampFree (g.rdS F.LPE_SLOT_YMIN_YMIN n) (g.rdS F.LPE_SLOT_YMAX_YMAX n) a)) := by
  obtain ⟨-, -, -, -, hyc, -⟩ := loopKeep_shared (g.loopKeep_wordOut n a)
  exact hyc

/-- A lane at OUT leaves the slot's new output, or what stood there when the word is skipped (R108, R114). -/
theorem laneStep_keep_out (g : Gloesk) (win : LoopWindow) (lane : Nat) (ln : LaneState) (n : Nat)
    (hop : (g.laneWord ln n).op = 0x12) : (g.laneStep win lane ln n).loopKeep =
      (if 0 < ln.skip then g else g.wordOut n (g.operand win ln n (g.laneWord ln n).a)).loopKeep := by
  rw [laneStep_keep]
  exact if_pos hop

end Gloesk

/-- Settles O40: a skipped OUT leaves all of `Gloesk.loopKeep`; any other is `Gloesk.wordOut`. Where YMIN is above
YMAX the manual states no result (log entry 16). -/
theorem outClampsTheOutput : Obligations.OutClampsTheOutput := by
  intro s lane win ln n hblocks hat f lo hi
  refine ⟨_, congrArg Host.Outcome.next (s.onG_laneNext hblocks hat), ?_⟩
  obtain ⟨-, -, -, hlocals, hyc, -⟩ := Gloesk.loopKeep_shared
    (s.gk.laneStep_keep_out win lane ln n (Gloesk.laneWord_op hat))
  rw [State.gkNext_gk, Gloesk.finish_lpe, hlocals, hyc]
  by_cases hskip : 0 < ln.skip
  case pos =>
    rw [if_pos hskip]
    exact ⟨rfl, fun h => absurd h hskip.ne', fun _ _ => rfl, fun _ => rfl⟩
  case neg =>
    rw [if_neg hskip, Gloesk.wordOut_yc, Gloesk.wordOut_locals]
    refine ⟨rfl, fun _ hle => ?clamped, fun j hj => ?otherSlots, fun h => absurd h hskip⟩
    case clamped => rw [Tab.get_set_same, clampFree_eq_clampI _ _ _ hle]
    case otherSlots => exact Tab.get_set_other _ _ _ _ _ _ hj

end Sys2Proof.Machine
end

section
/-!
PROOFS. The status word of a Flourish table (R130): its fields, and that FST delivers it to the slot's local.
-/

namespace Sys2Proof.Machine

/-- A number of the layout of R130: five flags in its lowest bits and a 12-bit index at bit 16. -/
theorem bits_of_statusWord {v a b c d e i : Nat} (ha : a < 2) (hb : b < 2) (hc : c < 2) (hd : d < 2) (he : e < 2)
    (hi : i < 4096) (hv : v = a + 2 * b + 4 * c + 8 * d + 16 * e + i * 65536) :
    bits v 0 1 = a ∧ bits v 1 1 = b ∧ bits v 2 1 = c ∧ bits v 3 1 = d ∧ bits v 4 1 = e ∧ bits v 5 11 = 0 ∧
      bits v 16 12 = i ∧ v < 2 ^ 28 := by
  simp only [bits]
  refine ⟨?frozen, ?outside, ?hold, ?saturated, ?skipped, ?zeros, ?index, ?top⟩ <;> omega

theorem ite_flag_eq_mul_toNat (b : Bool) (n : Nat) : (if b then n else 0) = n * b.toNat := by
  cases b
  case false => rfl
  case true => exact (Nat.mul_one n).symm

namespace Gloesk

theorem rd_lt (g : Gloesk) (f : Fld) (i : Nat) : g.rd f i < 2 ^ f.wid := g.regs.fld_lt f i

/-- The fields of a table's status word, and its zeros (R130). -/
theorem bits_fst (g : Gloesk) (t : Nat) :
    bits (g.fst t) 0 1 = g.rd F.FLR_T_STAT_FROZEN t ∧ bits (g.fst t) 1 1 = g.rd F.FLR_T_STAT_WIN_OUT t ∧
      bits (g.fst t) 2 1 = g.rd F.FLR_T_CFG_HOLD t ∧ bits (g.fst t) 3 1 = (has g.flr.lastSat t).toNat ∧
      bits (g.fst t) 4 1 = (has g.flr.lastSkip t).toNat ∧ bits (g.fst t) 5 11 = 0 ∧
      bits (g.fst t) 16 12 = Tab.get 0 g.flr.idx t % 4096 ∧ g.fst t < 2 ^ 28 := by
  have hindex : Tab.get 0 g.flr.idx t % 4096 < 4096 := Nat.mod_lt _ (by decide)
  refine bits_of_statusWord (g.rd_lt _ t) (g.rd_lt _ t) (g.rd_lt _ t) (Bool.toNat_lt _) (Bool.toNat_lt _) hindex ?_
  simp only [fst, ite_flag_eq_mul_toNat]

end Gloesk

/-- Settles O41: FST computes `Gloesk.fst`, which `State.loopWord_writes_local` takes to local D and whose fields are
`Gloesk.bits_fst`. -/
theorem fstDeliversTheStatusWord : Obligations.FstDeliversTheStatusWord := by
  intro s lane win ln n hblocks hskip hat f tb
  -- The two `rfl` are the opcode that the command executes and the row of that opcode (R129).
  obtain ⟨t, hexec, hlocals, -⟩ :=
    s.loopWord_writes_local (c := .fst lane) (x := s.gk.fst tb) hblocks hskip rfl (by decide) rfl hat
  exact ⟨t, s.gk.fst tb, hexec, (hlocals _).trans (if_pos rfl), s.gk.bits_fst tb⟩

end Sys2Proof.Machine
end

section
/-!
PROOFS. The nib module and its protection (R194, R195, R201, R206, R211, R212): the edge lists of stroke words, what a disable
and the interlock leave of the module, and when the interlock latch clears.
-/

namespace Sys2Proof.Machine

namespace Ihloon

/-! ### Fields of the cell -/

theorem rd_lt (c : Ihloon) (f : Fld) (i : Nat) : c.rd f i < 2 ^ f.wid := c.regs.fld_lt f i

theorem rd_wr_same (c : Ihloon) (f : Fld) (v i : Nat) (hf : f.lo + f.wid ≤ 32) : (c.wr f v i).rd f i = v % 2 ^ f.wid :=
  RegFile.fld_setFld_same _ _ _ _ hf

/-- A write of a field leaves the fields at other bits of its register. -/
theorem rd_wr_disjoint (c : Ihloon) (f e : Fld) (v i : Nat) (hr : e.reg = f.reg) (he : e.lo + e.wid ≤ 32)
    (hd : e.lo + e.wid ≤ f.lo ∨ f.lo + f.wid ≤ e.lo) : (c.wr f v i).rd e i = c.rd e i :=
  RegFile.fld_setFld_disjoint _ _ _ _ _ hr he hd

theorem on_eq_false_iff (c : Ihloon) (f : Fld) (i : Nat) : c.on f i = false ↔ c.rd f i = 0 := bne_eq_false_iff_eq

/-- A bit is on where it reads 1. -/
theorem on_eq_true_iff (c : Ihloon) (f : Fld) (i : Nat) (hf : f.wid = 1) : c.on f i = true ↔ c.rd f i = 1 := by
  have hlt : c.rd f i < 2 := (c.rd_lt f i).trans_eq (congrArg (2 ^ ·) hf)
  rw [← Bool.not_eq_false, on_eq_false_iff]
  omega

/-! ### Edge lists (R194, R195, R200) -/

theorem insState_eq (c : Ihloon) (pol : Nat) :
    c.insState pol = if c.rd F.NIB_CTRL_TYPE = 1 ∧ pol = 1 then .ineg else .ip := by
  simp only [insState, Bool.and_eq_true, decide_eq_true_eq, on_eq_true_iff c F.NIB_CTRL_TYPE 0 rfl]

/-- The list of a carrier takes the zero state and the insertion state alone, of which CMP sets the order (R200). -/
theorem carrierList_states (c : Ihloon) (tq cmp pol : Nat) :
    ∀ x ∈ (c.carrierList tq cmp pol).1, x.2 = .z ∨ x.2 = c.insState pol := by
  unfold carrierList
  extract_lets i ton low bnd ctr w clamp
  have hbnd : bnd = .z ∨ bnd = i := ite_eq_or_eq _ _ _
  have hctr : ctr = .z ∨ ctr = i := (ite_eq_or_eq _ _ _).symm
  split
  case isTrue => exact List.forall_mem_singleton.2 hbnd
  case isFalse =>
    simp only [List.forall_mem_cons, List.not_mem_nil, false_imp_iff, implies_true, and_true]
    exact ⟨hbnd, hctr, hbnd⟩

/-! ### Disabling (R201) -/

/-- A write of EN = 0 leaves the module as `nibOff` does; the stage is a register of its own (R250). -/
theorem nibDisable_nib (c : Ihloon) (T tick : Nat) :
    (c.nibDisable T tick).cell.nib = (c.nibOff (c.instant T tick)).cell.nib := by
  unfold nibDisable
  dsimp only
  split <;> rfl

theorem rd_nibDisable (c : Ihloon) (T tick : Nat) (e : Fld) (j : Nat) (h : e.reg.at j ≠ F.RSV_STAT_STAGE.reg.at 0) :
    (c.nibDisable T tick).rd e j = (c.nibOff (c.instant T tick)).rd e j := by
  unfold nibDisable
  extract_lets c1
  split
  case isTrue => exact rd_wr_far c1 F.RSV_STAT_STAGE e 5 0 j h
  case isFalse => rfl

/-- EN_ACT shares its register with the state that `outputsOff` shows. -/
theorem rd_nibOff_enAct (c : Ihloon) (x : Int) : (c.nibOff x).rd F.NIB_STAT_EN_ACT = 0 :=
  (rd_wr_disjoint _ F.NIB_STAT_STATE F.NIB_STAT_EN_ACT _ 0 rfl (by decide) (by decide)).trans
    (rd_wr_same (c.wr F.NIB_CTRL_EN 0) F.NIB_STAT_EN_ACT 0 0 (by decide))

theorem rd_nibOff_en (c : Ihloon) (x : Int) : (c.nibOff x).rd F.NIB_CTRL_EN = 0 := by
  calc (c.nibOff x).rd F.NIB_CTRL_EN
    _ = ((c.wr F.NIB_CTRL_EN 0).wr F.NIB_STAT_EN_ACT 0).rd F.NIB_CTRL_EN :=
      rd_wr_far _ F.NIB_STAT_STATE F.NIB_CTRL_EN _ 0 0 (by decide)
    _ = (c.wr F.NIB_CTRL_EN 0).rd F.NIB_CTRL_EN := rd_wr_far _ F.NIB_STAT_EN_ACT F.NIB_CTRL_EN 0 0 0 (by decide)
    _ = 0 := rd_wr_same c F.NIB_CTRL_EN 0 0 (by decide)

/-! ### What protection shows and records -/

@[simp] theorem showPrt_nib (c : Ihloon) : c.showPrt.cell.nib = c.cell.nib :=
  (congrArg (fun d : Ihloon => d.cell.nib) (core0_showPrt c) :)

/-- ILOCK is none of the bits that the island shows. -/
@[simp] theorem rd_showPrt_ilock (c : Ihloon) : c.showPrt.rd F.PRT_STAT_ILOCK = c.rd F.PRT_STAT_ILOCK := by
  refine c.rd_showPrt _ _ (by decide) ?_
  simp only [List.forall_mem_cons, List.not_mem_nil, false_imp_iff, implies_true, and_true]
  refine ⟨?safe, ?block, ?bypass⟩ <;>
    exact fun d v => rd_wr_disjoint d _ _ v 0 rfl (by decide) (by decide)

@[simp] theorem irq_nib (c : Ihloon) (n : Nat) : (c.irq n).cell.nib = c.cell.nib := by
  unfold irq
  split <;> rfl

@[simp] theorem rd_irq (c : Ihloon) (n : Nat) (e : Fld) (j : Nat) : (c.irq n).rd e j = c.rd e j := by
  unfold irq
  split <;> rfl

@[simp] theorem showKeeper_nib (c : Ihloon) : c.showKeeper.cell.nib = c.cell.nib :=
  (congrArg (fun d : Ihloon => d.cell.nib) c.showKeeper_spec.1 :)

/-- A last-fault record changes nothing of the nib module (R252). -/
@[simp] theorem lastFault_nib (c : Ihloon) (T cause tick : Nat) : (c.lastFault T cause tick).cell.nib = c.cell.nib := by
  unfold lastFault lastFaultAcc
  dsimp only
  rw [showKeeper_nib]
  split <;> rfl

/-- A last-fault record writes registers of the keeper alone, from 0x5080 on (R252). -/
theorem rd_lastFault (c : Ihloon) (T cause tick : Nat) (e : Fld) (j : Nat) (h : e.reg.at j < 0x5080) :
    (c.lastFault T cause tick).rd e j = c.rd e j := by
  unfold lastFault lastFaultAcc
  dsimp only
  rw [(showKeeper_spec _).2 e j h]
  split <;> rfl

/-! ### Gating (R211) -/

/-- A fired bypass holds the outputs low itself: gating leaves the nib module. -/
theorem gate_nib_fired (c : Ihloon) (x : Int) (hf : c.fired = true) : (c.gate x).cell.nib = c.cell.nib := by
  simp [gate, iff, hf]

/-- Under a local block latch gating is `outputsOff`. -/
theorem gate_nib_blocked (c : Ihloon) (x : Int) (hf : c.fired = false) (hb : c.blockLatched = true) :
    (c.gate x).cell.nib = (c.outputsOff x .b).cell.nib := by
  simp [gate, iff, hf, hb]

/-- Gating, which may show state B, leaves the interlock latch. -/
theorem rd_gate_ilock (c : Ihloon) (x : Int) : (c.gate x).rd F.PRT_STAT_ILOCK = c.rd F.PRT_STAT_ILOCK := by
  rw [gate, rd_showPrt_ilock, iff]
  split
  case isTrue => exact rd_wr_far _ F.NIB_STAT_STATE F.PRT_STAT_ILOCK _ 0 0 (by decide)
  case isFalse => rfl

/-! ### The interlock (R206, R212) -/

/-- The interlock latch is a local block latch (R206). -/
theorem blockLatched_of_ilock (c : Ihloon) (h : c.rd F.PRT_STAT_ILOCK = 1) : c.blockLatched = true := by
  simp [blockLatched, (on_eq_true_iff c F.PRT_STAT_ILOCK 0 rfl).2 h]

/-- The cell with the interlock latched and counted, before that acts on the outputs. -/
def ilockSet (c : Ihloon) : Ihloon := (c.up F.PRT_STAT_ILOCK).inc F.PRT_CNT_ACTS

theorem interlock_eq (c : Ihloon) (T tick : Nat) :
    c.interlock T tick = ((c.ilockSet.gate (c.instant T tick)).irq 4).lastFault T 7 tick := rfl

theorem rd_ilockSet_ilock (c : Ihloon) : c.ilockSet.rd F.PRT_STAT_ILOCK = 1 :=
  (rd_inc_far _ F.PRT_CNT_ACTS F.PRT_STAT_ILOCK 1 0 0 (by decide)).trans
    (rd_wr_same c F.PRT_STAT_ILOCK 1 0 (by decide))

/-- The latch of the interlock says nothing of the bypass. -/
theorem fired_ilockSet (c : Ihloon) : c.ilockSet.fired = c.fired := by
  have hfar : ∀ e : Fld, e.reg = R.PRT_BYP → c.ilockSet.rd e = c.rd e := fun e he =>
    (rd_inc_far _ F.PRT_CNT_ACTS e 1 0 0 (by rw [he]; decide)).trans
      (rd_wr_far c F.PRT_STAT_ILOCK e 1 0 0 (by rw [he]; decide))
  simp only [fired, on, hfar F.PRT_BYP_FIRED rfl, hfar F.PRT_BYP_KEPT rfl]

/-- Of the nib module the interlock leaves what its gating does. -/
theorem interlock_nib (c : Ihloon) (T tick : Nat) :
    (c.interlock T tick).cell.nib = (c.ilockSet.gate (c.instant T tick)).cell.nib := by
  rw [interlock_eq, lastFault_nib, irq_nib]

theorem interlock_nib_fired (c : Ihloon) (T tick : Nat) (hf : c.fired = true) :
    (c.interlock T tick).cell.nib = c.cell.nib := by
  rw [interlock_nib, gate_nib_fired _ _ (c.fired_ilockSet.trans hf)]
  rfl

theorem interlock_nib_unfired (c : Ihloon) (T tick : Nat) (hf : c.fired = false) :
    (c.interlock T tick).cell.nib = (c.ilockSet.outputsOff (c.instant T tick) .b).cell.nib := by
  rw [interlock_nib,
    gate_nib_blocked _ _ (c.fired_ilockSet.trans hf) (blockLatched_of_ilock _ c.rd_ilockSet_ilock)]

theorem rd_interlock_ilock (c : Ihloon) (T tick : Nat) : (c.interlock T tick).rd F.PRT_STAT_ILOCK = 1 := by
  rw [interlock_eq, rd_lastFault _ _ _ _ _ _ (by decide), rd_irq, rd_gate_ilock, rd_ilockSet_ilock]

/-- The island's own steps happen while it is powered. -/
theorem island_powered (c : Ihloon) (f : Ihloon → Ihloon) (h : c.cell.isl.power = true) : c.island f = f c := if_pos h

/-! ### The clear of the interlock latch (R206) -/

theorem ilockClear_clear (c : Ihloon) (h : c.on F.PRT_STAT_ILOCK = false) : c.ilockClear = c := by
  simp [ilockClear, h]

theorem ilockClear_enabled (c : Ihloon) (hset : c.on F.PRT_STAT_ILOCK = true) (hon : c.nibOn = true) :
    c.ilockClear = c.inc F.PRT_ERRCNT_CLRREJ := by
  simp [ilockClear, hset, hon]

theorem ilockClear_disabled (c : Ihloon) (hset : c.on F.PRT_STAT_ILOCK = true) (hoff : c.nibOn = false) :
    c.ilockClear = (c.down F.PRT_STAT_ILOCK).showPrt := by
  simp [ilockClear, hset, hoff]

/-- While the module is disabled the latch reads 0 after the clear, set or not before it. -/
theorem rd_ilockClear_disabled (c : Ihloon) (hoff : c.nibOn = false) : c.ilockClear.rd F.PRT_STAT_ILOCK = 0 := by
  cases hset : c.on F.PRT_STAT_ILOCK
  case false =>
    rw [c.ilockClear_clear hset]
    exact (c.on_eq_false_iff _ _).1 hset
  case true =>
    rw [c.ilockClear_disabled hset hoff, rd_showPrt_ilock]
    exact rd_wr_same c F.PRT_STAT_ILOCK 0 0 (by decide)

end Ihloon

/-- Settles O43, word by word: the states are R194's, the edges at or beyond the end of the stroke R183's and R195's, and
those of a carrier `Ihloon.carrierList_states`. -/
theorem wordsMapOntoStates : Obligations.WordsMapOntoStates := by
  intro c tq pol e i
  have hi : c.insState pol = i := c.insState_eq pol
  simp only [← hi]
  refine ⟨rfl, rfl, fun hin => ?inside, fun hout => ?beyond, c.carrierList_states tq e pol, rfl, rfl⟩
  case inside => simp [Ihloon.edgeList, hin]
  case beyond => simp [Ihloon.edgeList, hout.not_gt]

/-- Settles O44: under a fired bypass the module is `Ihloon.interlock_nib_fired`, and otherwise what `Ihloon.outputsOff`
leaves (R211, R212). -/
theorem interlockBlocks : Obligations.InterlockBlocks := by
  intro s tick hpower
  refine ⟨s.ihNext (s.ih.interlock s.period tick), congrArg (Host.Outcome.next <| s.ihNext ·) (s.ih.island_powered _ hpower),
    fun hf => ?unfired, s.ih.interlock_nib_fired _ _, ?latched, s.ih.rd_interlock_ilock _ _, rfl, rfl⟩
  case unfired =>
    rw [State.ihNext_ih, s.ih.interlock_nib_unfired _ _ hf]
    exact ⟨rfl, rfl, rfl⟩
  case latched => exact Ihloon.blockLatched_of_ilock _ (s.ih.rd_interlock_ilock _ _)

/-- Settles O45: whatever fired before, the module is what `Ihloon.nibOff` leaves (R201). -/
theorem disableTakesOutputsLow : Obligations.DisableTakesOutputsLow := by
  intro s tick
  refine ⟨s.ihNext (s.ih.nibDisable s.period tick), rfl, ?_⟩
  rw [State.ihNext_ih, Ihloon.nibDisable_nib, Ihloon.rd_nibDisable _ _ _ _ _ (by decide),
    Ihloon.rd_nibDisable _ _ _ _ _ (by decide)]
  exact ⟨rfl, rfl, rfl, rfl, s.ih.rd_nibOff_enAct _, s.ih.rd_nibOff_en _, rfl, rfl⟩

/-- Settles O46: the three branches of the clear (R206). -/
theorem ilockClearsOnlyDisabled : Obligations.IlockClearsOnlyDisabled := by
  intro s
  refine ⟨s.ihNext s.ih.ilockClear, rfl, rfl, rfl, s.ih.ilockClear_clear, fun hon hset => ?enabled,
    s.ih.rd_ilockClear_disabled⟩
  have hrej := s.ih.ilockClear_enabled hset hon
  refine ⟨hrej, ?_⟩
  have hkeep : (s.ih.inc F.PRT_ERRCNT_CLRREJ).rd F.PRT_STAT_ILOCK = s.ih.rd F.PRT_STAT_ILOCK :=
    Ihloon.rd_inc_far _ F.PRT_ERRCNT_CLRREJ F.PRT_STAT_ILOCK 1 0 0 (by decide)
  rw [State.ihNext_ih, hrej, Ihloon.on, hkeep]
  exact hset

end Sys2Proof.Machine
end

section
/-!
PROOFS. The check reference of the acquisition blocks (R233): the two bits of AQ_REFCTL, at the cell and at the Gloesk.
-/

namespace Sys2Proof.Machine

theorem Ihloon.rd_up_same (c : Ihloon) (f : Fld) (i : Nat) (hw : f.wid = 1) (hf : f.lo + f.wid ≤ 32) :
    (c.up f i).rd f i = 1 :=
  (c.rd_wr_same f 1 i hf).trans (by simp [hw])

/-- A command that sets a bit at the Gloesk changes the register file alone, before what follows in every step. -/
theorem State.onG_up (s : State) (h : s.gk.blocksRun = true) (f : Fld) (i : Nat) :
    s.onG (·.up f i) = s.gkNext { s.gk with regs := s.gk.regs.setFld f 1 i } :=
  s.onG_run h _

/-- Settles O47: at the cell `Ihloon.up` is the write of the bit, and at the Gloesk it is the step of `State.onG_up`. -/
theorem referenceWritesSetTheirBit : Obligations.ReferenceWritesSetTheirBit := by
  intro s hblocks
  refine ⟨⟨s.ihNext (s.ih.up F.CAQ_REFCTL_SEL), rfl, rfl, ?cellSel, rfl⟩,
    ⟨s.ihNext (s.ih.up F.CAQ_REFCTL_XOFF), rfl, rfl, ?cellXoff, rfl⟩, ?gloeskSel, ?gloeskXoff⟩
  case cellSel => exact s.ih.rd_up_same F.CAQ_REFCTL_SEL 0 rfl (by decide)
  case cellXoff => exact s.ih.rd_up_same F.CAQ_REFCTL_XOFF 0 rfl (by decide)
  case gloeskSel => exact congrArg Host.Outcome.next (s.onG_up hblocks F.AQ_REFCTL_SEL 0)
  case gloeskXoff => exact congrArg Host.Outcome.next (s.onG_up hblocks F.AQ_REFCTL_XOFF 0)

end Sys2Proof.Machine
end

section
/-!
PROOFS. The clear of the last-fault records (R257): what it leaves of the cell.
-/

namespace Sys2Proof.Machine

namespace Ihloon

/-- What the keeper shows are registers: the rest of the cell stays. -/
@[simp] theorem showKeeper_cell (c : Ihloon) : c.showKeeper.cell = c.cell :=
  (congrArg Ihloon.cell c.showKeeper_spec.1 :)

/-- Beside the registers that show the keeper, the clear changes the keeper alone (R257). -/
theorem lfrClear_cell (c : Ihloon) :
    c.lfrClear.cell = { c.cell with keep := { c.cell.keep with first := [], last := [], records := 0 } } :=
  showKeeper_cell _

end Ihloon

/-- Settles O48: the clear is one change of the keeper, by `Ihloon.lfrClear_cell`. -/
theorem lfrClearEmptiesTheRecords : Obligations.LfrClearEmptiesTheRecords := by
  intro s
  refine ⟨s.ihNext s.ih.lfrClear, rfl, ?_⟩
  rw [State.ihNext_ih, Ihloon.lfrClear_cell]
  exact ⟨rfl, rfl, rfl, rfl, rfl, rfl⟩

end Sys2Proof.Machine
end

section
/-!
PROOFS. The memory of a core (R259): what a write and a copy leave.
-/

namespace Sys2Proof.Machine

/-- Settles O12: the laws of `Memory.write` and `Memory.copy` (R259). The statement does not name `Memory.setByte` and
`Memory.writeList`: that they keep the canonical form is `Memory.wf_setByte` and `Memory.wf_writeList`. -/
theorem memoryReadsBack : Obligations.MemoryReadsBack := by
  intro m a n v
  refine ⟨?reads, ?inside, ?outside, ?written, ?copied⟩
  case reads => exact Memory.read_write_same n m a v
  case inside => exact Memory.byte_write_inside n m a v
  case outside => exact Memory.byte_write_outside n m a v
  case written => exact Memory.wf_write n m a v
  case copied => exact fun src b hm => Memory.wf_copy src n b m a hm

end Sys2Proof.Machine
end

section
/-!
PROOFS. The Quill instructions (R259, R262, R263, R266-R268, R280, R281): results of the integer instructions, targets of
branches and jumps, and the word store of the Quill-S.
-/

namespace Sys2Proof.Machine

namespace Core

/-! ### Branches and jumps (R266) -/

/-- A jump by a signed offset of `w` bits, counted in instructions. -/
theorem target_signExtend (k : Core) (w : Nat) (hw : w ≤ 32) (x : BitVec w) :
    k.target (toS w x.toNat) = (k.pc + 4 * (x.signExtend 32).toNat) % 2 ^ 32 := by
  have hx := signExtend_mod w hw x
  unfold target ofS
  omega

/-- A branch that is taken where `p` holds writes the pc alone. -/
theorem branch_of_iff (k : Core) {taken : Bool} {p : Prop} [Decidable p] (h : taken = true ↔ p) (imm : BitVec 16) :
    k.branch taken imm.toNat =
      { k with pc := if p then (k.pc + 4 * (imm.signExtend 32).toNat) % 2 ^ 32 else (k.pc + 4) % 2 ^ 32 } := by
  rw [branch, k.target_signExtend 16 (by decide) imm]
  simp only [h]
  split <;> rfl

theorem branch_of_iff_not (k : Core) {taken : Bool} {p : Prop} [Decidable p] (h : taken = true ↔ ¬ p) (imm : BitVec 16) :
    k.branch taken imm.toNat =
      { k with pc := if p then (k.pc + 4) % 2 ^ 32 else (k.pc + 4 * (imm.signExtend 32).toNat) % 2 ^ 32 } :=
  (k.branch_of_iff h imm).trans (by rw [ite_not])

/-! ### Results (R259, R267, R268) -/

theorem reg_lt (k : Core) (n : Nat) : k.reg n < 2 ^ 32 := by
  unfold reg
  split
  case isTrue => decide
  case isFalse => exact BitVec.isLt _

theorem reg_congr {k k' : Core} (h : k.w = k'.w) (n : Nat) : k.reg n = k'.reg n := by rw [reg, reg, h]

/-- `k'` is `k` with `v` in register `rd`, which w0 discards, as far as registers, pc, memory and accumulators go. -/
structure Delivers (k k' : Core) (rd v : Nat) : Prop where
  reg : ∀ n, k'.reg n = if n = rd ∧ rd ≠ 0 then v else k.reg n
  pc : k'.pc = k.pc
  mem : k'.mem = k.mem
  acc : k'.acc = k.acc

/-- Carry and overflow are flags alone. -/
theorem Delivers.cv {k k' : Core} {rd v : Nat} (h : k.Delivers k' rd v) (carry overflow : Bool) :
    k.Delivers (k'.cv carry overflow) rd v := ⟨h.reg, h.pc, h.mem, h.acc⟩

section
variable (k : Core) (rd : Nat)

theorem delivers_setReg {v : Nat} (hv : v < 2 ^ 32) : k.Delivers (k.setReg rd v) rd v := by
  obtain ⟨hpc, hmem, hacc⟩ := k.setReg_spec rd v
  exact ⟨fun n => k.reg_setReg rd v n hv, hpc, hmem, hacc⟩

theorem delivers_result {v : Nat} (hv : v < 2 ^ 32) : k.Delivers (k.result rd v) rd v := by
  obtain ⟨hw, hpc, hmem, hacc⟩ := k.result_spec rd v
  exact ⟨fun n => (reg_congr hw n).trans (k.reg_setReg rd v n hv), hpc, hmem, hacc⟩

theorem delivers_addWith (a b : Nat) : k.Delivers (k.addWith rd a b 0) rd ((a + b) % 2 ^ 32) :=
  (k.delivers_result rd (Nat.mod_lt _ (by decide))).cv _ _

/-- The difference of two words wraps. -/
theorem delivers_subWith (a : Nat) {b : Nat} (hb : b < 2 ^ 32) :
    k.Delivers (k.subWith rd a b 0) rd ((a + 2 ^ 32 - b) % 2 ^ 32) := by
  have hdiff : ofS 32 ((a : Int) - b - (0 : Nat)) = (a + 2 ^ 32 - b) % 2 ^ 32 := by
    unfold ofS
    omega
  rw [subWith, hdiff]
  exact (k.delivers_result rd (Nat.mod_lt _ (by decide))).cv _ _

/-- A comparison delivers 0 or 1. -/
theorem delivers_flag (p : Prop) [Decidable p] : k.Delivers (k.result rd (if p then 1 else 0)) rd (if p then 1 else 0) :=
  k.delivers_result rd (by split <;> decide)

end

end Core

/-- The Quill-S at an instruction that delivers `v` to `rd` takes the result and goes on; of the cell nothing beside the
core changes, and of the other parts nothing (R259). -/
theorem State.quillS_delivers (s : State) {c : Instr} {w rd v : Nat} {f : Core → Core}
    (hexec : exec c s = .next (s.quillCore .s w 0 (fun k => (f k).next)))
    (hf : s.ih.cell.core.Delivers (f s.ih.cell.core) rd v) (hat : s.ih.coreAt w) :
    ∃ t, exec c s = .next t ∧
      (∀ n, t.ih.cell.core.reg n = if n = rd ∧ rd ≠ 0 then v else s.ih.cell.core.reg n) ∧
      t.ih.cell.core.pc = (s.ih.cell.core.pc + 4) % 2 ^ 32 ∧ t.ih.cell.core.mem = s.ih.cell.core.mem ∧
      t.ih.cell.core.acc = s.ih.cell.core.acc ∧ t.ih.regs = s.ih.regs ∧ t.ih.cell.nib = s.ih.cell.nib ∧
      t.gk = s.gk ∧ t.sk = s.sk := by
  have hstep : s.quillCore .s w 0 (fun k => (f k).next) =
      s.ihNext ((s.ih.onCore (fun k => (f k).next)).onCore (fun k => { k with stepping := false })) :=
    congrArg s.ihNext (State.quillS_runs s.ih s.period w _ hat)
  refine ⟨_, hexec.trans (congrArg Host.Outcome.next hstep), hf.reg, ?pc, hf.mem, hf.acc, rfl, rfl, rfl, rfl⟩
  case pc => exact congrArg (fun pc => (pc + 4) % 2 ^ 32) hf.pc

/-- Settles O49: each instruction delivers its result to the core (`Core.Delivers`), which `State.quillS_delivers` takes to
the whole state. -/
theorem quillIntegerResults : Obligations.QuillIntegerResults := by
  intro s rd ra rb imm a b
  have ha : a < 2 ^ 32 := Core.reg_lt _ _
  have hb : b < 2 ^ 32 := Core.reg_lt _ _
  have himm : imm.toNat < 2 ^ 32 := imm.isLt.trans (by decide)
  have hmod : imm.toNat % 2 ^ 16 = imm.toNat := Nat.mod_eq_of_lt imm.isLt
  have hlui : imm.toNat * 2 ^ 16 < 2 ^ 32 := by have := imm.isLt; omega
  let k := s.ih.cell.core
  simp only [List.forall_mem_cons, List.not_mem_nil, false_imp_iff, implies_true, and_true]
  refine ⟨s.quillS_delivers rfl ?add, s.quillS_delivers rfl ?sub, s.quillS_delivers rfl ?and, s.quillS_delivers rfl ?or,
    s.quillS_delivers rfl ?xor, s.quillS_delivers rfl ?slt, s.quillS_delivers rfl ?sltu, s.quillS_delivers rfl ?mul,
    s.quillS_delivers rfl ?addi, s.quillS_delivers rfl ?andi, s.quillS_delivers rfl ?ori, s.quillS_delivers rfl ?xori,
    s.quillS_delivers rfl ?lui⟩
  case add => exact k.delivers_addWith rd a b
  case sub => exact k.delivers_subWith rd a hb
  case and => exact k.delivers_result rd (Nat.and_lt_two_pow a hb)
  case or => exact k.delivers_result rd (Nat.or_lt_two_pow ha hb)
  case xor => exact k.delivers_result rd (Nat.xor_lt_two_pow ha hb)
  case slt => exact k.delivers_flag rd _
  case sltu => exact k.delivers_flag rd _
  case mul => exact k.delivers_result rd (Nat.mod_lt _ (by decide))
  case addi =>
    rw [← Core.sext_eq imm]
    exact k.delivers_addWith rd a _
  case andi =>
    rw [Core.andi, hmod]
    exact k.delivers_result rd (Nat.and_lt_two_pow a himm)
  case ori =>
    rw [Core.ori, hmod]
    exact k.delivers_result rd (Nat.or_lt_two_pow ha himm)
  case xori =>
    rw [Core.xori, hmod]
    exact k.delivers_result rd (Nat.xor_lt_two_pow ha himm)
  case lui =>
    rw [Core.lui, hmod]
    exact k.delivers_setReg rd hlui

/-- Settles O50: the branches are `Core.branch_of_iff` at their conditions, and the jumps take the targets of
`Core.target_signExtend` and `Core.sext_eq` (R266). -/
theorem branchesGoWhereTheySay : Obligations.BranchesGoWhereTheySay := by
  intro k rd ra rb imm ofs to16 on
  refine ⟨?beq, ?bne, ?blt, ?bge, ?bltu, ?bgeu, ?jal, ?jalr⟩
  case beq => exact k.branch_of_iff beq_iff_eq imm
  case bne => exact k.branch_of_iff_not bne_iff_ne imm
  case blt => exact k.branch_of_iff decide_eq_true_iff imm
  case bge => exact k.branch_of_iff_not (decide_eq_true_iff.trans not_lt.symm) imm
  case bltu => exact k.branch_of_iff decide_eq_true_iff imm
  case bgeu => exact k.branch_of_iff_not (decide_eq_true_iff.trans not_lt.symm) imm
  case jal => rw [Core.jal, k.target_signExtend 21 (by decide) ofs]
  case jalr => rw [Core.jalr, Core.sext_eq imm]

/-! ### The word store of the Quill-S (R262, R263, R280, R281) -/

namespace Ihloon

/-- An edge of a source changes registers and Blotter alone. -/
@[simp] theorem raise_cell (c : Ihloon) (n : Nat) : (c.raise n).cell = c.cell :=
  (congrArg Ihloon.cell (rest_raise c n) :)

@[simp] theorem onCore_core (c : Ihloon) (f : Core → Core) : (c.onCore f).cell.core = f c.cell.core := rfl

/-- With exceptions enabled a fault is taken at the vector, never as a double fault (R281). -/
theorem coreFault_core (c : Ihloon) (T cause addr : Nat) (h : bit c.cell.core.xstat 0 = true) :
    (c.coreFault T cause addr).cell.core =
      { c.cell.core with
        xcause := cause, xpc := c.cell.core.pc, xaddr := addr % 2 ^ 32, xstat := c.cell.core.xstat % 2 * 2,
        pc := c.cell.core.xvec, stepping := false } := by
  simp [coreFault, h]

section
variable (c : Ihloon) (T tick rd ra size : Nat) {a : Nat} {imm : BitVec 16}
  (ha : (c.cell.core.reg ra + (imm.signExtend 32).toNat) % 2 ^ 32 = a)
include ha

theorem storeReg_misaligned (h : a % size ≠ 0) : c.storeReg T tick rd ra imm.toNat size = c.coreFault T 3 a := by
  rw [← Core.sext_eq] at ha
  subst ha
  exact if_pos h

/-- An aligned store into the SRAM writes memory and goes on (R262). -/
theorem storeReg_sram (h : a % size = 0) (hlt : a < 0x20000) : c.storeReg T tick rd ra imm.toNat size =
    c.onCore (fun k => { k.next with mem := Memory.write k.mem a size (c.cell.core.reg rd) }) := by
  rw [← Core.sext_eq] at ha
  subst ha
  exact (if_neg (not_not.2 h)).trans (if_pos hlt)

end

end Ihloon

/-- The Quill-S at a word store carries it out. -/
theorem State.exec_qStw_quillS (s : State) (rd ra : Fin 32) (imm : BitVec 16) (tick : Fin 16777216)
    (hat : s.ih.coreAt (Enc.i 0x0D rd ra imm.toNat)) :
    exec (.qStw .s rd ra imm 0 tick) s = .next (s.ihNext
      ((s.ih.storeReg s.period tick rd ra imm.toNat 4).onCore (fun k => { k with stepping := false }))) :=
  congrArg (Host.Outcome.next <| s.ihNext ·) (State.quillS_runs s.ih s.period _ _ hat)

/-- Settles O51: the aligned store is `Ihloon.storeReg_sram` with the laws of `Memory.write`; the misaligned one is
`Ihloon.coreFault_core`. -/
theorem storeWritesItsFourBytes : Obligations.StoreWritesItsFourBytes := by
  intro s rd ra imm tick a hat
  refine ⟨_, s.exec_qStw_quillS rd ra imm tick hat, rfl, rfl, fun hal hlt => ?aligned, fun hmis hen => ?misaligned⟩
  case aligned =>
    rw [s.ih.storeReg_sram s.period tick rd ra 4 rfl hal hlt]
    exact ⟨Memory.byte_write_inside 4 _ a _, Memory.byte_write_outside 4 _ a _, fun _ => rfl, rfl, rfl⟩
  case misaligned =>
    rw [s.ih.storeReg_misaligned s.period tick rd ra 4 rfl hmis, State.ihNext_ih, Ihloon.onCore_core,
      s.ih.coreFault_core s.period 3 a hen]
    exact ⟨rfl, rfl, Nat.mod_mod _ _, rfl, rfl⟩

end Sys2Proof.Machine
end

section
/-!
PROOFS. The steps of the whole machine, and the Ductus chapter (R290, R303, R358): what a step and the end of a step of the
Gloesk leave, and what a kill makes of a task.
-/

namespace Sys2Proof.Machine

/-! ### What a step keeps -/

/-- What a command can make of a state: one part acts, and the queue is not touched, or nothing happens. -/
inductive State.Acted (s : State) : State → Prop where
  | onG (f : Gloesk → Gloesk) : s.Acted (s.onG f)
  | onP (f : Gloesk → Gloesk) : s.Acted (s.onP f)
  | onH (f : Stanak → Stanak) : s.Acted (s.onH f)
  | onC (f : Nat → Ihloon → Ihloon) : s.Acted (s.onC f)
  | idle : s.Acted s

theorem Way.acted {c : Instr} (w : Way c) (s : State) : ∃ t, exec c s = .next t ∧ s.Acted t := by
  cases w with
  | gk _ w =>
    obtain ⟨f, h⟩ | ⟨-, f, h⟩ := w s
    · exact ⟨_, h, .onG f⟩
    · exact ⟨_, h, .onP f⟩
  | sk _ w =>
    obtain ⟨_, h⟩ := w
    exact ⟨_, h s, .onH _⟩
  | ih _ w =>
    obtain ⟨f, h⟩ := w s
    exact ⟨_, h, .onC f⟩
  | idle w => exact ⟨s, w s, .idle⟩
  | both _ _ w =>
    obtain ⟨f, h⟩ | ⟨f, h⟩ := w s
    · exact ⟨_, h, .onG f⟩
    · exact ⟨_, h, .onC f⟩

namespace State.Acted

variable {s t : State}

theorem pending_eq (h : s.Acted t) : t.pending = s.pending := by cases h <;> rfl

/-- The steps of the Gloesk end with `finish`, which uses up edges and hits; the other parts report none to it. -/
theorem settled (h : s.Acted t) (hs : s.settled) : t.settled := by
  cases h with
  | onG f => exact s.onG_settled f hs
  | onP f => exact s.onP_settled f
  | onH f => exact s.onH_settled f hs
  | onC f => exact s.onC_settled f hs
  | idle => exact hs

/-- A command keeps the invariant: it settles what it reports, and the queue stays. -/
theorem inv (h : s.Acted t) (hs : s.Inv) : t.Inv := by
  obtain ⟨hsettled, hqueue⟩ := hs
  refine ⟨h.settled hsettled, ?_⟩
  rw [State.queueOk, h.pending_eq]
  exact hqueue

end State.Acted

theorem step_of_pending_nil {s : State} (h : s.pending = []) : step s = .next s := by
  simp [step, h]

theorem step_of_pending_cons {s : State} {c : Instr} {rest : List Instr} (h : s.pending = c :: rest) :
    step s = exec c { s with pending := rest } := by
  simp [step, h]

/-- Taking the front command off the queue keeps the invariant. -/
theorem State.Inv.tail {s : State} {c : Instr} {rest : List Instr} (hs : s.Inv) (h : s.pending = c :: rest) :
    State.Inv { s with pending := rest } := by
  obtain ⟨hsettled, hqueue⟩ := hs
  refine ⟨hsettled, fun d hd => hqueue d ?_⟩
  rw [h]
  exact List.mem_cons_of_mem c hd

/-- Settles O4: the front command acts in one of the ways of `Way` on a state that holds the invariant. That no edge and no
hit outlives its command is the model's choice (log entry 27). -/
theorem stepKeepsInv : Obligations.StepKeepsInv := by
  intro s t hs hstep
  cases hp : s.pending with
  | nil =>
    cases (step_of_pending_nil hp).symm.trans hstep
    exact hs
  | cons c rest =>
    obtain ⟨u, hu, hacted⟩ := (way c).acted { s with pending := rest }
    cases hu.symm.trans ((step_of_pending_cons hp).symm.trans hstep)
    exact hacted.inv (hs.tail hp)

/-- Settles O10: the frame is that of `Gloesk.still_finish`; of the lanes it leaves all but what sending moves. That edges and
hits are used up at the end of the same command is the model's choice (log entry 27). -/
theorem finishLeavesTheEngines : Obligations.FinishLeavesTheEngines := by
  intro g
  have hlan : { g.finish.lan with fseq := g.lan.fseq, turn := g.lan.turn, waiting := g.lan.waiting } = g.lan :=
    LaneExt.with_sending g.finish_lan
  exact ⟨g.finish_variant, g.finish_latches, g.finish_map, g.finish_time, g.finish_rul, g.finish_svi, g.finish_staged,
    g.finish_disp, g.finish_lpe, g.finish_flr, g.finish_rank, hlan, g.finish_aq, g.finish_arb, g.finish_trust, g.finish_pos,
    g.finish_pwr, g.finish_edges, g.finish_hits⟩

/-! ### Kill -/

theorem not_mem_without (l : List Nat) (x : Nat) : x ∉ without l x := by
  simp [without]

namespace Gloesk

/-- What every action of a fold keeps, the fold keeps. -/
theorem foldl_keeps {α β : Type} (p : Gloesk → α) (f : Gloesk → β → Gloesk) (hf : ∀ g b, p (f g b) = p g) (l : List β)
    (g : Gloesk) : p (l.foldl f g) = p g :=
  List.foldlRecOn (motive := fun h => p h = p g) l f rfl (fun h hh b _ => (hf h b).trans hh)

theorem duc_each (g : Gloesk) (l : List Nat) (f : Gloesk → Nat → Gloesk) (hf : ∀ g n, (f g n).duc = g.duc) :
    (g.each l f).duc = g.duc := foldl_keeps (·.duc) f hf l g

/-- A change of priorities moves tasks within the ready list; it makes none READY. -/
theorem mem_ready_of_reprioritise {g : Gloesk} {also : List Nat} {t : Nat} (h : t ∈ (g.reprioritise also).duc.ready) :
    t ∈ g.duc.ready := by
  unfold reprioritise at h
  extract_lets held holders all before g₁ round g₂ moved at h
  have hround : ∀ (g : Gloesk) (l : Nat), (round g).duc = g.duc := fun g _ => duc_each g _ _ (fun _ _ => rfl)
  have hduc : g₂.duc = g.duc := (foldl_keeps (·.duc) _ hround held g₁).trans (duc_each g _ _ (fun _ _ => rfl))
  have hmem : t ∈ g₂.duc.ready.filter (fun t => !(has moved t)) ++ moved := h
  rw [← hduc]
  rcases List.mem_append.1 hmem with hkept | hmoved
  · exact List.mem_of_mem_filter hkept
  · have hin := (List.mem_filter.1 hmoved).2
    simp only [has, Bool.and_eq_true, List.contains_iff_mem] at hin
    exact hin.1

theorem not_mem_ready_unlist (g : Gloesk) (t : Nat) : t ∉ (g.unlist t).duc.ready :=
  fun h => not_mem_without _ t (mem_ready_of_reprioritise h)

/-- A kill of an enabled task takes it off every list last, and then writes the state it is to have (R303). -/
theorem kill_enabled (g : Gloesk) (t st : Nat) (h : g.tstate t ≠ 0) :
    ∃ g' : Gloesk, g.kill t st = (g'.unlist t).wr F.DUC_TASK_STAT_STATE st t :=
  ⟨_, if_neg h⟩

theorem tstate_kill (g : Gloesk) (t st : Nat) (h : g.tstate t ≠ 0) : (g.kill t st).tstate t = st % 16 := by
  obtain ⟨g', hkill⟩ := g.kill_enabled t st h
  rw [hkill]
  exact rd_wr_same _ F.DUC_TASK_STAT_STATE st t (by decide)

theorem not_mem_ready_kill (g : Gloesk) (t st : Nat) (h : g.tstate t ≠ 0) : t ∉ (g.kill t st).duc.ready := by
  obtain ⟨g', hkill⟩ := g.kill_enabled t st h
  rw [hkill]
  exact g'.not_mem_ready_unlist t

theorem kill_disabled (g : Gloesk) (t st : Nat) (h : g.tstate t = 0) : g.kill t st = g := if_pos h

end Gloesk

/-- Settles O52: Kill and Disable are `Gloesk.kill` with the state that R303 names. That a kill of a DISABLED task does nothing
is deduced (log entry 116). -/
theorem killMakesATaskDormant : Obligations.KillMakesATaskDormant := by
  intro s t hblocks
  have hnext (st : Nat) : s.onG (·.kill t st) = s.gkNext (s.gk.kill t st) := s.onG_run hblocks _
  refine ⟨s.gk.kill t 1, s.gk.kill t 0, congrArg Host.Outcome.next (hnext 1), congrArg Host.Outcome.next (hnext 0),
    fun hen => ?enabled, fun hdis => ?disabled⟩
  case enabled =>
    exact ⟨s.gk.tstate_kill t 1 hen, s.gk.tstate_kill t 0 hen, s.gk.not_mem_ready_kill t 1 hen,
      s.gk.not_mem_ready_kill t 0 hen⟩
  case disabled => exact ⟨s.gk.kill_disabled t 1 hdis, s.gk.kill_disabled t 0 hdis⟩

end Sys2Proof.Machine
end

section
/-!
PROOFS. The partition layout of Inkwell (R317, R318): what the lock leaves of the Gloesk when the layout is locked, when it is
legal and when it is illegal.
-/

namespace Sys2Proof.Machine

namespace Gloesk

/-! ### Fields of the Gloesk -/

/-- A write of a field leaves the fields of other registers. -/
theorem rd_wr_far (g : Gloesk) (f e : Fld) (v i j : Nat) (h : e.reg.at j ≠ f.reg.at i) : (g.wr f v i).rd e j = g.rd e j :=
  RegFile.fld_setFld_other _ _ _ _ _ _ h

/-- A write of a field leaves the fields at other bits of its register. -/
theorem rd_wr_disjoint (g : Gloesk) (f e : Fld) (v i : Nat) (hr : e.reg = f.reg) (he : e.lo + e.wid ≤ 32)
    (hd : e.lo + e.wid ≤ f.lo ∨ f.lo + f.wid ≤ e.lo) : (g.wr f v i).rd e i = g.rd e i :=
  RegFile.fld_setFld_disjoint _ _ _ _ _ hr he hd

theorem rd_up_same (g : Gloesk) (f : Fld) (i : Nat) (hw : f.wid = 1) (hf : f.lo + f.wid ≤ 32) : (g.up f i).rd f i = 1 :=
  (g.rd_wr_same f 1 i hf).trans (by simp [hw])

theorem on_eq_false_iff (g : Gloesk) (f : Fld) (i : Nat) : g.on f i = false ↔ g.rd f i = 0 := bne_eq_false_iff_eq

/-- The Gloesk beside its register file. -/
def rest (g : Gloesk) : Gloesk := { g with regs := [] }

@[simp] theorem rest_wr (g : Gloesk) (f : Fld) (v i : Nat) : (g.wr f v i).rest = g.rest := rfl

/-! ### The lock of the layout -/

/-- VALID of every partition as a lock shows it: 1 where the size is not 0. -/
def showParts (g : Gloesk) : Gloesk :=
  g.each (List.range 16) (fun g p => g.wr F.INK_PART_STAT_VALID (if g.rd F.INK_PART_SIZE_GRAN p = 0 then 0 else 1) p)

/-- Showing the partitions writes their status registers alone, which lie above INK_STATUS. -/
theorem rd_showParts (g : Gloesk) (e : Fld) (h : e.reg = R.INK_STATUS) : g.showParts.rd e = g.rd e := by
  refine foldl_keeps (·.rd e) _ (fun g p => g.rd_wr_far F.INK_PART_STAT_VALID e _ p 0 ?_) _ g
  rw [h]
  simp only [Reg.at, F.INK_PART_STAT_VALID, R.INK_STATUS, R.INK_PART_STAT]
  omega

theorem layoutLock_locked (g : Gloesk) (h : g.on F.INK_STATUS_LOCKED = true) : g.layoutLock = g := if_pos h

theorem layoutLock_legal (g : Gloesk) (h : g.on F.INK_STATUS_LOCKED = false)
    (hok : g.layoutOk (fun p => g.rd F.INK_PART_SIZE_GRAN p) = true) :
    g.layoutLock = (g.up F.INK_STATUS_LOCKED).showParts :=
  (if_neg (Bool.eq_false_iff.1 h)).trans (if_pos hok)

theorem layoutLock_illegal (g : Gloesk) (h : g.on F.INK_STATUS_LOCKED = false)
    (hbad : g.layoutOk (fun p => g.rd F.INK_PART_SIZE_GRAN p) = false) :
    g.layoutLock = g.up F.INK_STATUS_LAYOUT_BAD :=
  (if_neg (Bool.eq_false_iff.1 h)).trans (if_neg (Bool.eq_false_iff.1 hbad))

theorem rest_showParts (g : Gloesk) : g.showParts.rest = g.rest :=
  foldl_keeps rest _ (fun _ _ => rest_wr _ _ _ _) _ g

/-- The lock writes registers alone. -/
theorem layoutLock_rest (g : Gloesk) : g.layoutLock.rest = g.rest := by
  cases hlocked : g.on F.INK_STATUS_LOCKED with
  | true => rw [g.layoutLock_locked hlocked]
  | false =>
    cases hok : g.layoutOk (fun p => g.rd F.INK_PART_SIZE_GRAN p) with
    | true =>
      rw [g.layoutLock_legal hlocked hok]
      exact rest_showParts _
    | false =>
      rw [g.layoutLock_illegal hlocked hok]
      exact rest_wr _ _ _ _

end Gloesk

/-- Settles O53: the three cases are `Gloesk.layoutLock_locked`, `Gloesk.layoutLock_legal` and `Gloesk.layoutLock_illegal`, and
the frame is `Gloesk.layoutLock_rest`. -/
theorem lockTakesOnlyALegalLayout : Obligations.LockTakesOnlyALegalLayout := by
  intro s hblocks
  have hrest := s.gk.layoutLock_rest
  refine ⟨s.gk.layoutLock, congrArg Host.Outcome.next (s.onG_run hblocks _), (congrArg Gloesk.ink hrest :),
    (congrArg Gloesk.edges hrest :), s.gk.layoutLock_locked, fun hopen hok => ?legal, fun hopen hbad => ?illegal⟩
  case legal =>
    rw [s.gk.layoutLock_legal hopen hok, Gloesk.rd_showParts _ _ rfl]
    exact s.gk.rd_up_same F.INK_STATUS_LOCKED 0 rfl (by decide)
  case illegal =>
    rw [s.gk.layoutLock_illegal hopen hbad]
    have hunlocked : (s.gk.up F.INK_STATUS_LAYOUT_BAD).rd F.INK_STATUS_LOCKED = s.gk.rd F.INK_STATUS_LOCKED :=
      s.gk.rd_wr_disjoint F.INK_STATUS_LAYOUT_BAD F.INK_STATUS_LOCKED 1 0 rfl (by decide) (by decide)
    exact ⟨hunlocked.trans ((s.gk.on_eq_false_iff _ _).1 hopen),
      s.gk.rd_up_same F.INK_STATUS_LAYOUT_BAD 0 rfl (by decide)⟩

/-- The state after reset with the partitions of R317 at their least sizes, one after the other from granule 0: SIZE and BASE
of partitions 1 to 7. -/
def State.leastLayout : State :=
  { State.reset with gk := { State.reset.gk with regs :=
    [(R.INK_PART_SIZE.at 1, 16), (R.INK_PART_BASE.at 2, 16), (R.INK_PART_SIZE.at 2, 1), (R.INK_PART_BASE.at 3, 17),
      (R.INK_PART_SIZE.at 3, 1), (R.INK_PART_BASE.at 4, 18), (R.INK_PART_SIZE.at 4, 1), (R.INK_PART_BASE.at 5, 19),
      (R.INK_PART_SIZE.at 5, 1), (R.INK_PART_BASE.at 6, 20), (R.INK_PART_SIZE.at 6, 1), (R.INK_PART_BASE.at 7, 21),
      (R.INK_PART_SIZE.at 7, 32)] } }

/-- The least layout is legal: the case of a lock that succeeds is not empty. -/
theorem State.leastLayout_locks :
    ∃ g, exec .layoutLock State.leastLayout = .next (State.leastLayout.gkNext g) ∧ g.rd F.INK_STATUS_LOCKED = 1 := by
  obtain ⟨g, hexec, -, -, -, hlegal, -⟩ := lockTakesOnlyALegalLayout State.leastLayout (by decide)
  exact ⟨g, hexec, hlegal (by decide) (by decide)⟩

/-- After reset every size is 0, below the least sizes of R317: the case of a refused lock is not empty. -/
theorem State.reset_refuses_layoutLock :
    ∃ g, exec .layoutLock State.reset = .next (State.reset.gkNext g) ∧
      g.rd F.INK_STATUS_LOCKED = 0 ∧ g.rd F.INK_STATUS_LAYOUT_BAD = 1 := by
  obtain ⟨g, hexec, -, -, -, -, hbad⟩ := lockTakesOnlyALegalLayout State.reset (by decide)
  exact ⟨g, hexec, hbad (by decide) (by decide)⟩

end Sys2Proof.Machine
end

section
/-!
PROOFS. The whole machine (R456, R465, R468): how the queue drains, which parts a command and a run can change, and what the
Gloesk does not do while its blocks are held.
-/

namespace Sys2Proof.Machine

/-! ### The front of the queue -/

/-- Settles O1: `step_of_pending_cons` at a queue with the command before `s.pending`. -/
theorem stepRunsFront : Obligations.StepRunsFront := fun _ _ => step_of_pending_cons rfl

/-- Settles O2. That a step idles on an empty queue is the model's choice (log entry 17). -/
theorem emptyQueueIdles : Obligations.EmptyQueueIdles := fun _ hempty => step_of_pending_nil hempty

/-! ### The parts that a command leaves alone -/

/-- The two states hold the same part `p`. -/
def State.Same (s t : State) : Part → Prop
  | .gloesk => t.gk = s.gk
  | .stanak => t.sk = s.sk
  | .ihloon => t.ih = s.ih

namespace State.Same

variable {s t u : State} {p : Part}

theorem refl (s : State) (p : Part) : s.Same s p := by cases p <;> rfl

theorem trans (h : s.Same u p) (h' : u.Same t p) : s.Same t p := by
  cases p with
  | gloesk => exact Eq.trans h' h
  | stanak => exact Eq.trans h' h
  | ihloon => exact Eq.trans h' h

theorem of_gloesk_acts (hsk : t.sk = s.sk) (hih : t.ih = s.ih) (h : p ≠ .gloesk) : s.Same t p := by
  cases p with
  | gloesk => exact absurd rfl h
  | stanak => exact hsk
  | ihloon => exact hih

theorem of_stanak_acts (hgk : t.gk = s.gk) (hih : t.ih = s.ih) (h : p ≠ .stanak) : s.Same t p := by
  cases p with
  | gloesk => exact hgk
  | stanak => exact absurd rfl h
  | ihloon => exact hih

theorem of_ihloon_acts (hgk : t.gk = s.gk) (hsk : t.sk = s.sk) (h : p ≠ .ihloon) : s.Same t p := by
  cases p with
  | gloesk => exact hgk
  | stanak => exact hsk
  | ihloon => exact absurd rfl h

end State.Same

/-- A command changes a part of its site alone. -/
theorem Way.same {c : Instr} (w : Way c) (s : State) : ∃ t, exec c s = .next t ∧ ∀ p ∉ c.site, s.Same t p := by
  have off {q : Part} (hq : q ∈ c.site) {p : Part} (hp : p ∉ c.site) : p ≠ q := fun e => hp (e ▸ hq)
  cases w with
  | gk hgk w =>
    obtain ⟨f, h⟩ | ⟨-, f, h⟩ := w s
    · exact ⟨_, h, fun _ hp => .of_gloesk_acts rfl rfl (off hgk hp)⟩
    · exact ⟨_, h, fun _ hp => .of_gloesk_acts rfl rfl (off hgk hp)⟩
  | sk hsk w =>
    obtain ⟨_, h⟩ := w
    exact ⟨_, h s, fun _ hp => .of_stanak_acts rfl rfl (off hsk hp)⟩
  | ih hih w =>
    obtain ⟨f, h⟩ := w s
    exact ⟨_, h, fun _ hp => .of_ihloon_acts rfl rfl (off hih hp)⟩
  | idle w => exact ⟨s, w s, fun p _ => .refl s p⟩
  | both hgk hih w =>
    obtain ⟨f, h⟩ | ⟨f, h⟩ := w s
    · exact ⟨_, h, fun _ hp => .of_gloesk_acts rfl rfl (off hgk hp)⟩
    · exact ⟨_, h, fun _ hp => .of_ihloon_acts rfl rfl (off hih hp)⟩

/-- Every command completes, leaves the queue alone and changes a part of its site alone. -/
theorem exec_next (c : Instr) (s : State) :
    ∃ t, exec c s = .next t ∧ t.pending = s.pending ∧ ∀ p ∉ c.site, s.Same t p := by
  obtain ⟨t, hexec, hacted⟩ := (way c).acted s
  obtain ⟨u, hexec', hsame⟩ := (way c).same s
  cases hexec.symm.trans hexec'
  exact ⟨t, hexec, hacted.pending_eq, hsame⟩

/-- Settles O6, part by part. -/
theorem commandsStayOnTheirParts : Obligations.CommandsStayOnTheirParts := by
  intro c s
  obtain ⟨t, hexec, hqueue, hsame⟩ := exec_next c s
  exact ⟨t, hexec, hqueue, hsame .gloesk, hsame .stanak, hsame .ihloon⟩

/-! ### Runs -/

/-- A step with a command at the front takes it off the queue and acts as the command does. -/
theorem step_next_of_cons {s : State} {c : Instr} {rest : List Instr} (h : s.pending = c :: rest) :
    ∃ t, step s = .next t ∧ t.pending = rest ∧ ∀ p ∉ c.site, s.Same t p := by
  obtain ⟨t, hexec, hqueue, hsame⟩ := exec_next c { s with pending := rest }
  exact ⟨t, (step_of_pending_cons h).trans hexec, hqueue, hsame⟩

theorem run_succ {s u : State} (n : Nat) (h : step s = .next u) : run (n + 1) s = run n u := by
  simp [run, h]

/-- As many steps as commands wait run them all. -/
theorem run_drains (cs : List Instr) : ∀ s : State, s.pending = cs → ∃ t, run cs.length s = .next t ∧ t.pending = [] := by
  induction cs with
  | nil => exact fun s hqueue => ⟨s, rfl, hqueue⟩
  | cons c cs ih =>
    intro s hqueue
    obtain ⟨u, hstep, hrest, -⟩ := step_next_of_cons hqueue
    obtain ⟨t, hrun, hempty⟩ := ih u hrest
    exact ⟨t, (run_succ _ hstep).trans hrun, hempty⟩

/-- Settles O5: `run_drains` for the whole queue. -/
theorem everyQueueDrains : Obligations.EveryQueueDrains := fun s => run_drains s.pending s rfl

/-- A run leaves a part alone that no waiting command names. -/
theorem run_same {p : Part} (n : Nat) :
    ∀ s t : State, run n s = .next t → (∀ c ∈ s.pending, p ∉ c.site) → s.Same t p := by
  induction n with
  | zero =>
    intro s t hrun _
    cases hrun
    exact .refl s p
  | succ n ih =>
    intro s t hrun hoff
    cases hqueue : s.pending with
    | nil =>
      rw [run_succ n (step_of_pending_nil hqueue)] at hrun
      exact ih s t hrun hoff
    | cons c rest =>
      obtain ⟨u, hstep, hrest, hsame⟩ := step_next_of_cons hqueue
      rw [run_succ n hstep] at hrun
      rw [hqueue, List.forall_mem_cons, ← hrest] at hoff
      obtain ⟨hfront, hbehind⟩ := hoff
      exact (hsame p hfront).trans (ih u t hrun hbehind)

/-- Settles O7: `run_same` for each part. -/
theorem runsStayOnTheirParts : Obligations.RunsStayOnTheirParts := fun n s t hrun =>
  ⟨run_same (p := .gloesk) n s t hrun, run_same (p := .stanak) n s t hrun, run_same (p := .ihloon) n s t hrun⟩

/-! ### Held blocks -/

/-- Settles O9: of the ways of `Way`, the one that does not wait for the blocks is excluded, and the others leave the Gloesk as
it is while they are held (`State.onG_held`). That this is so also when the part is stuck or silent is the model's choice (log
entry 28). -/
theorem heldBlocksDoNothing : Obligations.HeldBlocksDoNothing := by
  intro c s hwaits hheld
  cases way c with
  | gk _ w =>
    obtain ⟨f, h⟩ | ⟨hfree, -⟩ := w s
    · exact ⟨_, h, congrArg State.gk (s.onG_held hheld f)⟩
    · exact absurd hwaits (Bool.eq_false_iff.1 hfree)
  | sk _ w =>
    obtain ⟨_, h⟩ := w
    exact ⟨_, h s, rfl⟩
  | ih _ w =>
    obtain ⟨_, h⟩ := w s
    exact ⟨_, h, rfl⟩
  | idle w => exact ⟨s, w s, rfl⟩
  | both _ _ w =>
    obtain ⟨f, h⟩ | ⟨_, h⟩ := w s
    · exact ⟨_, h, congrArg State.gk (s.onG_held hheld f)⟩
    · exact ⟨_, h, rfl⟩

end Sys2Proof.Machine
end

section
/-!
PROOFS. Folio (R394): what FREE and ABORT leave of the folio they name and of the others.
-/

namespace Sys2Proof.Machine.Gloesk

/-! ### What the recorder shows of its folios -/

theorem rest_fol (g : Gloesk) : g.rest.fol = g.fol := rfl
theorem rest_ink (g : Gloesk) : g.rest.ink = g.ink := rfl

theorem rest_showFolios (g : Gloesk) : g.showFolios.rest = g.rest := rfl

/-- FOL_STATUS and FOL_BUDGET lie below the registers of the folios. -/
theorem rd_showFolios (g : Gloesk) (e : Fld) (j : Nat) (h : e.reg = R.FOL_F_STAT) : g.showFolios.rd e j = g.rd e j := by
  have far (r : Reg) (hr : r.at 0 < R.FOL_F_STAT.addr) : e.reg.at j ≠ r.at 0 := by
    have : e.reg.at j = R.FOL_F_STAT.addr + R.FOL_F_STAT.stride * j := by rw [h, Reg.at]
    omega
  have hstatus : e.reg.at j ≠ R.FOL_STATUS.at 0 := far _ (by decide)
  have hbudget : e.reg.at j ≠ R.FOL_BUDGET.at 0 := far _ (by decide)
  unfold showFolios
  extract_lets mask used chn
  rw [rd_wr_far _ F.FOL_BUDGET_CHN e _ _ _ hbudget, rd_wr_far _ F.FOL_BUDGET_USED e _ _ _ hbudget,
    rd_wr_far _ F.FOL_STATUS_DONE e _ _ _ hstatus, rd_wr_far _ F.FOL_STATUS_TRIGD e _ _ _ hstatus,
    rd_wr_far _ F.FOL_STATUS_BUSY e _ _ _ hstatus]

/-! ### ABORT and FREE -/

section
variable (g : Gloesk) (n : Nat)

/-- Beside registers, ABORT changes the run of its folio alone. -/
theorem rest_folioAbort : (g.folioAbort n).rest = (g.onFolio n (fun _ => FolioRun.reset)).rest := rest_showFolios _

theorem runs_folioAbort : (g.folioAbort n).fol.runs = Tab.set FolioRun.reset g.fol.runs n FolioRun.reset := by
  rw [← rest_fol, rest_folioAbort]
  rfl

theorem folio_folioAbort_same : (g.folioAbort n).folio n = FolioRun.reset := by
  rw [folio, runs_folioAbort, Tab.get_set_same]

theorem folio_folioAbort_other {m : Nat} (h : m ≠ n) : (g.folioAbort n).folio m = g.folio m := by
  rw [folio, runs_folioAbort, Tab.get_set_other _ _ _ _ _ _ h, folio]

theorem rd_folioAbort (m : Nat) :
    (g.folioAbort n).rd F.FOL_F_STAT_STATE m = (g.wr F.FOL_F_STAT_STATE 0 n).rd F.FOL_F_STAT_STATE m :=
  rd_showFolios _ F.FOL_F_STAT_STATE m rfl

theorem state_folioAbort_same : (g.folioAbort n).rd F.FOL_F_STAT_STATE n = 0 :=
  (g.rd_folioAbort n n).trans (g.rd_wr_same F.FOL_F_STAT_STATE 0 n (by decide))

theorem state_folioAbort_other {m : Nat} (h : m ≠ n) :
    (g.folioAbort n).rd F.FOL_F_STAT_STATE m = g.rd F.FOL_F_STAT_STATE m := by
  refine (g.rd_folioAbort n m).trans (g.rd_wr_far F.FOL_F_STAT_STATE F.FOL_F_STAT_STATE 0 n m ?_)
  simp only [Reg.at, F.FOL_F_STAT_STATE, R.FOL_F_STAT]
  omega

/-- FREE of a DONE folio whose stream is complete does what ABORT does. -/
theorem folioFree_done (hdone : g.rd F.FOL_F_STAT_STATE n = 4) (hstream : (g.folio n).streamed = none) :
    g.folioFree n = g.folioAbort n := if_pos ⟨hdone, hstream⟩

theorem folioFree_ignored (h : g.rd F.FOL_F_STAT_STATE n ≠ 4 ∨ (g.folio n).streamed ≠ none) : g.folioFree n = g :=
  if_neg (not_and_or.2 h)

theorem folioAbort_ink : (g.folioAbort n).ink = g.ink := by
  rw [← rest_ink, rest_folioAbort]
  rfl

theorem folioFree_ink : (g.folioFree n).ink = g.ink := by
  by_cases h : g.rd F.FOL_F_STAT_STATE n = 4 ∧ (g.folio n).streamed = none
  · rw [g.folioFree_done n h.1 h.2, folioAbort_ink]
  · rw [g.folioFree_ignored n (not_and_or.1 h)]

end

end Sys2Proof.Machine.Gloesk

namespace Sys2Proof.Machine

/-- Settles O56: ABORT is `Gloesk.folioAbort`, and FREE is that or nothing. -/
theorem freeAndAbortReturnToIdle : Obligations.FreeAndAbortReturnToIdle := by
  intro s n hblocks
  refine ⟨s.gk.folioFree n, s.gk.folioAbort n, congrArg Host.Outcome.next (s.onG_run hblocks _),
    congrArg Host.Outcome.next (s.onG_run hblocks _), fun hdone hstream => ?free, s.gk.folioFree_ignored n,
    s.gk.state_folioAbort_same n, s.gk.folio_folioAbort_same n, fun m hm => ?others, s.gk.folioFree_ink n,
    s.gk.folioAbort_ink n⟩
  case free =>
    rw [s.gk.folioFree_done n hdone hstream]
    exact ⟨s.gk.state_folioAbort_same n, s.gk.folio_folioAbort_same n⟩
  case others =>
    have hmn : m.val ≠ n.val := Fin.val_ne_of_ne hm
    exact ⟨s.gk.folio_folioAbort_other n hmn, s.gk.state_folioAbort_other n hmn⟩

end Sys2Proof.Machine
end

section
/-!
PROOFS. The uplinks of the hub (R397, R404, R410): the steps of a receiver, each from its own state.
-/

namespace Sys2Proof.Machine

namespace Stanak

variable (h : Stanak) (n : Nat)

theorem rd_wr_same (f : Fld) (v : Nat) (hf : f.lo + f.wid ≤ 32) : (h.wr f v n).rd f n = v % 2 ^ f.wid :=
  RegFile.fld_setFld_same _ _ _ _ hf

/-- The state of an uplink receiver lies in HLAN_L_STAT, its counters in other registers. -/
theorem rd_lol_wr_rxst (v : Nat) : (h.wr F.HLAN_L_STAT_RXST v n).rd F.HLAN_L_CNT3_LOL n = h.rd F.HLAN_L_CNT3_LOL n := by
  refine RegFile.fld_setFld_other _ _ _ _ _ _ ?_
  simp only [Reg.at, F.HLAN_L_CNT3_LOL, F.HLAN_L_STAT_RXST, R.HLAN_L_CNT3, R.HLAN_L_STAT]
  omega

theorem upRx_from (a b : Nat) (hst : h.rd F.HLAN_L_STAT_RXST n = a) : h.upRx n a b = h.wr F.HLAN_L_STAT_RXST b n := if_pos hst

theorem upRx_stays (a b : Nat) (hst : h.rd F.HLAN_L_STAT_RXST n ≠ a) : h.upRx n a b = h := if_neg hst

/-- PILOT_LOCK in PILOT, with pilots that match. -/
theorem pilotLock_from (seen : List Nat) (x : LineRx) (hst : h.rd F.HLAN_L_STAT_RXST n = 2)
    (hseen : LineRx.ofPilots seen = some x) : h.pilotLock n seen =
      ((h.wr F.HLAN_L_STAT_RXST 3 n).onLan (fun l => { l with okRun := Tab.set 0 l.okRun n 0 })).onLine n (fun _ => x) := by
  simp only [pilotLock, hseen, hst, if_pos]

theorem pilotLock_stays (seen : List Nat) (hno : h.rd F.HLAN_L_STAT_RXST n ≠ 2 ∨ LineRx.ofPilots seen = none) :
    h.pilotLock n seen = h := by
  cases hseen : LineRx.ofPilots seen with
  | none => simp only [pilotLock, hseen]
  | some x =>
    have hst : h.rd F.HLAN_L_STAT_RXST n ≠ 2 := hno.resolve_right (by simp [hseen])
    simp only [pilotLock, hseen, if_neg hst]

theorem upHoldEnd_from (hst : h.rd F.HLAN_L_STAT_RXST n = 5) : h.upHoldEnd n = h.laneFalls n := if_pos hst

theorem upHoldEnd_stays (hst : h.rd F.HLAN_L_STAT_RXST n ≠ 5) : h.upHoldEnd n = h := if_neg hst

theorem rd_rxst_laneFalls : (h.laneFalls n).rd F.HLAN_L_STAT_RXST n = 0 := by
  have hfar : F.HLAN_L_STAT_RXST.reg.at n ≠ F.HLAN_L_CNT3_LOL.reg.at n := by
    simp only [Reg.at, F.HLAN_L_CNT3_LOL, F.HLAN_L_STAT_RXST, R.HLAN_L_CNT3, R.HLAN_L_STAT]
    omega
  exact (RegFile.fld_addSat_other _ _ _ _ _ _ hfar).trans (h.rd_wr_same n F.HLAN_L_STAT_RXST 0 (by decide))

theorem rd_lol_laneFalls : (h.laneFalls n).rd F.HLAN_L_CNT3_LOL n =
    min (h.rd F.HLAN_L_CNT3_LOL n + 1) (2 ^ F.HLAN_L_CNT3_LOL.wid - 1) := by
  rw [← h.rd_lol_wr_rxst n 0]
  exact RegFile.fld_addSat_same _ F.HLAN_L_CNT3_LOL 1 n (by decide)

/-- LOSS_OF_SIGNAL on an uplink: a receiver that is UP loses the frame in transit and goes to HOLD. -/
def signalLost : Stanak :=
  (h.iff (h.rd F.HLAN_L_STAT_RXST n == 4) (·.onLine n LineRx.drop)).upRx n 4 5

theorem signalLost_from (hst : h.rd F.HLAN_L_STAT_RXST n = 4) :
    h.signalLost n = (h.onLine n LineRx.drop).wr F.HLAN_L_STAT_RXST 5 n := by
  have hdrop : h.iff (h.rd F.HLAN_L_STAT_RXST n == 4) (·.onLine n LineRx.drop) = h.onLine n LineRx.drop :=
    if_pos (by simp [hst])
  rw [signalLost, hdrop]
  exact upRx_from _ n 4 5 hst

theorem signalLost_stays (hst : h.rd F.HLAN_L_STAT_RXST n ≠ 4) : h.signalLost n = h := by
  have hkeep : h.iff (h.rd F.HLAN_L_STAT_RXST n == 4) (·.onLine n LineRx.drop) = h := if_neg (by simp [hst])
  rw [signalLost, hkeep, upRx_stays _ _ _ _ hst]

end Stanak

/-- A step of an uplink receiver from state `a` to state `b`: from `a` it writes the state and keeps LOL, from any other it does
nothing. -/
theorem State.upRx_step (s : State) (n a b : Nat) (hb : b < 8) :
    (s.sk.rd F.HLAN_L_STAT_RXST n = a →
      s.onH (·.upRx n a b) = s.skNext { s.sk with regs := s.sk.regs.setFld F.HLAN_L_STAT_RXST b n } ∧
      (s.onH (·.upRx n a b)).sk.rd F.HLAN_L_STAT_RXST n = b ∧
      (s.onH (·.upRx n a b)).sk.rd F.HLAN_L_CNT3_LOL n = s.sk.rd F.HLAN_L_CNT3_LOL n) ∧
    (s.sk.rd F.HLAN_L_STAT_RXST n ≠ a → s.onH (·.upRx n a b) = s) := by
  refine ⟨fun hst => ?_, fun hst => congrArg s.skNext (s.sk.upRx_stays n a b hst)⟩
  have hstep : s.onH (·.upRx n a b) = s.skNext (s.sk.wr F.HLAN_L_STAT_RXST b n) :=
    congrArg s.skNext (s.sk.upRx_from n a b hst)
  rw [hstep]
  refine ⟨rfl, ?_, s.sk.rd_lol_wr_rxst n b⟩
  exact (s.sk.rd_wr_same n F.HLAN_L_STAT_RXST b (by decide)).trans (Nat.mod_eq_of_lt hb)

/-- Settles O57: the steps from one state to the next are `State.upRx_step`. -/
theorem uplinkReceiverStates : Obligations.UplinkReceiverStates := by
  intro s n seen
  refine ⟨s.onH (·.upRx n 0 1), s.onH (·.upRx n 1 2), s.onH (·.pilotLock n (seen.map (·.val))), s.onH (·.signalLost n),
    s.onH (·.upRx n 5 4), s.onH (·.upHoldEnd n), rfl, rfl, rfl, rfl, rfl, rfl, ?steps, fun hst x hx => ?locks, fun hno => ?unlocked,
    fun hst => ?lost, fun hst => ?notUp, fun hst => ?held, fun hst => ?notHeld, rfl, rfl⟩
  case steps =>
    simp only [List.forall_mem_cons, List.not_mem_nil, false_imp_iff, implies_true, and_true]
    exact ⟨s.upRx_step n 0 1 (by decide), s.upRx_step n 1 2 (by decide), s.upRx_step n 5 4 (by decide)⟩
  case locks =>
    rw [State.onH_sk, s.sk.pilotLock_from n _ x hst hx]
    exact ⟨rfl, s.sk.rd_wr_same n F.HLAN_L_STAT_RXST 3 (by decide), Tab.get_set_same _ _ _ _⟩
  case unlocked => exact congrArg s.skNext (s.sk.pilotLock_stays n _ hno)
  case lost =>
    have hstep : s.onH (·.signalLost n) = s.skNext ((s.sk.onLine n LineRx.drop).wr F.HLAN_L_STAT_RXST 5 n) :=
      congrArg s.skNext (s.sk.signalLost_from n hst)
    rw [hstep]
    exact ⟨rfl, Stanak.rd_wr_same _ n F.HLAN_L_STAT_RXST 5 (by decide), Stanak.rd_lol_wr_rxst _ n 5⟩
  case notUp => exact congrArg s.skNext (s.sk.signalLost_stays n hst)
  case held =>
    rw [State.onH_sk, s.sk.upHoldEnd_from n hst]
    exact ⟨s.sk.rd_rxst_laneFalls n, s.sk.rd_lol_laneFalls n⟩
  case notHeld => exact congrArg s.skNext (s.sk.upHoldEnd_stays n hst)

end Sys2Proof.Machine
end

section
/-!
PROOFS. Identity and keys (R422): what a provisioning write leaves of a hub and of a cell.
-/

namespace Sys2Proof.Machine

/-- The trust of a part once SEC_PROV has provisioned slot 0 (R422). -/
def PartSec.provisioned (p : PartSec) (usage : Nat) : PartSec :=
  { p with lcs := 1, slots := p.slots.set 0 ⟨true, usage, false⟩ }

theorem Stanak.provision_ignored (h : Stanak) (usage : Nat) (hlcs : h.trust.lcs ≠ 0) : h.provision usage = h := if_pos hlcs

/-- In BLANK a provisioning write changes the trust of the hub and registers alone. -/
theorem Stanak.provision_blank (h : Stanak) (usage : Nat) (hlcs : h.trust.lcs = 0) :
    { h.provision usage with regs := [] } = { h with regs := [], trust := h.trust.provisioned usage } := by
  have hshow : h.provision usage = (h.onTrust (·.provisioned usage)).showTrust := if_neg (not_not.2 hlcs)
  rw [hshow, Stanak.showTrust_rest]
  rfl

theorem Ihloon.provision_ignored (c : Ihloon) (usage : Nat) (hlcs : c.trust.lcs ≠ 0) : c.provision usage = c := if_pos hlcs

/-- In BLANK a provisioning write changes the trust of the cell and registers alone. -/
theorem Ihloon.provision_blank (c : Ihloon) (usage : Nat) (hlcs : c.trust.lcs = 0) :
    { c.provision usage with regs := [] } = { c with regs := [], trust := c.trust.provisioned usage } := by
  have hshow : c.provision usage = (c.onTrust (·.provisioned usage)).showTrust := if_neg (not_not.2 hlcs)
  rw [hshow, Ihloon.showTrust_rest]
  rfl

/-- Settles O58: at either part the write is ignored outside BLANK, and in BLANK its frame is that of `provision_blank`. -/
theorem provisioningOnlyInBlank : Obligations.ProvisioningOnlyInBlank := by
  intro s usage
  refine ⟨s.skNext (s.sk.provision usage), rfl, rfl, rfl, s.sk.provision_ignored usage, fun hblank => ?hub,
    fun hruns => ⟨s.ihNext (s.ih.provision usage), ?runs, rfl, rfl, s.ih.provision_ignored usage, fun hblank => ?cell⟩⟩
  case hub =>
    have hframe := s.sk.provision_blank usage hblank
    exact ⟨(congrArg Stanak.trust hframe :), (congrArg Stanak.hub hframe :), (congrArg Stanak.follow hframe :),
      (congrArg Stanak.blt hframe :), (congrArg Stanak.sent hframe :)⟩
  case runs => exact congrArg Host.Outcome.next (s.onPart_ih_run hruns _ _ _)
  case cell =>
    have hframe := s.ih.provision_blank usage hblank
    exact ⟨(congrArg Ihloon.cell hframe :), (congrArg Ihloon.follow hframe :), (congrArg Ihloon.sent hframe :),
      (congrArg Ihloon.trust hframe :)⟩

end Sys2Proof.Machine
end

section
/-!
PROOFS. The host interface (R452): MSI-X messages that go out, that wait, and that an unmask sends.
-/

namespace Sys2Proof.Machine

namespace Gloesk

section
variable (g : Gloesk) (v : Nat)

theorem msix_unmasked (h : bit g.hst.msixMask v = false) : g.msix v = g.send .msix [v] := if_neg (by simp [h])

theorem msix_masked (h : bit g.hst.msixMask v = true) :
    g.msix v = g.onHst (fun s => { s with msixPend := setBit s.msixPend v true }) := if_pos h

/-- A message changes no register. -/
theorem msix_regs : (g.msix v).regs = g.regs := by
  cases h : bit g.hst.msixMask v with
  | true => rw [g.msix_masked v h, onHst]
  | false => rw [g.msix_unmasked v h, send]

/-- Vector `v` neither masked nor pending. -/
def openVector : Gloesk :=
  g.onHst (fun s => { s with msixMask := setBit s.msixMask v false, msixPend := setBit s.msixPend v false })

theorem mask_openVector : bit (g.openVector v).hst.msixMask v = false := bit_setBit _ _ _
theorem pend_openVector : bit (g.openVector v).hst.msixPend v = false := bit_setBit _ _ _

/-- Unmasking a vector opens it and sends the message that was pending. -/
theorem msixUnmask_eq : g.msixUnmask v =
    { g.openVector v with sent := g.sent ++ if bit g.hst.msixPend v = true then [⟨.msix, [v]⟩] else [] } := by
  have hopen : g.msixUnmask v = if bit g.hst.msixPend v then (g.openVector v).msix v else g.openVector v := rfl
  rw [hopen, msix_unmasked _ _ (g.mask_openVector v)]
  split
  · rfl
  · rw [List.append_nil]
    rfl

end

end Gloesk

/-- Settles O59. The statement unmasks vector 5; `Gloesk.msixUnmask_eq` says the same of every vector. -/
theorem doorbellSendsVectorFive : Obligations.DoorbellSendsVectorFive := by
  intro s v
  refine ⟨s.gk.doorbell v.toNat, rfl, ?value, fun hopen => ?sent, fun hmasked => ?pending, s.gk.msixUnmask 5, rfl, ?unmasked⟩
  case value =>
    rw [Gloesk.rd, Gloesk.doorbell, Gloesk.msix_regs]
    exact (s.gk.rd_wr_same F.HST_DOORBELL_VAL v.toNat 0 (by decide)).trans (Nat.mod_eq_of_lt v.isLt)
  case sent =>
    have hmsix : s.gk.doorbell v.toNat = (s.gk.wr F.HST_DOORBELL_VAL v.toNat).send .msix [5] := Gloesk.msix_unmasked _ 5 hopen
    rw [hmsix]
    exact ⟨rfl, rfl⟩
  case pending =>
    have hmsix : s.gk.doorbell v.toNat = (s.gk.wr F.HST_DOORBELL_VAL v.toNat).onHst
        (fun s => { s with msixPend := setBit s.msixPend 5 true }) := Gloesk.msix_masked _ 5 hmasked
    rw [hmsix]
    exact ⟨rfl, bit_setBit _ _ _⟩
  case unmasked =>
    rw [Gloesk.msixUnmask_eq]
    exact ⟨s.gk.mask_openVector 5, s.gk.pend_openVector 5, rfl⟩

/-- After reset every vector is masked (log entry 9): a doorbell waits, and unmasking vector 5 sends it. -/
theorem State.reset_doorbell_waits : (State.reset.gk.doorbell 1).sent = [] ∧
    ((State.reset.gk.doorbell 1).msixUnmask 5).sent = [⟨.msix, [5]⟩] := by decide

end Sys2Proof.Machine
end

section
/-!
PROOFS. The reset of the hub (R470, R472): what it returns to the reset state and what it keeps.
-/

namespace Sys2Proof.Machine

namespace Stanak

/-- The states of transmitter and receiver of a lane are apart, whichever lanes they are of. -/
theorem rd_rxst_wr_txst (h : Stanak) (v i n : Nat) : (h.wr F.HLAN_L_STAT_TXST v i).rd F.HLAN_L_STAT_RXST n =
    h.rd F.HLAN_L_STAT_RXST n := by
  by_cases hn : n = i
  · subst hn
    exact RegFile.fld_setFld_disjoint _ _ _ _ _ rfl (by decide) (by decide)
  · refine RegFile.fld_setFld_other _ _ _ _ _ _ ?_
    simp only [Reg.at, F.HLAN_L_STAT_RXST, F.HLAN_L_STAT_TXST, R.HLAN_L_STAT]
    omega

/-- A reset takes the receivers of both uplinks to NOSIG. -/
theorem rd_rxst_hubReset (h : Stanak) (n : Fin 2) : h.hubReset.rd F.HLAN_L_STAT_RXST n = 0 := by
  have hbelow : F.HLAN_L_STAT_RXST.reg.at n < R.HSEC_ATT.addr := by
    simp only [Reg.at, F.HLAN_L_STAT_RXST, R.HLAN_L_STAT, R.HSEC_ATT]
    omega
  have hreset : Stanak.reset.rd F.HLAN_L_STAT_RXST n = 0 := by
    simp [Stanak.rd, Stanak.reset, RegFile.fld, Reg.reset, Fld.ofWord, F.HLAN_L_STAT_RXST, R.HLAN_L_STAT]
  exact (rd_rxst_wr_txst _ 1 1 n).trans ((rd_rxst_wr_txst _ 1 0 n).trans ((showTrust_rd _ _ _ hbelow).trans hreset))

end Stanak

/-- Settles O60: the frame is that of `Stanak.hubReset_rest`, and both commands are the one reset. That the hub's stroke number
stays is the model's choice: R470 and R472 do not speak of it. No link has keys until the attestation of R470 item 2. -/
theorem hubResetReturnsToReset : Obligations.HubResetReturnsToReset := by
  intro s
  have hframe := s.sk.hubReset_rest
  simp only [Stanak.mk.injEq, true_and] at hframe
  obtain ⟨hlatches, -, -, hstroke, hblt, hfollow, hlan, hhub, htrust⟩ := hframe
  refine ⟨s.skNext s.sk.hubReset, rfl, rfl, rfl, rfl, hhub, hfollow, hlan, hblt, hlatches, hstroke, ?_⟩
  rw [State.skNext_sk, htrust]
  exact ⟨rfl, rfl, rfl, rfl, rfl, s.sk.rd_rxst_hubReset⟩

end Sys2Proof.Machine
end

section
/-!
PROOFS. The commands of each chapter (R26-R474): how a command to each part completes, and that every command of the table
completes in this way.
-/

namespace Sys2Proof.Machine

/-! ### How a command completes -/

namespace State

/-- A command to the Gloesk while its blocks run. -/
theorem next_onG (s : State) (hb : s.gk.blocksRun = true) (f : Gloesk → Gloesk) :
    (.next (s.onG f) : Host.Outcome State Fault Refusal) = .next (s.gkNext (f s.gk)) :=
  congrArg Host.Outcome.next (s.onG_run hb f)

/-- A message over a link of the Gloesk acts over an open link and is discarded over a closed one (R404, R428). -/
theorem next_onG_linked (s : State) (hb : s.gk.blocksRun = true) (l : Nat) (f : Gloesk → Gloesk) :
    (s.gk.linkOpen l = true →
      (.next (s.onG (·.linked l f)) : Host.Outcome State Fault Refusal) = .next (s.gkNext (f s.gk))) ∧
    (s.gk.linkOpen l = false →
      (.next (s.onG (·.linked l f)) : Host.Outcome State Fault Refusal) = .next (s.gkNext s.gk)) :=
  (s.onG_linked l f hb).imp (congrArg Host.Outcome.next <| · ·) (congrArg Host.Outcome.next <| · ·)

/-- A message over a link of the hub acts over an open link and is discarded over a closed one (R404, R428). -/
theorem next_onH_linked (s : State) (l : Nat) (f : Stanak → Stanak) :
    (s.sk.linkOpen l = true →
      (.next (s.onH (·.linked l f)) : Host.Outcome State Fault Refusal) = .next (s.skNext (f s.sk))) ∧
    (s.sk.linkOpen l = false →
      (.next (s.onH (·.linked l f)) : Host.Outcome State Fault Refusal) = .next (s.skNext s.sk)) :=
  (s.onH_linked l f).imp (congrArg Host.Outcome.next <| · ·) (congrArg Host.Outcome.next <| · ·)

/-- A message at a cell port that is UP acts if it is framed and its tag verifies, and is counted otherwise (R170-R172). -/
theorem next_hears (s : State) (c : Nat) (m : LinkMsg) (f : Stanak → Stanak) (hup : s.sk.rd F.HLNK_LK_STAT_RXST c = 3) :
    (m.recent s.sk.stroke = true →
      (.next (s.onH (·.hears c m f)) : Host.Outcome State Fault Refusal) = .next (s.skNext (f s.sk))) ∧
    (m.recent s.sk.stroke = false →
      (.next (s.onH (·.hears c m f)) : Host.Outcome State Fault Refusal) =
        .next (s.skNext (s.sk.inc F.HLNK_LK_CNT1_MDISC c))) :=
  ⟨fun h => congrArg (Host.Outcome.next <| s.skNext ·) (s.sk.hears_good c m f hup h),
    fun h => congrArg (Host.Outcome.next <| s.skNext ·) (s.sk.hears_bad c m f hup h)⟩

/-- A command to the main domain of the cell while that runs. -/
theorem next_onPart_ih (s : State) (hm : s.ih.mainRuns = true) (fg : Gloesk → Gloesk) (fh : Nat → Stanak → Stanak)
    (fc : Nat → Ihloon → Ihloon) :
    (.next (s.onPart .ihloon fg fh fc) : Host.Outcome State Fault Refusal) = .next (s.ihNext (fc s.period s.ih)) :=
  congrArg Host.Outcome.next (s.onPart_ih_run hm fg fh fc)

/-- A loop word that is the next word of its lane. -/
theorem next_laneNext (s : State) (hb : s.gk.blocksRun = true) {lane : Nat} {win : LoopWindow} {ln : LaneState} {n op : Nat}
    (hat : s.gk.laneAt lane win ln n op) :
    (.next (s.onG (·.laneNext lane (· == op))) : Host.Outcome State Fault Refusal) =
      .next (s.gkNext (s.gk.laneStep win lane ln n)) :=
  congrArg Host.Outcome.next (s.onG_laneNext hb hat)

/-- An instruction at the pc of a running pair that goes on to `g`. -/
theorem next_quill (s : State) (hb : s.gk.blocksRun = true) {q : Fin 16} {w : Nat} {g : Gloesk}
    {fg : Gloesk → Nat → Option Gloesk} {fc : Nat → Ihloon → Ihloon} (hat : s.gk.coreAt q w) (hg : fg s.gk q = some g) :
    (.next (s.quillBoth (.q q) w 0 fg fc) : Host.Outcome State Fault Refusal) =
      .next (s.gkNext (g.onPair q (fun k => { k with stepping := false }))) :=
  (s.next_onG hb _).trans (congrArg (Host.Outcome.next <| s.gkNext ·) (quill_runs s.gk q w (fg · q) g hat hg))

/-- An instruction at the pc of a running pair that never waits. -/
theorem next_quill_total (s : State) (hb : s.gk.blocksRun = true) {q : Fin 16} {w : Nat} {f : Gloesk → Nat → Gloesk}
    {fc : Nat → Ihloon → Ihloon} (hat : s.gk.coreAt q w) :
    (.next (s.quillBoth (.q q) w 0 (fun g n => some (f g n)) fc) : Host.Outcome State Fault Refusal) =
      .next (s.gkNext ((f s.gk q).onPair q (fun k => { k with stepping := false }))) :=
  s.next_quill hb hat rfl

/-- An instruction at the pc of the running Quill-S. -/
theorem next_quillS (s : State) {w : Nat} {fg : Gloesk → Nat → Option Gloesk} {fc : Nat → Ihloon → Ihloon}
    (hat : s.ih.coreAt w) : (.next (s.quillBoth .s w 0 fg fc) : Host.Outcome State Fault Refusal) =
      .next (s.ihNext ((fc s.period s.ih).onCore (fun k => { k with stepping := false }))) :=
  congrArg (Host.Outcome.next <| s.ihNext ·) (quillS_runs s.ih s.period w _ hat)

end State

/-- Over an open cell link the port is UP. -/
theorem Stanak.port_up_of_linkOpen {h : Stanak} {c : Nat} (hopen : h.linkOpen (2 + c) = true) :
    h.rd F.HLNK_LK_STAT_RXST c = 3 := by
  simp only [linkOpen, Bool.and_eq_true, if_neg (by omega : ¬2 + c < 2), Nat.add_sub_cancel_left, beq_iff_eq] at hopen
  exact hopen.2

/-! ### Time, Ruling, inputs, loops and ranks (R26-R165) -/

/-- Settles O13: a command acts on the Gloesk, over a link of it or of the hub, or as the part's own step. -/
theorem timeCommandsComplete : Obligations.TimeCommandsComplete := by
  intro s
  refine ⟨fun hb => ?gloesk, rfl, rfl, fun _ _ => rfl, fun lane twin claim reply seq t1 t2 t3 t4 hlane => ?uplink,
    fun link m reply seq t1 t2 t3 t4 locked hpop hopen => ?port, fun link _ _ _ _ _ _ _ _ hlink => ?cell⟩
  case gloesk =>
    have own := s.next_onG hb
    have heard := s.next_onG_linked hb
    exact ⟨own _, own _, fun _ _ _ _ _ _ _ => own _, fun _ _ _ _ => own _, fun _ _ _ => own _, fun _ _ _ _ => own _,
      fun _ _ _ _ _ => own _, fun _ => own _, fun _ _ _ _ _ => own _, own _, own _, fun _ => own _, fun _ => own _, own _,
      fun _ => own _, fun _ => own _, fun _ => own _, fun _ => own _, fun _ _ _ _ _ => heard _ _, fun _ _ => own _,
      fun _ _ _ _ _ _ _ _ _ => heard _ _, fun _ _ => own _⟩
  case uplink =>
    exact ⟨s.exec_timeFrame_uplink lane twin claim reply seq t1 t2 t3 t4 hlane,
      fun hshut => congrArg Host.Outcome.next ((if_pos hlane).trans ((s.onH_linked _ _).2 hshut))⟩
  case port =>
    have hheard : exec (.timeMessage .stanak link m reply seq t1 t2 t3 t4 locked) s = .next (s.onH (·.hears link m id)) :=
      congrArg (Host.Outcome.next <| s.skNext ·) ((if_pos hpop).trans (s.sk.linked_open _ _ hopen))
    rw [hheard]
    exact s.next_hears link m id (Stanak.port_up_of_linkOpen hopen)
  case cell => exact congrArg Host.Outcome.next (if_pos hlink)

/-- Settles O14: every command is one to the Gloesk; a record that the partner sends comes over the Ligature link. -/
theorem rulingCommandsComplete : Obligations.RulingCommandsComplete := by
  intro s hb
  have own := s.next_onG hb
  exact ⟨fun _ => own _, fun _ => own _, fun _ _ => own _, fun _ _ => own _, fun _ => own _,
    fun _ _ _ _ => s.next_onG_linked hb _ _, own _, own _, own _, own _, fun _ _ _ _ => own _, fun _ _ _ => own _,
    fun _ => own _, fun _ _ => own _⟩

/-- Settles O15: commands to the Gloesk, and what comes over the Ligature link or a hub lane. -/
theorem inputCommandsComplete : Obligations.InputCommandsComplete := by
  intro s hb
  have own := s.next_onG hb
  have heard := s.next_onG_linked hb
  exact ⟨fun _ _ => own _, fun _ _ => own _, fun _ _ _ _ _ _ => own _, fun _ => own _, fun _ => own _, fun _ => own _,
    fun _ _ => own _, fun _ _ _ _ => heard _ _, fun _ _ _ _ _ _ _ _ _ => heard _ _, fun _ => own _, fun _ _ => heard _ _,
    fun _ _ _ => own _, fun _ => own _, fun _ => own _, fun _ _ => heard _ _, fun _ => own _, fun _ _ => heard _ _,
    fun _ _ => heard _ _, fun _ _ _ _ _ => own _, fun _ => own _, fun _ => own _, fun _ => own _⟩

/-- Settles O16: the barriers, then the words (`State.next_laneNext`), then the commands that set loops, tables and taps. -/
theorem loopCommandsComplete : Obligations.LoopCommandsComplete := by
  intro s hb
  have own := s.next_onG hb
  refine ⟨own _, fun _ => own _, ?_⟩
  repeat refine ⟨fun _ _ _ _ hat => s.next_laneNext hb hat, ?_⟩
  and_intros <;> intros <;> exact own _

/-- Settles O17: every command is one to the Gloesk. -/
theorem rankCommandsComplete : Obligations.RankCommandsComplete := by
  intro s hb
  and_intros <;> intros <;> exact s.next_onG hb _

/-! ### Dispatch, management and the cell (R166-R257) -/

/-- Settles O18: frames come over a link of the Gloesk or the hub, the other commands are the part's own. -/
theorem dispatchCommandsComplete : Obligations.DispatchCommandsComplete := by
  intro s
  have heard := s.next_onH_linked
  exact ⟨fun hb => ⟨fun _ => s.next_onG hb _, fun _ _ => s.next_onG_linked hb _ _, fun _ _ _ _ _ => s.next_onG_linked hb _ _⟩,
    fun _ _ _ _ => heard _ _, fun _ => rfl, fun _ _ _ _ _ _ => heard _ _, fun _ _ _ _ => rfl, rfl, rfl, rfl⟩

/-- Settles O19: answers of a cell are what the hub hears at its port (`State.next_hears`). -/
theorem managementCommandsComplete : Obligations.ManagementCommandsComplete := by
  intro s
  refine ⟨fun hb => ?gloesk, fun _ _ _ _ _ => rfl, fun _ _ _ _ _ _ => rfl, fun _ _ _ _ _ _ _ => rfl,
    fun _ _ _ _ => s.next_hears _ _ _, fun _ _ _ => s.next_hears _ _ _, fun _ _ _ _ _ => s.next_hears _ _ _,
    fun _ _ _ _ _ _ => rfl, fun _ _ _ _ _ _ _ _ _ => rfl, fun _ => rfl, rfl⟩
  case gloesk =>
    have own := s.next_onG hb
    exact ⟨fun _ _ _ _ _ => own _, fun _ _ _ _ _ _ => own _, own _, own _⟩

/-- Settles O20: every command is a step of the cell. -/
theorem nibCommandsComplete : Obligations.NibCommandsComplete := by
  intro s
  and_intros <;> intros <;> rfl

/-- Settles O21: the commands to the Gloesk wait for its blocks, those to the cell do not. -/
theorem acquisitionCommandsComplete : Obligations.AcquisitionCommandsComplete := by
  intro s
  refine ⟨fun hb => ?gloesk, ?cell⟩
  case gloesk => and_intros <;> intros <;> exact s.next_onG hb _
  case cell => and_intros <;> intros <;> rfl

/-- Settles O22: every command is a step of the cell. -/
theorem reservoirCommandsComplete : Obligations.ReservoirCommandsComplete := by
  intro s
  and_intros <;> intros <;> rfl

/-! ### Quill and Ductus (R258-R305) -/

/-- Settles O23: on a pair an instruction is `State.next_quill`, on the Quill-S `State.next_quillS`, and one that acts on the
core alone is `State.quillCore_runs` on both. -/
theorem quillCommandsComplete : Obligations.QuillCommandsComplete := by
  intro s
  refine ⟨fun hb => ?pair, ?_⟩
  case pair =>
    have own := s.next_onG hb
    have acts := @State.next_quill_total s hb
    have goes := @State.next_quill s hb
    exact ⟨fun _ _ _ _ _ hat => acts hat, fun _ _ _ _ _ hat => acts hat, fun _ _ _ _ _ hat => acts hat,
      fun _ _ _ _ _ hat => acts hat, fun _ _ _ _ _ hat => acts hat, fun _ _ _ _ _ hat => acts hat,
      fun _ _ _ _ _ hat => acts hat, fun _ _ _ _ _ hat => acts hat, fun _ _ _ hat => acts hat, fun _ _ _ hat => acts hat,
      fun _ _ _ _ hat => acts hat, fun _ _ _ _ hat => acts hat, fun _ _ _ _ _ _ hat hg => goes hat hg,
      fun _ _ _ _ _ _ hat hg => goes hat hg, fun _ _ _ hat => acts hat, fun _ _ _ _ _ hat hg => goes hat hg,
      fun _ _ _ hat => acts hat, fun _ _ hat => acts hat, fun _ _ _ hat hg => goes hat hg, fun _ _ hat hg => goes hat hg,
      fun _ _ hat hg => goes hat hg, fun _ _ hat => acts hat, fun _ hat => acts hat, fun _ _ _ _ _ _ hat hg => goes hat hg,
      fun _ _ _ _ _ _ hat hg => goes hat hg, fun _ _ _ _ hat hg => goes hat hg, fun _ _ _ _ hat => acts hat,
      fun _ _ _ hat => acts hat, fun _ _ _ _ => own _, fun _ => own _, fun _ _ => own _, fun _ => own _, fun _ _ => own _,
      fun _ _ => own _⟩
  -- integer instructions, loads and stores, branches, accumulators and vector forms, special registers; interrupts and debug
  repeat refine ⟨by intros; exact s.quillCore_runs _ _ _ fun _ => rfl, ?_⟩
  repeat refine ⟨fun _ _ _ _ hat => s.next_quillS hat, ?_⟩
  repeat refine ⟨by intros; exact s.quillCore_runs _ _ _ fun _ => rfl, ?_⟩
  repeat refine ⟨by intros; exact s.next_quillS ‹_›, ?_⟩
  exact ⟨fun _ => rfl, fun _ => rfl, rfl, fun _ => rfl⟩

/-- Settles O24: every command is one to the Gloesk. -/
theorem schedulerCommandsComplete : Obligations.SchedulerCommandsComplete := by
  intro s hb
  and_intros <;> intros <;> exact s.next_onG hb _

/-! ### Inkwell, twins, Blotters and Folio (R306-R396) -/

/-- Settles O25: every command is one to the Gloesk. -/
theorem inkwellCommandsComplete : Obligations.InkwellCommandsComplete := by
  intro s hb
  and_intros <;> intros <;> exact s.next_onG hb _

/-- Settles O26: heartbeats and state frames come over a link, the other commands are the twin's own. -/
theorem twinCommandsComplete : Obligations.TwinCommandsComplete := by
  intro s
  refine ⟨fun hb => ?gloesk, fun _ _ => s.next_onH_linked _ _⟩
  have own := s.next_onG hb
  have heard := s.next_onG_linked hb
  exact ⟨own _, fun _ _ _ _ _ _ => heard _ _, own _, fun _ => own _, own _, own _, fun _ => own _, fun _ => heard _ _, own _,
    fun _ _ => own _⟩

/-- Settles O27: a source belongs to the Gloesk, the hub, or the main domain of the cell while that runs. -/
theorem blotterCommandsComplete : Obligations.BlotterCommandsComplete := by
  intro s
  have cell (hm) := s.next_onPart_ih hm
  refine ⟨fun hb => ?gloesk, fun _ _ => rfl, fun _ _ hm => cell hm _ _ _, fun _ _ => rfl, fun _ _ hm => cell hm _ _ _,
    fun _ => rfl, fun _ hm => cell hm _ _ _, fun _ => rfl, fun _ hm => cell hm _ _ _, fun _ _ => rfl,
    fun _ _ hm => cell hm _ _ _, fun _ _ => rfl, fun _ => rfl, fun _ => rfl, fun _ => rfl, fun _ => rfl⟩
  case gloesk => and_intros <;> intros <;> exact s.next_onG hb _

/-- Settles O28: every command is one to the Gloesk. -/
theorem recorderCommandsComplete : Obligations.RecorderCommandsComplete := by
  intro s hb
  and_intros <;> intros <;> exact s.next_onG hb _

/-! ### Lanes, security, host and power (R397-R474) -/

/-- Settles O29: at each end the command is the part's own; CELL_LINK_UP needs a populated port or a running cell. -/
theorem laneCommandsComplete : Obligations.LaneCommandsComplete := by
  intro s
  refine ⟨fun hb => ?gloesk, ?_⟩
  case gloesk => and_intros <;> intros <;> exact s.next_onG hb _
  repeat refine ⟨by intros; rfl, ?_⟩
  refine ⟨fun _ _ hpop => congrArg (Host.Outcome.next <| s.skNext ·) (if_pos hpop),
    fun _ _ hm => congrArg (Host.Outcome.next <| s.ihNext ·) (if_pos hm), ?_⟩
  and_intros <;> intros <;> rfl

/-- Settles O30: a command to the cell needs its main domain, evidence from the partner the Ligature link. -/
theorem securityCommandsComplete : Obligations.SecurityCommandsComplete := by
  intro s
  have cell (hm) := s.next_onPart_ih hm
  refine ⟨fun hb => ?gloesk, fun _ _ => rfl, fun _ _ hm => cell hm _ _ _, fun _ _ _ _ => rfl, fun _ => rfl, fun _ => rfl,
    fun _ hm => cell hm _ _ _, rfl, fun _ _ _ => rfl, fun _ _ _ hm => cell hm _ _ _, rfl, fun hm => cell hm _ _ _, rfl,
    fun hm => cell hm _ _ _, fun _ => rfl, fun _ hm => cell hm _ _ _, rfl, fun hm => cell hm _ _ _⟩
  case gloesk =>
    have own := s.next_onG hb
    exact ⟨fun _ _ => own _, fun _ _ _ _ => own _, fun _ => own _, fun _ _ _ _ _ => s.next_onG_linked hb _ _,
      fun _ _ _ _ _ _ => own _, own _, fun _ => own _, own _, fun _ _ _ => own _, own _, own _, fun _ => own _,
      fun _ => own _, own _⟩

/-- Settles O31: a register of HST and PWR answers while the blocks are held, any other only while they run. -/
theorem hostCommandsComplete : Obligations.HostCommandsComplete := by
  intro s
  have goesTo {t u : State} (h : t = u) : (.next t : Host.Outcome State Fault Refusal) = .next u := congrArg _ h
  refine ⟨fun hb => ?gloesk, fun _ => rfl, rfl, fun _ _ _ _ hheld => goesTo (s.registerWrite_held _ _ _ _ hheld), rfl, rfl,
    fun _ _ _ => rfl, fun _ => rfl, fun _ => rfl, fun _ => rfl, fun _ _ => rfl,
    fun _ _ _ hwho hheld => goesTo (s.registerRead_held _ _ _ hwho hheld)⟩
  case gloesk =>
    have own := s.next_onG hb
    exact ⟨fun _ _ _ _ hopen => (goesTo (s.registerWrite_open _ _ _ _ hopen)).trans (own _), fun _ _ _ _ => own _,
      fun _ _ _ _ => own _, fun _ _ _ _ _ _ => own _, fun _ => own _, fun _ _ => own _, fun _ _ _ => own _,
      fun _ _ _ hwho hopen => (goesTo (s.registerRead_open _ _ _ hwho hopen)).trans (own _),
      fun _ _ hdebug => (goesTo (s.registerRead_debug _ _ hdebug)).trans (own _)⟩

/-- Settles O32: the commands of power and start-up act on held blocks too, but for the cell load queue. -/
theorem powerCommandsComplete : Obligations.PowerCommandsComplete := by
  intro s
  refine ⟨fun hb _ => s.next_onG hb _, ?_⟩
  repeat refine ⟨by intros; rfl, ?_⟩
  exact ⟨fun _ _ _ _ _ _ => s.next_onH_linked _ _, fun _ => rfl, rfl, rfl⟩

end Sys2Proof.Machine
end
